-- ==== Sys2Proof/Word.lean ====
section
/-! DEFINITION. The bit-level words the manual itself treats as bits: a byte of a message, the 32-bit
uptime, and a timer, which is the uptime at which it expires or nothing when it is stopped. -/

namespace Sys2Proof

/-- A byte of a panel link frame or of a chassis frame. -/
abbrev Byte := BitVec 8

/-- The millisecond count of R46, an unsigned 32-bit count that wraps. -/
abbrev Uptime := BitVec 32

/-- A timer of R49: running with the uptime of its expiry, or stopped. -/
abbrev Timer := Option Uptime

end Sys2Proof
end

