-- ==== Sys2Proof/Syntax.lean ====
section
/-! DEFINITION. The commands of the part: one constructor of `Instr` for each row of spec/opcode_table.json, in the
table's order, with the operands the rules give the row. Host requests carry the tag of their frame (R166) and the
payload fields of R171 as the raw bytes the host sends, so that every value a host can send has its meaning. -/

namespace Sys2Proof

/-- The two drives of R55. -/
inductive DriveId | main | aux
  deriving DecidableEq, Repr

/-- The three lockout actions of R150, in index order. -/
inductive ActionId | inhibit | rollLimit | idleCap
  deriving DecidableEq, Repr

/-- How a character can arrive damaged on the panel link (R167). -/
inductive CharError | framing | parity
  deriving DecidableEq, Repr

/-- A chassis identifier with its format (R24): `ext` for the 29-bit format, else the 11-bit one. -/
structure CanId where
  ext : Bool
  num : BitVec 29
  deriving DecidableEq, Repr

/-- A frame of another node on the chassis bus (R24). -/
inductive BusFrame
  | data (id : CanId) (bytes : List Byte)
  | remote (id : CanId)
  deriving DecidableEq, Repr

/-- One field entry of a SET payload (R172): the field number and the bytes of the value. -/
structure FieldEntry where
  field : Byte
  value : List Byte
  deriving DecidableEq, Repr

/-- The commands, one for each row of the operations and events table. -/
inductive Instr
  /-- POWER_ON (R46): supply is applied. -/
  | powerOn
  /-- MILLISECOND_END (R47). -/
  | millisecondEnd
  /-- METER_WRITE_START (R53). -/
  | meterWriteStart
  /-- METER_WRITE_COMPLETE (R53). -/
  | meterWriteComplete
  /-- ANALOG_SAMPLE (R9): channel A`ch` converts to the 12-bit raw value. -/
  | analogSample (ch : Fin 10) (raw : BitVec 12)
  /-- HOLD_EXPIRY (R10). -/
  | holdExpiry (ch : Fin 10)
  /-- PULSE_INTERVAL (R15): input P`ch` counted this many pulses in the interval that closes. -/
  | pulseInterval (ch : Fin 3) (pulses : Nat)
  /-- DISCRETE_SAMPLE (R17): the electrical level at D`ch`. -/
  | discreteSample (ch : Fin 10) (level : Bool)
  /-- AGREEMENT_EXPIRY (R20). -/
  | agreementExpiry
  /-- RX_DATA_FRAME (R28). -/
  | rxDataFrame (id : CanId) (data : List Byte)
  /-- RX_REMOTE_FRAME (R39). -/
  | rxRemoteFrame (id : CanId)
  /-- RECEIVE_ERROR (R41). -/
  | receiveError
  /-- AGE_EXPIRY (R32). -/
  | ageExpiry (slot : Fin 16)
  /-- TRANSMIT_OFFER (R36). -/
  | transmitOffer
  /-- FRAME_SENT (R36). -/
  | frameSent
  /-- LOST_ARBITRATION (R36): `winner` is the winning frame when the port receives it correctly. -/
  | lostArbitration (winner : Option BusFrame)
  /-- TRANSMIT_ERROR (R41). -/
  | transmitError
  /-- RECOVERY_COMPLETE (R43). -/
  | recoveryComplete
  /-- BUS_JOIN (R44). -/
  | busJoin
  /-- T0_PERIOD (R37). -/
  | t0Period
  /-- T1_PERIOD (R38). -/
  | t1Period
  /-- T2_PERIOD (R39). -/
  | t2Period
  /-- CHASSIS_RECOVER (R43). -/
  | chassisRecover (tag : Byte)
  /-- PTO_ENGAGE (R59). -/
  | ptoEngage (tag : Byte) (drive : Byte)
  /-- PTO_DISENGAGE (R66). -/
  | ptoDisengage (tag : Byte) (drive : Byte)
  /-- REQUEST_RECHECK (R62). -/
  | requestRecheck (d : DriveId)
  /-- REQUEST_WINDOW_EXPIRY (R62). -/
  | requestWindowExpiry (d : DriveId)
  /-- SHIFT_TIMEOUT (R63). -/
  | shiftTimeout (d : DriveId)
  /-- SETTLE_EXPIRY (R64). -/
  | settleExpiry (d : DriveId)
  /-- WIND_DOWN_RECHECK (R67). -/
  | windDownRecheck (d : DriveId)
  /-- WIND_DOWN_NOTICE_EXPIRY (R67). -/
  | windDownNoticeExpiry (d : DriveId)
  /-- RELEASE_TIMEOUT (R68). -/
  | releaseTimeout (d : DriveId)
  /-- UNCOMMANDED_EXPIRY (R72). -/
  | uncommandedExpiry (d : DriveId)
  /-- FAULT_CLEAR (R74). -/
  | faultClear (tag : Byte) (drive : Byte)
  /-- GOVERNOR_STEP (R91). -/
  | governorStep
  /-- GOVERNOR_HOLD_EXPIRY (R84). -/
  | governorHoldExpiry
  /-- STOP_TIMER_EXPIRY (R83). -/
  | stopTimerExpiry
  /-- GOVERN (R87). -/
  | govern (tag : Byte) (mode : Byte) (setpoint : BitVec 16)
  /-- PUMP_IDLE (R89). -/
  | pumpIdle (tag : Byte)
  /-- RESUME (R90, R116). -/
  | resume (tag : Byte)
  /-- PROTECTION_STEP (R103). -/
  | protectionStep
  /-- QUALIFICATION_EXPIRY (R104). -/
  | qualificationExpiry
  /-- RESUME_TIMER_EXPIRY (R114): the protection step at which the resume timer reaches 0. -/
  | resumeTimerExpiry
  /-- GAUGE_EVENT (R124). -/
  | gaugeEvent
  /-- FILL_START (R137). -/
  | fillStart (tag : Byte) (target : BitVec 16)
  /-- FILL_STOP (R139). -/
  | fillStop (tag : Byte)
  /-- FILL_TIMEOUT (R139). -/
  | fillTimeout
  /-- FOAM (R133): the ratio is optional. -/
  | foam (tag : Byte) (selection : Byte) (ratio : Option Byte)
  /-- BURST_TIMER_EXPIRY (R142). -/
  | burstTimerExpiry
  /-- BURST_EVENT (R142). -/
  | burstEvent
  /-- HOLD_OFF_EXPIRY (R154). -/
  | holdOffExpiry (a : ActionId)
  /-- RELEASE (R155). -/
  | release (tag : Byte) (action : Byte)
  /-- FORCE (R156). -/
  | force (tag : Byte) (value : Byte)
  /-- OVERSPEED_EXPIRY (R162). -/
  | overspeedExpiry
  /-- FRAME_RECEIVED (R167): the whole host frame, from its sync byte to its last CRC byte. -/
  | frameReceived (frame : List Byte)
  /-- CHARACTER_ERROR (R167). -/
  | characterError (e : CharError)
  /-- INTER_BYTE_TIMEOUT (R167). -/
  | interByteTimeout
  /-- EXECUTION_START (R168). -/
  | executionStart
  /-- BREAK (R169). -/
  | lineBreak
  /-- UNKNOWN_KIND (R171). -/
  | unknownKind (tag : Byte) (kind : Byte)
  /-- IDENTIFY (R188). -/
  | identify (tag : Byte)
  /-- READ (R173). -/
  | read (tag : Byte) (object : Byte) (index : Byte)
  /-- SNAPSHOT (R175). -/
  | snapshot (tag : Byte)
  /-- SET (R173). -/
  | set (tag : Byte) (object : Byte) (index : Byte) (entries : List FieldEntry)
  /-- STORE (R186). -/
  | store (tag : Byte)
  /-- STORE_COMPLETE (R186). -/
  | storeComplete
  /-- RECALL (R187). -/
  | recall (tag : Byte)
  /-- MONITOR_ADD (R176). -/
  | monitorAdd (tag : Byte) (object : Byte) (index : Byte)
  /-- MONITOR_REMOVE (R176). -/
  | monitorRemove (tag : Byte) (object : Byte) (index : Byte)
  /-- SPACING_EXPIRY (R176): of the item at this place of the monitor list. -/
  | spacingExpiry (item : Fin 4)
  /-- REPORT_RATE (R177). -/
  | reportRate (tag : Byte) (period : BitVec 16)
  /-- STATUS_PERIOD (R177). -/
  | statusPeriod
  /-- TX_FRAME_START (R178). -/
  | txFrameStart
  /-- TX_FRAME_END (R178). -/
  | txFrameEnd
  /-- RESTART (R189). -/
  | restart (tag : Byte)
  /-- RESTART_PROCEED (R189). -/
  | restartProceed
  /-- SILENCE_EXPIRY (R190). -/
  | silenceExpiry
  /-- RUNDOWN_TIMEOUT (R191). -/
  | rundownTimeout
  /-- SETTLING_END (R193). -/
  | settlingEnd
  /-- RECEIVED_BYTE (R167). -/
  | receivedByte (b : Byte)
  /-- RECESSIVE_RUN (R43). -/
  | recessiveRun
  /-- LOSS_OF_SUPPLY (R53). -/
  | lossOfSupply
  deriving DecidableEq, Repr

end Sys2Proof
end

