-- ==== Sys2Proof/Decode.lean ====
section
/-! DEFINITION. The command that a word spells. No row of spec/opcode_table.json gives bits, so no word spells one: a
command comes from outside the part, through its queue. -/

/-- The command spelt by the low `nbits` bits of `w`: none, since no row of the table gives bits. -/
def Sys2Proof.decodeTableWord (_nbits _w : Nat) : Option Sys2Proof.Instr := none
end

