-- ==== Sys2Proof/Config.lean ====
section
/-! DEFINITION. What an implementation fixes and the spec gives no value for, and the free values: constants with
no body, so that no proof can rest on what they are. -/

namespace Sys2Proof

/-- The silicon revision byte of R188. The spec gives no value. Log entry 24. -/
opaque Config.siliconRevision : Byte

/-- The factory serial of R188: its byte at each of the six places. Written at manufacture; the spec gives no
value. Log entry 24. -/
opaque Config.factorySerial : Fin 6 → Byte

/-- FREE VALUE. The 2-byte signed field of a notice or a frame when the value to be carried does not fit it: the
spec states no result there. Log entry 25. -/
opaque Config.unfitSigned16 : Int → BitVec 16

/-- FREE VALUE. The 2-byte unsigned field of a notice or a frame when the value to be carried does not fit it: the
spec states no result there. Log entry 25. -/
opaque Config.unfitUnsigned16 : Nat → BitVec 16

end Sys2Proof
end

