-- ==== Sys2Proof/Machine/Arith.lean ====
section
/-! DEFINITION. Arithmetic with its rounding, the frame check, and how values are laid out as bytes. -/

namespace Sys2Proof.Machine

/-- Division that rounds half away from zero (R2). -/
def halfAway (num : Int) (den : Nat) : Int :=
  if 0 ≤ num then ((2 * num.natAbs + den) / (2 * den) : Nat)
  else -((2 * num.natAbs + den) / (2 * den) : Nat)

/-- Division that rounds half up, for numbers that are not negative (R128, R129, R138). -/
def halfUp (num den : Nat) : Nat := (2 * num + den) / (2 * den)

/-- A value limited to the range from `lo` to `hi`, both ends included. -/
def clampInt (lo hi x : Int) : Int := max lo (min hi x)

/-- A value limited to the range from `lo` to `hi`, both ends included. -/
def clampNat (lo hi x : Nat) : Nat := max lo (min hi x)

/-- The range of a signed 16-bit integer, as R7 and R29 limit to it. -/
def limit16 (x : Int) : Int := clampInt (-32768) 32767 x

/-- One shift of the check register of R166. -/
def crcShift (r : BitVec 16) : BitVec 16 :=
  if r.msb then (r <<< 1) ^^^ 0x1021#16 else r <<< 1

/-- One byte taken into the check register of R166. -/
def crcByte (r : BitVec 16) (b : Byte) : BitVec 16 :=
  let r := r ^^^ ((b.setWidth 16) <<< 8)
  crcShift (crcShift (crcShift (crcShift (crcShift (crcShift (crcShift (crcShift r)))))))

/-- The CRC-16 of R166 over a list of bytes: the register starts at 0xFFFF, no reflection, no inversion. -/
def crc16 (bs : List Byte) : BitVec 16 := bs.foldl crcByte 0xFFFF#16

/-- A number as one byte. -/
def u8 (n : Nat) : List Byte := [BitVec.ofNat 8 n]

/-- A number as two bytes, little-endian. -/
def u16 (n : Nat) : List Byte := [BitVec.ofNat 8 n, BitVec.ofNat 8 (n / 256)]

/-- A number as four bytes, little-endian. -/
def u32 (n : Nat) : List Byte :=
  [BitVec.ofNat 8 n, BitVec.ofNat 8 (n / 256), BitVec.ofNat 8 (n / 65536), BitVec.ofNat 8 (n / 16777216)]

/-- A signed number as one byte, two's complement. -/
def s8 (i : Int) : List Byte := u8 (i % 256).toNat

/-- A signed number as two bytes, two's complement, little-endian. -/
def s16 (i : Int) : List Byte := u16 (i % 65536).toNat

/-- A signed number as four bytes, two's complement, little-endian. -/
def s32 (i : Int) : List Byte := u32 (i % 4294967296).toNat

/-- A flag or an on/off setting as one byte: 0 clear or off, 1 set or on. No rule numbers them: log entry 76 (DESIGN
CHOICE). -/
def bool8 (b : Bool) : List Byte := u8 (if b then 1 else 0)

/-- The uptime as four bytes. -/
def up32 (u : Uptime) : List Byte := u32 u.toNat

/-- A field that may be absent: an absent field is carried with value length 0 (R172). -/
def optField {α : Type} (f : α → List Byte) : Option α → List Byte
  | none => []
  | some a => f a

/-- The 2-byte signed field of a notice or a chassis frame (R40, R184): 0x7FFF when absent; a free value when the
number does not fit. -/
def noticeS16 : Option Int → List Byte
  | none => s16 0x7FFF
  | some i => if -32768 ≤ i ∧ i ≤ 32767 then s16 i else u16 (Config.unfitSigned16 i).toNat

/-- The 2-byte unsigned field of a notice or a chassis frame (R40, R184): 0xFFFF when absent; a free value when the
number does not fit. -/
def noticeU16 : Option Nat → List Byte
  | none => u16 0xFFFF
  | some n => if n ≤ 65535 then u16 n else u16 (Config.unfitUnsigned16 n).toNat

/-- The number that little-endian bytes spell, unsigned. -/
def leNat : List Byte → Nat
  | [] => 0
  | b :: bs => b.toNat + 256 * leNat bs

/-- The number that little-endian bytes spell, two's complement. -/
def leInt (bs : List Byte) : Int :=
  let n := leNat bs
  if n < 2 ^ (8 * bs.length - 1) then (n : Int) else (n : Int) - ((2 ^ (8 * bs.length) : Nat) : Int)

/-- The sum of a list of levels or counts. -/
def sumNat (xs : List Nat) : Nat := xs.foldr (· + ·) 0

/-- The newest `n` entries of a list that is kept oldest first. -/
def newest {α : Type} (n : Nat) (xs : List α) : List α := xs.drop (xs.length - n)

end Sys2Proof.Machine
end

