-- ==== Sys2Proof/Machine/Kinds.lean ====
section
/-! DEFINITION. The named values of the records, each with the code it travels by: numbered from 0 in the order in which
the owning chapter lists them (R172), which is also the order of the codes that R40 and R184 give outright. -/

namespace Sys2Proof.Machine

/-- Power state of R190, in the order of the POWER object and of R184. -/
inductive PowerState
  | awake | rundown | watch | waking
  deriving DecidableEq, Repr

/-- The code of a PowerState. -/
def powerStateCode : PowerState → Nat
  | .awake => 0
  | .rundown => 1
  | .watch => 2
  | .waking => 3

/-- Cause of a change of the power state, in the order of R184. -/
inductive PowerCause
  | ignitionOff | linkSilent | ignitionOn | drivesReleased | rundownTimeout | ignition | brk | settled
  deriving DecidableEq, Repr

/-- The code of a PowerCause. -/
def powerCauseCode : PowerCause → Nat
  | .ignitionOff => 0
  | .linkSilent => 1
  | .ignitionOn => 2
  | .drivesReleased => 3
  | .rundownTimeout => 4
  | .ignition => 5
  | .brk => 6
  | .settled => 7

/-- Last wake cause of R190. -/
inductive WakeCause
  | none | ignition | brk
  deriving DecidableEq, Repr

/-- The code of a WakeCause. -/
def wakeCauseCode : WakeCause → Nat
  | .none => 0
  | .ignition => 1
  | .brk => 2

/-- Clock source of R48. -/
inductive ClockSource
  | mainOsc | watchClock | settling
  deriving DecidableEq, Repr

/-- The code of a ClockSource. -/
def clockSourceCode : ClockSource → Nat
  | .mainOsc => 0
  | .watchClock => 1
  | .settling => 2

/-- Channel kind of R4. -/
inductive ChannelKind
  | analog | pulse | discrete
  deriving DecidableEq, Repr

/-- The code of a ChannelKind. -/
def channelKindCode : ChannelKind → Nat
  | .analog => 0
  | .pulse => 1
  | .discrete => 2

/-- Channel state of R4. -/
inductive ChannelState
  | disabled | warming | valid | held | fault
  deriving DecidableEq, Repr

/-- The code of a ChannelState. -/
def channelStateCode : ChannelState → Nat
  | .disabled => 0
  | .warming => 1
  | .valid => 2
  | .held => 3
  | .fault => 4

/-- Fault cause of an analog channel (R4). -/
inductive ChannelCause
  | belowWindow | aboveWindow | rateJump
  deriving DecidableEq, Repr

/-- The code of a ChannelCause. -/
def channelCauseCode : ChannelCause → Nat
  | .belowWindow => 0
  | .aboveWindow => 1
  | .rateJump => 2

/-- Polarity of a discrete (R17). -/
inductive Polarity
  | activeHigh | activeLow
  deriving DecidableEq, Repr

/-- The code of a Polarity. -/
def polarityCode : Polarity → Nat
  | .activeHigh => 0
  | .activeLow => 1

/-- State of the park brake agreement monitor (R20). -/
inductive BrakeAgreement
  | notChecked | agree | disagreeTiming | disagree
  deriving DecidableEq, Repr

/-- The code of a BrakeAgreement. -/
def brakeAgreementCode : BrakeAgreement → Nat
  | .notChecked => 0
  | .agree => 1
  | .disagreeTiming => 2
  | .disagree => 3

/-- State of a receive slot (R27). -/
inductive SlotState
  | disabled | empty | fresh | stale | notAvailable
  deriving DecidableEq, Repr

/-- The code of a SlotState. -/
def slotStateCode : SlotState → Nat
  | .disabled => 0
  | .empty => 1
  | .fresh => 2
  | .stale => 3
  | .notAvailable => 4

/-- Byte order of a receive slot (R26). -/
inductive ByteOrder
  | lowFirst | highFirst
  deriving DecidableEq, Repr

/-- The code of a ByteOrder. -/
def byteOrderCode : ByteOrder → Nat
  | .lowFirst => 0
  | .highFirst => 1

/-- Signedness of a receive slot (R26). -/
inductive Signedness
  | unsigned | signed
  deriving DecidableEq, Repr

/-- The code of a Signedness. -/
def signednessCode : Signedness → Nat
  | .unsigned => 0
  | .signed => 1

/-- Port state of R25. -/
inductive PortState
  | errorActive | errorPassive | busOff | recovering | off
  deriving DecidableEq, Repr

/-- The code of a PortState. -/
def portStateCode : PortState → Nat
  | .errorActive => 0
  | .errorPassive => 1
  | .busOff => 2
  | .recovering => 3
  | .off => 4

/-- State of a transmit slot (R35). -/
inductive TxState
  | idle | pending | sending
  deriving DecidableEq, Repr

/-- The code of a TxState. -/
def txStateCode : TxState → Nat
  | .idle => 0
  | .pending => 1
  | .sending => 2

/-- Drive state of R55, with the codes of R40. -/
inductive DriveState
  | disengaged | requested | shifting | settling | engaged | windingDown | releasing | fault
  deriving DecidableEq, Repr

/-- The code of a DriveState. -/
def driveStateCode : DriveState → Nat
  | .disengaged => 0
  | .requested => 1
  | .shifting => 2
  | .settling => 3
  | .engaged => 4
  | .windingDown => 5
  | .releasing => 6
  | .fault => 7

/-- Fault cause of a drive (R55). -/
inductive DriveCause
  | shiftTimeout | releaseTimeout | dropped | uncommanded | settleLost | foundEngaged
  deriving DecidableEq, Repr

/-- The code of a DriveCause. -/
def driveCauseCode : DriveCause → Nat
  | .shiftTimeout => 0
  | .releaseTimeout => 1
  | .dropped => 2
  | .uncommanded => 3
  | .settleLost => 4
  | .foundEngaged => 5

/-- Reason codes of R55. -/
inductive Reason
  | notStationary | parkBrake | gear | engineSpeed | auxSpeed | brake | powerState | otherShift | windDown | state
  deriving DecidableEq, Repr

/-- The code of a Reason. -/
def reasonCode : Reason → Nat
  | .notStationary => 0
  | .parkBrake => 1
  | .gear => 2
  | .engineSpeed => 3
  | .auxSpeed => 4
  | .brake => 5
  | .powerState => 6
  | .otherShift => 7
  | .windDown => 8
  | .state => 9

/-- Governor mode of R77, with the codes of R40. -/
inductive GovMode
  | off | idle | pressure | speed | hold | roll
  deriving DecidableEq, Repr

/-- The code of a GovMode. -/
def govModeCode : GovMode → Nat
  | .off => 0
  | .idle => 1
  | .pressure => 2
  | .speed => 3
  | .hold => 4
  | .roll => 5

/-- Resume mode of R77. -/
inductive ResumeMode
  | pressure | speed
  deriving DecidableEq, Repr

/-- The code of a ResumeMode. -/
def resumeModeCode : ResumeMode → Nat
  | .pressure => 0
  | .speed => 1

/-- Throttle path of R85. -/
inductive ThrottlePath
  | available | lost
  deriving DecidableEq, Repr

/-- The code of a ThrottlePath. -/
def throttlePathCode : ThrottlePath → Nat
  | .available => 0
  | .lost => 1

/-- Protection condition state of R101. -/
inductive ProtState
  | inactive | active | unknown
  deriving DecidableEq, Repr

/-- The code of a ProtState. -/
def protStateCode : ProtState → Nat
  | .inactive => 0
  | .active => 1
  | .unknown => 2

/-- Event of a PROTECT notice, in the order of R184. -/
inductive ProtEvent
  | active | cleared | unknown | latched | free | disabled
  deriving DecidableEq, Repr

/-- The code of a ProtEvent. -/
def protEventCode : ProtEvent → Nat
  | .active => 0
  | .cleared => 1
  | .unknown => 2
  | .latched => 3
  | .free => 4
  | .disabled => 5

/-- Protection ceiling state of R112. -/
inductive CeilState
  | free | falling | floor | waiting | latched | rising
  deriving DecidableEq, Repr

/-- The code of a CeilState. -/
def ceilStateCode : CeilState → Nat
  | .free => 0
  | .falling => 1
  | .floor => 2
  | .waiting => 3
  | .latched => 4
  | .rising => 5

/-- Release mode of an action and ceiling resume mode (R102, R150). -/
inductive AutoManual
  | auto | manual
  deriving DecidableEq, Repr

/-- The code of a AutoManual. -/
def autoManualCode : AutoManual → Nat
  | .auto => 0
  | .manual => 1

/-- Tank state of R120, with the codes of R40. -/
inductive TankState
  | absent | unknown | stable | sloshing | filling | fault
  deriving DecidableEq, Repr

/-- The code of a TankState. -/
def tankStateCode : TankState → Nat
  | .absent => 0
  | .unknown => 1
  | .stable => 2
  | .sloshing => 3
  | .filling => 4
  | .fault => 5

/-- End reason of a fill (R137). -/
inductive FillReason
  | target | full | timeout | stopped | sensor | moved | power
  deriving DecidableEq, Repr

/-- The code of a FillReason. -/
def fillReasonCode : FillReason → Nat
  | .target => 0
  | .full => 1
  | .timeout => 2
  | .stopped => 3
  | .sensor => 4
  | .moved => 5
  | .power => 6

/-- Foam selection of R133. -/
inductive FoamSel
  | off | foamA | foamB
  deriving DecidableEq, Repr

/-- The code of a FoamSel. -/
def foamSelCode : FoamSel → Nat
  | .off => 0
  | .foamA => 1
  | .foamB => 2

/-- Last burst result of R141. -/
inductive BurstResult
  | none | stable | sloshing | noReading
  deriving DecidableEq, Repr

/-- The code of a BurstResult. -/
def burstResultCode : BurstResult → Nat
  | .none => 0
  | .stable => 1
  | .sloshing => 2
  | .noReading => 3

/-- Action state of R150. -/
inductive ActionState
  | released | asserted | holdingOff | latched | pending
  deriving DecidableEq, Repr

/-- The code of a ActionState. -/
def actionStateCode : ActionState → Nat
  | .released => 0
  | .asserted => 1
  | .holdingOff => 2
  | .latched => 3
  | .pending => 4

/-- State of the roll overspeed monitor (R161). -/
inductive OverspeedState
  | off | watching | timing | tripped
  deriving DecidableEq, Repr

/-- The code of a OverspeedState. -/
def overspeedStateCode : OverspeedState → Nat
  | .off => 0
  | .watching => 1
  | .timing => 2
  | .tripped => 3

/-- Parity of the panel link (R165). -/
inductive Parity
  | none | even
  deriving DecidableEq, Repr

/-- The code of a Parity. -/
def parityCode : Parity → Nat
  | .none => 0
  | .even => 1

/-- Result codes of R170. -/
inductive ResultCode
  | ok | okClamped | accepted | refusedState | refusedCondition | busy | badObject | badValue | badLength | unknownKind
  deriving DecidableEq, Repr

/-- The code of a ResultCode. -/
def resultCodeCode : ResultCode → Nat
  | .ok => 0
  | .okClamped => 1
  | .accepted => 2
  | .refusedState => 3
  | .refusedCondition => 4
  | .busy => 5
  | .badObject => 6
  | .badValue => 7
  | .badLength => 8
  | .unknownKind => 9

/-- Class of a notice (R180). -/
inductive NoticeClass
  | alarm | warning | info
  deriving DecidableEq, Repr

/-- The code of a NoticeClass. -/
def noticeClassCode : NoticeClass → Nat
  | .alarm => 0
  | .warning => 1
  | .info => 2

/-- Stored copy state of R185. -/
inductive CopyState
  | valid | invalid | writing
  deriving DecidableEq, Repr

/-- The code of a CopyState. -/
def copyStateCode : CopyState → Nat
  | .valid => 0
  | .invalid => 1
  | .writing => 2

/-- Settings source of R185. -/
inductive SettingsSource
  | stored | defaults
  deriving DecidableEq, Repr

/-- The code of a SettingsSource. -/
def settingsSourceCode : SettingsSource → Nat
  | .stored => 0
  | .defaults => 1

/-- Meter block state of R52. -/
inductive MeterBlockState
  | valid | defaulted
  deriving DecidableEq, Repr

/-- The code of a MeterBlockState. -/
def meterBlockStateCode : MeterBlockState → Nat
  | .valid => 0
  | .defaulted => 1

/-- Cause of a LINK_READY notice, in the order of R184. -/
inductive ReadyCause
  | powerOn | restart | brk | wake
  deriving DecidableEq, Repr

/-- The code of a ReadyCause. -/
def readyCauseCode : ReadyCause → Nat
  | .powerOn => 0
  | .restart => 1
  | .brk => 2
  | .wake => 3

/-- Event of a GOVERNOR_HOLD notice, in the order of R184. -/
inductive HoldEvent
  | entered | recovered | expired
  deriving DecidableEq, Repr

/-- The code of a HoldEvent. -/
def holdEventCode : HoldEvent → Nat
  | .entered => 0
  | .recovered => 1
  | .expired => 2

/-- The notice kinds of R184. -/
inductive NoticeKind
  | linkReady | settingsDefaulted | metersDefaulted | powerState | channelFault | channelRecovered | slotStale | chassisState
  | ptoEngaged | ptoDisengaged | ptoRefused | ptoFault | governorHold | throttlePathLost | protect | tankLevel
  | tankReconcile | fillDone | tankLeak | lockout | drivingWithCondition | rollOverspeed
  deriving DecidableEq, Repr

/-- The code of a notice kind (R184). -/
def noticeKindCode : NoticeKind → Nat
  | .linkReady => 1
  | .settingsDefaulted => 2
  | .metersDefaulted => 3
  | .powerState => 4
  | .channelFault => 5
  | .channelRecovered => 6
  | .slotStale => 7
  | .chassisState => 8
  | .ptoEngaged => 9
  | .ptoDisengaged => 10
  | .ptoRefused => 11
  | .ptoFault => 12
  | .governorHold => 13
  | .throttlePathLost => 14
  | .protect => 15
  | .tankLevel => 16
  | .tankReconcile => 17
  | .fillDone => 18
  | .tankLeak => 19
  | .lockout => 20
  | .drivingWithCondition => 21
  | .rollOverspeed => 22

/-- A drive's index (R55). -/
def driveIndex : DriveId → Nat
  | .main => 0
  | .aux => 1

/-- The other drive. -/
def otherDrive : DriveId → DriveId
  | .main => .aux
  | .aux => .main

/-- An action's index (R150). -/
def actionIndex : ActionId → Nat
  | .inhibit => 0
  | .rollLimit => 1
  | .idleCap => 2

/-- The rank of a notice class: ALARM is higher than WARNING and WARNING than INFO (R181). -/
def classRank : NoticeClass → Nat
  | .alarm => 2
  | .warning => 1
  | .info => 0

/-- The three words of 00_scope.md for the vehicle. -/
inductive VehicleState
  | stationary | moving | unknown
  deriving DecidableEq, Repr

/-- The three tanks of R120, in index order. -/
inductive TankId
  | water | foamA | foamB
  deriving DecidableEq, Repr

/-- A tank's index (R120). -/
def tankIndex : TankId → Nat
  | .water => 0
  | .foamA => 1
  | .foamB => 2

/-- The objects of R172 with their indices. -/
inductive Obj
  | channel (i : Fin 23) | rxSlot (i : Fin 16) | txSlot (i : Fin 4) | quantity (i : Fin 6)
  | drive (d : DriveId) | governor | protection | tank (t : TankId) | strap (t : TankId)
  | condition (i : Fin 11) | action (a : ActionId)
  | timebase | meters | link | chassis | power | identity
  deriving DecidableEq, Repr

end Sys2Proof.Machine
end

