-- ==== Sys2Proof/Machine/Settings.lean ====
section
/-! DEFINITION. The working settings of every block (R185) and their factory defaults. One `Settings` is also the
image that the stored copy holds. -/

namespace Sys2Proof.Machine

/-- The settings of an analog channel (R5). -/
structure AnalogSettings where
  enabled : Bool
  rawLo : Nat
  rawHi : Nat
  engLo : Int
  engHi : Int
  windowLo : Nat
  windowHi : Nat
  rateLimit : Nat
  acceptJumps : Bool
  holdLimit : Nat
  recoverCount : Nat
  k : Nat
  deriving DecidableEq, Repr

/-- The settings of a receive slot (R26). -/
structure RxSettings where
  enabled : Bool
  ident : BitVec 29
  mask : BitVec 29
  ext : Bool
  bound : Option (Fin 6)
  byteOffset : Nat
  width : Nat
  order : ByteOrder
  sign : Signedness
  multiplier : Nat
  divisor : Nat
  offset : Int
  ageLimit : Nat
  jumpLimit : Nat
  naCheck : Bool
  deriving DecidableEq, Repr

/-- The settings of a transmit slot (R35). -/
structure TxSettings where
  ident : BitVec 29
  ext : Bool
  enabled : Bool
  deriving DecidableEq, Repr

/-- The settings of the port record (R25), and the standstill setting, which the CHASSIS object carries (R172). -/
structure ChassisSettings where
  bitRate : Nat
  autoRecovery : Bool
  autoAnswer : Bool
  standstill : Int
  deriving DecidableEq, Repr

/-- The PTO settings, one set shared by both drives (R56, R172). -/
structure PtoSettings where
  shiftLimit : Nat
  settleTime : Nat
  releaseLimit : Nat
  pumpGear : Int
  auxEngageSpeed : Int
  deriving DecidableEq, Repr

/-- The governor's settings (R78). -/
structure GovSettings where
  idleRpm : Int
  govMax : Int
  ki : Int
  kp : Int
  deadband : Int
  riseLimit : Int
  fallLimit : Int
  fastFallBand : Int
  fastFallStep : Int
  holdLimit : Nat
  pressureSetpoint : Int
  speedSetpoint : Int
  deriving DecidableEq, Repr

/-- The protection settings (R102). Temperatures are in 0.1 °C. -/
structure ProtSettings where
  intakeMin : Int
  emptyReserve : Nat
  critical : Int
  warn : Int
  maxPressure : Int
  coolantLimit : Int
  retreatStep : Int
  resumeDelay : Nat
  resumeMode : AutoManual
  enabled : Vector Bool 5
  deriving DecidableEq, Repr

/-- The settings that every tank has (R121), with its strapping table (R122). -/
structure TankSettings where
  settleBand : Nat
  reconcileLimit : Nat
  lowPercent : Nat
  strap : List (Nat × Nat)
  deriving DecidableEq, Repr

/-- The tank gauge's settings (R121). `ratioA` and `ratioB` are the foam ratio settings, in 0.1 %. -/
structure GaugeSettings where
  water : TankSettings
  foamA : TankSettings
  foamB : TankSettings
  spacing : Nat
  gauging : Nat
  floor : Nat
  fillMaxTime : Nat
  leakLimit : Nat
  ratioA : Nat
  ratioB : Nat
  deriving DecidableEq, Repr

/-- The settings of an action (R150). -/
structure ActionSettings where
  holdOff : Nat
  mode : AutoManual
  deriving DecidableEq, Repr

/-- The lockout unit's settings (R147, R150, R158, R161, R162). -/
structure LockSettings where
  actionSets : Vector (List ActionId) 11
  inhibit : ActionSettings
  rollLimit : ActionSettings
  idleCap : ActionSettings
  rollSpeedLimit : Int
  rollRpmMax : Int
  overspeedTime : Nat
  autoDrop : Bool
  deriving DecidableEq, Repr

/-- The settings of the panel link (R165, R177). -/
structure LinkSettings where
  bitRate : Nat
  parity : Parity
  reportPeriod : Nat
  deriving DecidableEq, Repr

/-- The working settings of every block (R185). -/
structure Settings where
  analog : Vector AnalogSettings 10
  pprMain : Nat
  pprAux : Nat
  ppl : Nat
  polarity : Vector Polarity 10
  rx : Vector RxSettings 16
  tx : Vector TxSettings 4
  chassis : ChassisSettings
  trim : Int
  pto : PtoSettings
  gov : GovSettings
  prot : ProtSettings
  gauge : GaugeSettings
  lock : LockSettings
  link : LinkSettings
  linkIdle : Nat
  deriving DecidableEq, Repr

/-- An analog channel with the defaults that are the same for all (R5). -/
def analogDefault (enabled : Bool) (rawLo rawHi : Nat) (engLo engHi : Int) (rateLimit k : Nat) : AnalogSettings :=
  { enabled, rawLo, rawHi, engLo, engHi, windowLo := 200, windowHi := 3890, rateLimit, acceptJumps := false,
    holdLimit := 300, recoverCount := 4, k }

/-- The factory defaults of A0 to A9 (R5). -/
def factoryAnalog : Vector AnalogSettings 10 := #v[
  analogDefault true 410 3686 0 4000 1000 1,
  analogDefault true 410 3686 (-100) 1600 600 1,
  analogDefault true 410 3686 0 4000 1000 1,
  analogDefault true 410 3686 0 2000 150 0,
  analogDefault true 410 3686 0 2000 150 0,
  analogDefault true 410 3686 0 1000 150 0,
  analogDefault true 410 3686 0 1000 150 0,
  analogDefault true 410 3686 (-400) 1500 50 2,
  analogDefault true 0 4095 0 3600 0 2,
  analogDefault false 410 3686 0 4000 0 0]

/-- A delivered receive slot bound to a quantity (R26). -/
def rxBound (ident : BitVec 29) (q : Fin 6) (byteOffset width : Nat) (sign : Signedness) (multiplier divisor : Nat)
    (offset : Int) (jumpLimit : Nat) : RxSettings :=
  { enabled := true, ident, mask := 0x7FF#29, ext := false, bound := some q, byteOffset, width, order := .lowFirst,
    sign, multiplier, divisor, offset, ageLimit := 300, jumpLimit, naCheck := true }

/-- A delivered receive slot that is disabled and unbound (R26). Its byte offset, its byte order and its extended flag,
and with the flag the width of "mask all ones", are given by no table: log entry 28 (DESIGN CHOICE). -/
def rxUnbound : RxSettings :=
  { enabled := false, ident := 0, mask := 0x7FF#29, ext := false, bound := none, byteOffset := 0, width := 1,
    order := .lowFirst, sign := .unsigned, multiplier := 1, divisor := 1, offset := 0, ageLimit := 300,
    jumpLimit := 0, naCheck := true }

/-- The factory settings of the sixteen receive slots (R26). -/
def factoryRx : Vector RxSettings 16 := #v[
  rxBound 0x1A0#29 0 0 2 .unsigned 1 1 0 1500,
  rxBound 0x1A1#29 1 0 2 .unsigned 1 4 0 0,
  rxBound 0x1A2#29 2 0 1 .signed 1 1 0 0,
  rxBound 0x1A3#29 3 0 1 .unsigned 1 1 0 0,
  rxBound 0x1A3#29 4 1 1 .unsigned 1 1 0 0,
  rxBound 0x1A4#29 5 0 1 .unsigned 10 1 (-400) 0,
  rxUnbound, rxUnbound, rxUnbound, rxUnbound, rxUnbound,
  rxUnbound, rxUnbound, rxUnbound, rxUnbound, rxUnbound]

/-- The factory settings of the four transmit slots (R35). -/
def factoryTx : Vector TxSettings 4 := #v[
  { ident := 0x0C0#29, ext := false, enabled := true },
  { ident := 0x0C8#29, ext := false, enabled := true },
  { ident := 0x3F0#29, ext := false, enabled := true },
  { ident := 0x3F8#29, ext := false, enabled := true }]

/-- The factory settings of the governor (R78). -/
def factoryGov : GovSettings :=
  { idleRpm := 700, govMax := 2200, ki := 40, kp := 96, deadband := 15, riseLimit := 40, fallLimit := 80,
    fastFallBand := 350, fastFallStep := 200, holdLimit := 2000, pressureSetpoint := 1000, speedSetpoint := 1200 }

/-- The factory settings of the protection monitor (R102). -/
def factoryProt : ProtSettings :=
  { intakeMin := -50, emptyReserve := 150, critical := 750, warn := 600, maxPressure := 2600, coolantLimit := 1050,
    retreatStep := 25, resumeDelay := 2000, resumeMode := .auto, enabled := #v[true, true, true, true, true] }

/-- The factory settings of the tank gauge (R121) and the factory strapping tables (R122). -/
def factoryGauge : GaugeSettings :=
  { water := { settleBand := 12, reconcileLimit := 100, lowPercent := 25, strap := [(0, 0), (1200, 3000)] }
    foamA := { settleBand := 12, reconcileLimit := 10, lowPercent := 25, strap := [(0, 0), (800, 200)] }
    foamB := { settleBand := 12, reconcileLimit := 10, lowPercent := 25, strap := [(0, 0), (800, 200)] }
    spacing := 3000, gauging := 1500, floor := 15, fillMaxTime := 600, leakLimit := 40, ratioA := 30, ratioB := 30 }

/-- The factory settings of the lockout unit (R147, R150, R158, R161, R162). -/
def factoryLock : LockSettings :=
  { actionSets := #v[[.inhibit], [.rollLimit], [.inhibit], [], [.inhibit], [.inhibit], [.inhibit], [], [.inhibit],
      [.inhibit, .idleCap], [.inhibit]]
    inhibit := { holdOff := 2000, mode := .auto }
    rollLimit := { holdOff := 1000, mode := .auto }
    idleCap := { holdOff := 0, mode := .auto }
    rollSpeedLimit := 1200, rollRpmMax := 1600, overspeedTime := 3, autoDrop := true }

/-- The factory defaults of every setting, as the chapters give them (R185). -/
def factorySettings : Settings :=
  { analog := factoryAnalog, pprMain := 60, pprAux := 60, ppl := 20,
    polarity := Vector.replicate 10 .activeHigh,
    rx := factoryRx, tx := factoryTx,
    chassis := { bitRate := 250, autoRecovery := true, autoAnswer := false, standstill := 200 },
    trim := 0,
    pto := { shiftLimit := 2000, settleTime := 1000, releaseLimit := 2000, pumpGear := 4, auxEngageSpeed := 500 },
    gov := factoryGov, prot := factoryProt, gauge := factoryGauge, lock := factoryLock,
    link := { bitRate := 115200, parity := .none, reportPeriod := 500 },
    linkIdle := 60 }

/-- The settings of one tank. -/
def tankSettings (g : GaugeSettings) : TankId → TankSettings
  | .water => g.water
  | .foamA => g.foamA
  | .foamB => g.foamB

/-- The settings of one action. -/
def actionSettings (l : LockSettings) : ActionId → ActionSettings
  | .inhibit => l.inhibit
  | .rollLimit => l.rollLimit
  | .idleCap => l.idleCap

/-- The fixed actions of a condition: INHIBIT for C0 and C2, none for the others (R147). -/
def fixedActions (c : Fin 11) : List ActionId :=
  if c = 0 ∨ c = 2 then [.inhibit] else []

end Sys2Proof.Machine
end

