-- ==== Sys2Proof/Machine/Records.lean ====
section
/-! DEFINITION. The records of the blocks, each with the contents it takes at a starting point. -/

namespace Sys2Proof.Machine

/-! ### Time base (R46 to R54) -/

/-- One hour meter: its value in 0.01 h, its remainder in ms, and its written value (R51, R53). -/
structure Meter where
  value : Nat
  remainder : Nat
  written : Nat
  deriving DecidableEq, Repr

/-- The time base's records (R46, R47, R52, R53). `step` is the length of the present millisecond in microsecond
steps; `writeDue` says that a meter write has fallen due and has not begun: several that have fallen due are made as
one, which R53 leaves open. Log entry 55 (DESIGN CHOICE). -/
structure TimeBase where
  uptime : Uptime
  trimRemainder : Int
  step : Nat
  mainPumping : Meter
  auxPumping : Meter
  roll : Meter
  blockState : MeterBlockState
  lastWrite : Uptime
  writeDue : Bool
  deriving DecidableEq, Repr

/-- What the non-volatile memory is doing (R53, R186): nothing, a meter write of three values, or a STORE. A meter
write carries whether an entry to WATCH and whether a restart waits for this very write. -/
inductive NvActivity
  | idle
  | meterWrite (main aux roll : Nat) (forWatch forRestart : Bool)
  | store
  deriving DecidableEq, Repr

/-- The non-volatile memory: the stored copy of the settings and the meter block, each with whether its CRC holds
(R53, R185), the write in progress, and whether a STORE waits for it. -/
structure NonVolatile where
  stored : Settings
  storedIntact : Bool
  meterMain : Nat
  meterAux : Nat
  meterRoll : Nat
  metersIntact : Bool
  activity : NvActivity
  storeWaiting : Bool
  deriving DecidableEq, Repr

/-! ### Input scanner (R4 to R23) -/

/-- An analog channel's record (R4). `lastGood` is also the filter's output (R12); `lastReject` is the cause of the
most recent rejected sample (R8); `next` times the sample period (R5). -/
structure AnalogChan where
  state : ChannelState
  raw : Nat
  eng : Option Int
  lastGood : Int
  cause : Option ChannelCause
  good : Nat
  hold : Timer
  lastReject : Option ChannelCause
  next : Timer
  deriving DecidableEq, Repr

/-- A pulse channel's record (R15): ten sub-counts, oldest first. -/
structure PulseChan where
  subCounts : List Nat
  raw : Nat
  eng : Int
  next : Timer
  deriving DecidableEq, Repr

/-- A discrete channel's record (R17): the electrical level, the debounced level, the debounce count, and whether its
first sample after a starting point is still to come (R21). -/
structure DiscreteChan where
  raw : Bool
  level : Bool
  count : Nat
  awaitFirst : Bool
  next : Timer
  deriving DecidableEq, Repr

/-- The park brake agreement monitor (R20). -/
structure BrakeMonitor where
  state : BrakeAgreement
  timer : Timer
  deriving DecidableEq, Repr

/-- The input scanner's channel table (R4). -/
structure Inputs where
  analog : Vector AnalogChan 10
  pulse : Vector PulseChan 3
  discrete : Vector DiscreteChan 10
  brake : BrakeMonitor
  deriving DecidableEq, Repr

/-- An analog channel at a starting point: WARMING when enabled, else DISABLED (R5, R21). -/
def analogStart (enabled : Bool) : AnalogChan :=
  { state := if enabled then .warming else .disabled, raw := 0, eng := none, lastGood := 0, cause := none, good := 0,
    hold := none, lastReject := none, next := none }

/-- A pulse channel at a starting point (R21). -/
def pulseStart : PulseChan :=
  { subCounts := [0, 0, 0, 0, 0, 0, 0, 0, 0, 0], raw := 0, eng := 0, next := none }

/-- A discrete channel at a starting point: level 0 until its first sample (R21). -/
def discreteStart : DiscreteChan :=
  { raw := false, level := false, count := 0, awaitFirst := true, next := none }

/-- The channel table at a starting point (R21). -/
def inputsStart (c : Settings) : Inputs :=
  { analog := c.analog.map (fun a => analogStart a.enabled)
    pulse := #v[pulseStart, pulseStart, pulseStart]
    discrete := Vector.replicate 10 discreteStart
    brake := { state := .notChecked, timer := none } }

/-! ### Chassis port (R24 to R45) -/

/-- A receive slot's record (R27). -/
structure RxSlot where
  state : SlotState
  lastRaw : Nat
  decoded : Option Int
  stamp : Uptime
  accepted : Nat
  rejections : Nat
  short : Bool
  age : Timer
  /-- The model's own field: the age timer expired in the present millisecond of uptime (R32). Log entry 83. -/
  expiredNow : Bool
  deriving DecidableEq, Repr

/-- A transmit slot's record (R35). -/
structure TxSlot where
  state : TxState
  dueAgain : Bool
  lastSent : Uptime
  deriving DecidableEq, Repr

/-- The frame that the port is sending (R36): its slot, and the identifier and the content it was offered with. -/
structure OfferedFrame where
  slot : Fin 4
  id : CanId
  bytes : List Byte
  deriving DecidableEq, Repr

/-- The chassis port: its slots, the port record (R25), whether it has joined the bus (R44), the frame
being sent (R36), and the periods of T0 to T2 (R37 to R39). -/
structure Chassis where
  rx : Vector RxSlot 16
  tx : Vector TxSlot 4
  port : PortState
  txErrors : Nat
  rxErrors : Nat
  progress : Nat
  joined : Bool
  content : Option OfferedFrame
  t0 : Timer
  t1 : Timer
  t2 : Timer
  deriving DecidableEq, Repr

/-- A receive slot at a starting point, and the contents of a DISABLED one (R27, R44). -/
def rxStart (enabled : Bool) : RxSlot :=
  { state := if enabled then .empty else .disabled, lastRaw := 0, decoded := none, stamp := 0, accepted := 0,
    rejections := 0, short := false, age := none, expiredNow := false }

/-- A transmit slot at a starting point (R44). -/
def txStart : TxSlot := { state := .idle, dueAgain := false, lastSent := 0 }

/-- The chassis port at a starting point (R44). -/
def chassisStart (c : Settings) : Chassis :=
  { rx := c.rx.map (fun r => rxStart r.enabled), tx := #v[txStart, txStart, txStart, txStart],
    port := .errorActive, txErrors := 0, rxErrors := 0, progress := 0, joined := false, content := none,
    t0 := none, t1 := none, t2 := none }

/-! ### PTO sequencer (R55 to R76) -/

/-- A drive record (R55) with the drive's timers. `shiftStart` is the uptime of the latest entry to SHIFTING, which
PTO_ENGAGED needs (R64); `recheck` times the 10 ms checks (R62, R67). -/
structure Drive where
  state : DriveState
  cause : Option DriveCause
  ready : Bool
  reason : Option Reason
  waiver : Bool
  entered : Uptime
  shiftStart : Uptime
  window : Timer
  shift : Timer
  settle : Timer
  release : Timer
  windDown : Timer
  uncommanded : Timer
  recheck : Timer
  deriving DecidableEq, Repr

/-- The two drive records (R55). -/
structure Pto where
  main : Drive
  aux : Drive
  deriving DecidableEq, Repr

/-- A drive record at a starting point (R75). -/
def driveStart (now : Uptime) : Drive :=
  { state := .disengaged, cause := none, ready := false, reason := none, waiver := false, entered := now,
    shiftStart := 0, window := none, shift := none, settle := none, release := none, windDown := none,
    uncommanded := none, recheck := none }

/-- One drive's record. -/
def Pto.drive (p : Pto) : DriveId → Drive
  | .main => p.main
  | .aux => p.aux

/-- Both records with one replaced. -/
def Pto.setDrive (p : Pto) : DriveId → Drive → Pto
  | .main, d => { p with main := d }
  | .aux, d => { p with aux := d }

/-! ### Pump governor (R77 to R100) -/

/-- The governor record (R77), with the timer of its step period (R91). -/
structure Governor where
  mode : GovMode
  governed : Option DriveId
  windDown : Option DriveId
  request : Int
  prevError : Int
  firstStep : Bool
  resume : Option ResumeMode
  path : ThrottlePath
  ceiling : Int
  hold : Timer
  stop : Timer
  next : Timer
  deriving DecidableEq, Repr

/-- The governor at a starting point (R99). -/
def governorStart (now : Uptime) (g : GovSettings) : Governor :=
  { mode := .off, governed := none, windDown := none, request := g.idleRpm, prevError := 0, firstStep := false,
    resume := none, path := .available, ceiling := g.govMax, hold := none, stop := none,
    next := some (now + 20#32) }

/-! ### Protection monitor (R101 to R119) -/

/-- A protection condition record (R101), less its enabled setting. -/
structure ProtCond where
  state : ProtState
  activated : Uptime
  entered : Uptime
  deriving DecidableEq, Repr

/-- The ceiling record (R112). `steps` is the resume timer: stopped, or the steps still to pass. -/
structure Ceiling where
  value : Int
  state : CeilState
  steps : Option Nat
  entered : Uptime
  deriving DecidableEq, Repr

/-- The protection monitor: five conditions, P0's qualification timer, the recirculation flag, the ceiling, and the
timer of the protection step (R101, R103, R104, R110, R112). -/
structure Protection where
  conds : Vector ProtCond 5
  qualification : Timer
  recirc : Bool
  ceiling : Ceiling
  next : Timer
  deriving DecidableEq, Repr

/-- A protection condition at a starting point (R118). -/
def protCondStart : ProtCond := { state := .inactive, activated := 0, entered := 0 }

/-- The protection monitor at a starting point (R118). The period of the protection step runs from 15 ms after it
(R103): log entry 9. -/
def protectionStart (now : Uptime) (g : GovSettings) : Protection :=
  { conds := #v[protCondStart, protCondStart, protCondStart, protCondStart, protCondStart], qualification := none,
    recirc := false, ceiling := { value := g.govMax, state := .free, steps := none, entered := now },
    next := some (now + 35#32) }

/-! ### Tank gauge (R120 to R146) -/

/-- A tank record (R120). The window is kept oldest first. -/
structure Tank where
  state : TankState
  centre : Option Nat
  stable : Option Nat
  reported : Option Nat
  lastStable : Option Nat
  consumed : Nat
  remainder : Nat
  partialFlag : Bool
  low : Bool
  empty : Bool
  remaining : Option Nat
  reconciliation : Option Int
  window : List Nat
  deriving DecidableEq, Repr

/-- The fill record (R137). -/
structure Fill where
  active : Bool
  target : Option Nat
  start : Uptime
  timer : Timer
  endReason : Option FillReason
  finalVolume : Option Nat
  deriving DecidableEq, Repr

/-- The leak-watch record (R141), with the burst in progress: the burst events taken so far and the timer of the next
one (R142). -/
structure LeakWatch where
  armed : Bool
  reference : Option Nat
  bursts : Nat
  result : BurstResult
  resultVolume : Option Nat
  leak : Bool
  timer : Timer
  burst : Option Nat
  burstNext : Timer
  deriving DecidableEq, Repr

/-- The tank gauge's records (R120, R133, R137, R141). `tilt` is D; `next` times the gauge event (R124). -/
structure TankGauge where
  water : Tank
  foamA : Tank
  foamB : Tank
  tilt : Int
  fill : Fill
  foam : FoamSel
  ratio : Nat
  leak : LeakWatch
  next : Timer
  deriving DecidableEq, Repr

/-- A tank record that holds nothing: at power-on and RESTART (R144), and after a restart of the tank (R123). A table
of fewer than 2 points makes the tank ABSENT (R122). -/
def tankStart (strap : List (Nat × Nat)) : Tank :=
  { state := if 2 ≤ strap.length then .unknown else .absent, centre := none, stable := none, reported := none,
    lastStable := none, consumed := 0, remainder := 0, partialFlag := false, low := false, empty := false,
    remaining := none, reconciliation := none, window := [] }

/-- The fill record at power-on and RESTART (R144). Its start timestamp then reads 0: log entry 28. -/
def fillStartRecord : Fill :=
  { active := false, target := none, start := 0, timer := none, endReason := none, finalVolume := none }

/-- The leak-watch record at power-on and RESTART (R141). -/
def leakStart : LeakWatch :=
  { armed := false, reference := none, bursts := 0, result := .none, resultVolume := none, leak := false,
    timer := none, burst := none, burstNext := none }

/-- The tank gauge at power-on and RESTART (R144). The foam ratio then reads 30: log entry 27. -/
def gaugeStart (now : Uptime) (g : GaugeSettings) : TankGauge :=
  { water := tankStart g.water.strap, foamA := tankStart g.foamA.strap, foamB := tankStart g.foamB.strap, tilt := 0,
    fill := fillStartRecord, foam := .off, ratio := 30, leak := leakStart, next := some (now + 50#32) }

/-- One tank's record. -/
def TankGauge.tank (g : TankGauge) : TankId → Tank
  | .water => g.water
  | .foamA => g.foamA
  | .foamB => g.foamB

/-- The records with one tank's replaced. -/
def TankGauge.setTank (g : TankGauge) : TankId → Tank → TankGauge
  | .water, t => { g with water := t }
  | .foamA, t => { g with foamA := t }
  | .foamB, t => { g with foamB := t }

/-! ### Lockout unit (R147 to R164) -/

/-- A lockout condition record (R147), less its action set and fixed actions. -/
structure LockCond where
  active : Bool
  changed : Uptime
  deriving DecidableEq, Repr

/-- An action record (R150). -/
structure Action where
  state : ActionState
  contributors : List (Fin 11)
  holdOff : Timer
  entered : Uptime
  deriving DecidableEq, Repr

/-- The lockout unit's records. `forced` is what FORCE last asked of C10; `evaluated` says that the first evaluation
has taken place; `starting` that INHIBIT's set has not yet been found empty since then (R163). -/
structure Lockout where
  conds : Vector LockCond 11
  inhibit : Action
  rollLimit : Action
  idleCap : Action
  driving : Option (Fin 11)
  overspeed : OverspeedState
  overspeedTimer : Timer
  forced : Bool
  evaluated : Bool
  starting : Bool
  deriving DecidableEq, Repr

/-- An action at a starting point, in the state given (R163). -/
def actionStart (now : Uptime) (st : ActionState) : Action :=
  { state := st, contributors := [], holdOff := none, entered := now }

/-- The lockout unit at power-on and RESTART (R163). -/
def lockoutStart (now : Uptime) : Lockout :=
  { conds := Vector.replicate 11 { active := false, changed := 0 }
    inhibit := actionStart now .asserted, rollLimit := actionStart now .released,
    idleCap := actionStart now .released, driving := none, overspeed := .off, overspeedTimer := none,
    forced := false, evaluated := false, starting := true }

/-- One action's record. -/
def Lockout.action (l : Lockout) : ActionId → Action
  | .inhibit => l.inhibit
  | .rollLimit => l.rollLimit
  | .idleCap => l.idleCap

/-- The records with one action's replaced. -/
def Lockout.setAction (l : Lockout) : ActionId → Action → Lockout
  | .inhibit, a => { l with inhibit := a }
  | .rollLimit, a => { l with rollLimit := a }
  | .idleCap, a => { l with idleCap := a }

/-! ### Panel link (R165 to R179) -/

/-- A received host frame, its CRC checked (R166). -/
structure HostFrame where
  kind : Byte
  tag : Byte
  payload : List Byte
  deriving DecidableEq, Repr

/-- A request whose execution takes time (R168): a STORE, with whether a link restart has discarded its reply, and a
RESTART, with whether it has gone on to its meter write (R189), or, when that has completed in WAKING, a restart that waits
for the end of the settling period (R48). -/
inductive Executing
  | store (tag : Byte) (discarded : Bool)
  | restart (proceeding : Bool)
  | restarting
  deriving DecidableEq, Repr

/-- The reply in the reply slot (R168, R170), with how many of its parts have begun. -/
structure Reply where
  tag : Byte
  code : ResultCode
  body : List Byte
  begun : Nat
  deriving DecidableEq, Repr

/-- An item of the monitor list (R176). -/
structure MonItem where
  ref : Obj
  spacing : Timer
  changePending : Bool
  deriving DecidableEq, Repr

/-- What the frame on the transmit line is (R178). -/
inductive TxKind
  | reply | notice | change | status
  deriving DecidableEq, Repr

/-- The frame on the transmit line with all its bytes (R166). -/
structure TxFrame where
  kind : TxKind
  bytes : List Byte
  deriving DecidableEq, Repr

/-- The panel link. `assembly` is the frame in assembly, empty while hunting; `ready` lists the CHANGE reports that
are ready, oldest first; `changeTail` the parts of a CHANGE report still to be sent; `lineBitRate` and `lineParity`
are in force on the line, and `linePending` says that a change of them awaits the end of a reply (R165). -/
structure Link where
  assembly : List Byte
  interByte : Timer
  awaiting : Option HostFrame
  executing : Option Executing
  reply : Option Reply
  framing : Bool
  parity : Bool
  checksum : Bool
  overrun : Bool
  lastHeard : Uptime
  seq : Byte
  monitors : List MonItem
  ready : List Obj
  changeTail : List (List Byte)
  statusTimer : Timer
  statusDue : Bool
  tx : Option TxFrame
  lineBitRate : Nat
  lineParity : Parity
  linePending : Bool
  deriving DecidableEq, Repr

/-- The report period's timer, stopped when the period is 0 (R177). -/
def statusTimerFrom (now : Uptime) (period : Nat) : Timer :=
  if period = 0 then none else some (now + BitVec.ofNat 32 period)

/-- The link at a starting point (R179). -/
def linkStart (now : Uptime) (c : LinkSettings) : Link :=
  { assembly := [], interByte := none, awaiting := none, executing := none, reply := none, framing := false,
    parity := false, checksum := false, overrun := false, lastHeard := now, seq := 0, monitors := [], ready := [],
    changeTail := [], statusTimer := statusTimerFrom now c.reportPeriod, statusDue := false, tx := none,
    lineBitRate := c.bitRate, lineParity := c.parity, linePending := false }

/-! ### Notice queue, settings record, power controller (R180 to R193) -/

/-- A notice as a block posts it (R181). -/
structure Notice where
  kind : NoticeKind
  cls : NoticeClass
  subject : Nat
  detail : List Byte
  deriving DecidableEq, Repr

/-- An entry of the notice queue (R180). -/
structure Entry where
  kind : NoticeKind
  cls : NoticeClass
  subject : Nat
  stamp : Uptime
  repeats : Nat
  detail : List Byte
  sending : Bool
  deriving DecidableEq, Repr

/-- The notice queue, oldest first, and the notices-lost flag (R180, R182). -/
structure NoticeQueue where
  entries : List Entry
  lost : Bool
  deriving DecidableEq, Repr

/-- The settings record (R185). -/
structure StoreRecord where
  copy : CopyState
  source : SettingsSource
  stores : Nat
  deriving DecidableEq, Repr

/-- The power record (R190), with the rundown and settling timers (R48, R191) and the cause by which the part proceeds
toward WATCH (R190, R191). -/
structure Power where
  state : PowerState
  entered : Uptime
  watchPending : Bool
  watchCause : PowerCause
  silence : Timer
  rundown : Timer
  settling : Timer
  lastWake : WakeCause
  deriving DecidableEq, Repr

/-- The power record at power-on and RESTART (R190). -/
def powerStart (now : Uptime) (linkIdle : Nat) : Power :=
  { state := .awake, entered := now, watchPending := false, watchCause := .linkSilent,
    silence := some (now + BitVec.ofNat 32 (linkIdle * 1000)), rundown := none, settling := none, lastWake := .none }

/-- The actuator outputs O0 to O7 (00_scope.md, R57, R109 to R111, R137, R143, R157). -/
structure Outputs where
  o0 : Bool
  o1 : Bool
  o2 : Bool
  o3 : Bool
  o4 : Bool
  o5 : Bool
  o6 : Bool
  o7 : Bool
  deriving DecidableEq, Repr

/-- All outputs off. -/
def outputsOff : Outputs :=
  { o0 := false, o1 := false, o2 := false, o3 := false, o4 := false, o5 := false, o6 := false, o7 := false }

end Sys2Proof.Machine
end

