-- ==== Sys2Proof/Machine/Operands.lean ====
section
/-! DEFINITION. The operand forms of the host requests (R171 to R173): the payload bytes of each kind, and what a byte
names. -/

namespace Sys2Proof.Machine

/-- A drive by its byte: 0 MAIN, 1 AUX (R171). -/
def driveOf (b : Byte) : Option DriveId := if b = 0#8 then some .main else if b = 1#8 then some .aux else none

/-- An action by its index (R155). -/
def actionOf (b : Byte) : Option ActionId :=
  if b = 0#8 then some .inhibit else if b = 1#8 then some .rollLimit else if b = 2#8 then some .idleCap else none

/-- A foam selection by its byte (R171). -/
def foamOf (b : Byte) : Option FoamSel :=
  if b = 0#8 then some .off else if b = 1#8 then some .foamA else if b = 2#8 then some .foamB else none

/-- Two bytes, little-endian, of a 16-bit operand. -/
def bytes16 (v : BitVec 16) : List Byte := u16 v.toNat

/-- The 16-bit operand of two bytes. -/
def word16 (a b : Byte) : BitVec 16 := BitVec.ofNat 16 (a.toNat + 256 * b.toNat)

/-- The bytes of one field entry of a SET (R172). -/
def entryBytes (e : FieldEntry) : List Byte := e.field :: u8 e.value.length ++ e.value

/-- The bytes of the field entries of a SET. -/
def entriesBytes (es : List FieldEntry) : List Byte := (es.map entryBytes).flatten

/-- The field entries of a SET payload, or none when the bytes do not divide into entries (R172). The first argument
bounds the number of entries. -/
def parseEntries : Nat → List Byte → Option (List FieldEntry)
  | _, [] => some []
  | 0, _ => none
  | fuel + 1, f :: n :: rest =>
    if rest.length < n.toNat then none
    else (parseEntries fuel (rest.drop n.toNat)).map (fun es => { field := f, value := rest.take n.toNat } :: es)
  | _, _ => none

/-- The kinds of R171. -/
def kindIdentify : Byte := 0x01#8
/-- READ. -/
def kindRead : Byte := 0x02#8
/-- SNAPSHOT. -/
def kindSnapshot : Byte := 0x03#8
/-- SET. -/
def kindSet : Byte := 0x04#8
/-- STORE. -/
def kindStore : Byte := 0x05#8
/-- RECALL. -/
def kindRecall : Byte := 0x06#8
/-- PTO. -/
def kindPto : Byte := 0x07#8
/-- GOVERN. -/
def kindGovern : Byte := 0x08#8
/-- RESUME. -/
def kindResume : Byte := 0x09#8
/-- PUMP_IDLE. -/
def kindPumpIdle : Byte := 0x0A#8
/-- RELEASE. -/
def kindRelease : Byte := 0x0B#8
/-- FORCE. -/
def kindForce : Byte := 0x0C#8
/-- FILL. -/
def kindFill : Byte := 0x0D#8
/-- FOAM. -/
def kindFoam : Byte := 0x0E#8
/-- FAULT_CLEAR. -/
def kindFaultClear : Byte := 0x0F#8
/-- CHASSIS_RECOVER. -/
def kindChassisRecover : Byte := 0x10#8
/-- MONITOR. -/
def kindMonitor : Byte := 0x11#8
/-- REPORT_RATE. -/
def kindReportRate : Byte := 0x12#8
/-- RESTART. -/
def kindRestart : Byte := 0x13#8

end Sys2Proof.Machine
end

