-- ==== Sys2Proof/Machine/State.lean ====
section
/-! DEFINITION. The state of the part: every record, timer, buffer and output the spec names, as plain data, the
working settings, the non-volatile memory, and the queue of commands that wait. -/

namespace Sys2Proof.Machine

/-- The part. `pending` is the queue of commands, first in first out; `powered` says that the supply is present. -/
structure State where
  pending : List Instr
  powered : Bool
  time : TimeBase
  nv : NonVolatile
  settings : Settings
  inputs : Inputs
  chassis : Chassis
  pto : Pto
  gov : Governor
  prot : Protection
  gauge : TankGauge
  lock : Lockout
  link : Link
  notices : NoticeQueue
  store : StoreRecord
  power : Power
  outputs : Outputs
  deriving DecidableEq, Repr

/-- The reasons for which the part would stop with a fault. The spec gives none: every error is a notice, a flag or a
result code, so this type has no constructor and no command faults. -/
inductive Fault
  deriving DecidableEq, Repr

/-- The reasons for which the model gives a command no meaning. -/
inductive Refusal
  /-- Raised by `exec` alone, for a command that has no meaning yet. Safe: the model stops where the part goes on.
  No command is refused in this model. -/
  | notModelled (mnemonic : String)
  deriving DecidableEq, Repr

/-- The non-volatile memory of a part as delivered: the factory settings stored, the meters at 0, both blocks intact.
Log entry 1. -/
def factoryNv : NonVolatile :=
  { stored := factorySettings, storedIntact := true, meterMain := 0, meterAux := 0, meterRoll := 0,
    metersIntact := true, activity := .idle, storeWaiting := false }

/-- A meter at power-on, from the value the meter block holds (R54). -/
def meterAtPowerOn (v : Nat) : Meter := { value := v, remainder := 0, written := v }

/-- The part right after power-on as delivered (R21, R44, R46, R47, R54, R75, R99, R118, R144, R163, R179, R183, R185,
R190): uptime 0, the factory settings loaded, every block at its power-on contents, LINK_READY in the queue. -/
def State.reset : State :=
  { pending := []
    powered := true
    time := { uptime := 0, trimRemainder := 0, step := 1000, mainPumping := meterAtPowerOn 0,
              auxPumping := meterAtPowerOn 0, roll := meterAtPowerOn 0, blockState := .valid, lastWrite := 0,
              writeDue := false }
    nv := factoryNv
    settings := factorySettings
    inputs := inputsStart factorySettings
    chassis := chassisStart factorySettings
    pto := { main := driveStart 0, aux := driveStart 0 }
    gov := governorStart 0 factorySettings.gov
    prot := protectionStart 0 factorySettings.gov
    gauge := gaugeStart 0 factorySettings.gauge
    lock := lockoutStart 0
    link := linkStart 0 factorySettings.link
    notices := { entries := [{ kind := .linkReady, cls := .info, subject := 0, stamp := 0, repeats := 1,
                               detail := u8 (readyCauseCode .powerOn), sending := false }], lost := false }
    store := { copy := .valid, source := .stored, stores := 0 }
    power := powerStart 0 factorySettings.linkIdle
    outputs := outputsOff }

/-- What a command's meaning answers. -/
abbrev Result := Host.Outcome State Fault Refusal

end Sys2Proof.Machine
end

