-- ==== Sys2Proof/Machine/Ops.lean ====
section
/-! DEFINITION. The operations that every block shares: timers (R49, R50), posting a notice (R181, R182), reading a
chassis quantity (R1, R34), the three words for the vehicle, reading a channel, and the bodies of notices (R184). -/

namespace Sys2Proof.Machine

/-! ### Timers -/

/-- A timer started now with a delay in ms (R49). -/
def startTimer (now : Uptime) (ms : Nat) : Timer := some (now + BitVec.ofNat 32 ms)

/-- Whether a timer's expiry has been reached, modulo 2^32 (R49). A stopped timer has no expiry. Log entry 4. -/
def due (now : Uptime) : Timer → Bool
  | none => false
  | some e => decide ((now - e).toNat < 2147483648)

/-- A periodic timer restarted at its expiry: the next expiry falls one period after the last (R49). -/
def nextPeriod (now : Uptime) (ms : Nat) : Timer → Timer
  | some e => some (e + BitVec.ofNat 32 ms)
  | none => some (now + BitVec.ofNat 32 ms)

/-- Whether a periodic sample may be taken: its first one at any time, since no rule gives the phase, and later ones
when the period has passed. Log entry 5. -/
def sampleDue (now : Uptime) (t : Timer) : Bool := t.isNone || due now t

/-- A configured delay, with 0 taken as the shortest delay (R50). -/
def orShortest (shortest ms : Nat) : Nat := if ms = 0 then shortest else ms

/-! ### The notice queue -/

/-- Whether an entry is unsent and has the notice's kind and subject (R180, R181). -/
def entryMatches (n : Notice) (e : Entry) : Bool :=
  !e.sending && decide (e.kind = n.kind) && decide (e.subject = n.subject)

/-- The higher of two classes (R181). -/
def higherClass (a b : NoticeClass) : NoticeClass := if classRank a < classRank b then b else a

/-- The entry after a notice has been coalesced into it (R181). -/
def coalesced (now : Uptime) (n : Notice) (e : Entry) : Entry :=
  { e with detail := n.detail, stamp := now, repeats := min 255 (e.repeats + 1), cls := higherClass e.cls n.cls }

/-- The entries with the notice coalesced into the first that matches, or none when none does (R181). -/
def coalesceInto (now : Uptime) (n : Notice) : List Entry → Option (List Entry)
  | [] => none
  | e :: es =>
    if entryMatches n e then some (coalesced now n e :: es)
    else (coalesceInto now n es).map (e :: ·)

/-- The entries without the oldest unsent entry of class WARNING or INFO, or none when there is none (R182). -/
def evictLesser : List Entry → Option (List Entry)
  | [] => none
  | e :: es =>
    if !e.sending && decide (e.cls ≠ .alarm) then some es
    else (evictLesser es).map (e :: ·)

/-- A new entry for a notice (R181). -/
def newEntry (now : Uptime) (n : Notice) : Entry :=
  { kind := n.kind, cls := n.cls, subject := n.subject, stamp := now, repeats := 1, detail := n.detail,
    sending := false }

/-- The most entries the queue holds (R180). -/
def queueCapacity : Nat := 32

/-- Post one notice (R181, R182). -/
def postNotice (now : Uptime) (q : NoticeQueue) (n : Notice) : NoticeQueue :=
  match coalesceInto now n q.entries with
  | some es => { q with entries := es }
  | none =>
    if q.entries.length < queueCapacity then { q with entries := q.entries ++ [newEntry now n] }
    else if n.cls = .alarm then
      match evictLesser q.entries with
      | some es => { entries := es ++ [newEntry now n], lost := true }
      | none => { q with lost := true }
    else { q with lost := true }

/-- Post notices in order. -/
def postAll (now : Uptime) (q : NoticeQueue) (ns : List Notice) : NoticeQueue := ns.foldl (postNotice now) q

/-- The state with notices posted at the present uptime. -/
def State.post (s : State) (ns : List Notice) : State :=
  { s with notices := postAll s.time.uptime s.notices ns }

/-! ### Reading other blocks' records -/

/-- The slot a quantity is bound to (R34). -/
def boundSlot (c : Settings) (q : Fin 6) : Option (Fin 16) :=
  (List.finRange 16).find? (fun i => decide ((c.rx[i]).bound = some q))

/-- The value of a quantity if it is usable: its bound slot is FRESH (R1, R34). -/
def usableQuantity (c : Settings) (ch : Chassis) (q : Fin 6) : Option Int :=
  match boundSlot c q with
  | none => none
  | some i => if (ch.rx[i]).state = .fresh then (ch.rx[i]).decoded else none

/-- Whether the vehicle is stationary, moving or its speed unknown (00_scope.md). -/
def vehicleOf (c : Settings) (ch : Chassis) : VehicleState :=
  match usableQuantity c ch 0 with
  | none => .unknown
  | some v => if v ≤ c.chassis.standstill then .stationary else .moving

/-- The vehicle as the present records show it. -/
def State.vehicle (s : State) : VehicleState := vehicleOf s.settings s.chassis

/-- Whether the vehicle is stationary. -/
def State.stationary (s : State) : Bool := decide (s.vehicle = .stationary)

/-- The usable value of a quantity in the present state. -/
def State.quantity (s : State) (q : Fin 6) : Option Int := usableQuantity s.settings s.chassis q

/-- The vehicle speed that a notice carries: the decoded value of the quantity as it stands, 0 when it has none. -/
def State.speedValue (s : State) : Int := (s.quantity 0).getD 0

/-- The debounced level of a discrete (R17). -/
def State.level (s : State) (i : Fin 10) : Bool := (s.inputs.discrete[i]).level

/-- Whether a discrete's debounced level has changed between two states by an accepted change (R18, R19): the first
sample after a starting point is none (R21). -/
def acceptedChange (before s : State) (i : Fin 10) : Bool :=
  decide (before.level i ≠ s.level i) &&
  decide ((before.inputs.discrete[i]).awaitFirst = (s.inputs.discrete[i]).awaitFirst)

/-- Whether an analog channel is usable (R1, R14). -/
def analogUsable (c : AnalogChan) : Bool := decide (c.state = .valid) || decide (c.state = .held)

/-- Whether an analog channel is lost to its readers: FAULT or DISABLED (R103, R125). -/
def analogLost (c : AnalogChan) : Bool := decide (c.state = .fault) || decide (c.state = .disabled)

/-- Whether the part is AWAKE or in RUNDOWN, the power states in which the blocks work. -/
def working (p : PowerState) : Bool := decide (p = .awake) || decide (p = .rundown)

/-- Whether the part works: the supply is present and it is AWAKE or in RUNDOWN. -/
def State.working (s : State) : Bool := s.powered && Machine.working s.power.state

/-- The feedback of a drive by its debounced level (R55). -/
def State.feedback (s : State) : DriveId → Bool
  | .main => s.level 1
  | .aux => s.level 2

/-! ### The notices of R184 -/

/-- LINK_READY. -/
def noticeLinkReady (c : ReadyCause) : Notice :=
  { kind := .linkReady, cls := .info, subject := 0, detail := u8 (readyCauseCode c) }

/-- SETTINGS_DEFAULTED. -/
def noticeSettingsDefaulted : Notice := { kind := .settingsDefaulted, cls := .alarm, subject := 0, detail := [] }

/-- METERS_DEFAULTED. -/
def noticeMetersDefaulted : Notice := { kind := .metersDefaulted, cls := .alarm, subject := 0, detail := [] }

/-- POWER_STATE: INFO, or WARNING for RUNDOWN_TIMEOUT. -/
def noticePowerState (p : PowerState) (c : PowerCause) : Notice :=
  { kind := .powerState, cls := if c = .rundownTimeout then .warning else .info, subject := 0,
    detail := u8 (powerStateCode p) ++ u8 (powerCauseCode c) }

/-- CHANNEL_FAULT (R10). -/
def noticeChannelFault (ch : Nat) (c : ChannelCause) (raw : Nat) : Notice :=
  { kind := .channelFault, cls := .warning, subject := ch, detail := u8 (channelCauseCode c) ++ noticeU16 (some raw) }

/-- CHANNEL_RECOVERED (R11). -/
def noticeChannelRecovered (ch : Nat) (eng : Int) : Notice :=
  { kind := .channelRecovered, cls := .info, subject := ch, detail := noticeS16 (some eng) }

/-- SLOT_STALE (R32): an unbound slot's quantity is carried as 0xFF. -/
def noticeSlotStale (slot : Nat) (bound : Option (Fin 6)) (decoded : Option Int) : Notice :=
  { kind := .slotStale, cls := .warning, subject := slot,
    detail := u8 (match bound with | none => 0xFF | some q => q.val) ++ noticeS16 decoded }

/-- CHASSIS_STATE (R41): the class follows the new state. -/
def noticeChassisState (p : PortState) (tec rec : Nat) : Notice :=
  { kind := .chassisState,
    cls := match p with | .errorPassive => .warning | .busOff => .alarm | _ => .info,
    subject := 0, detail := u8 (portStateCode p) ++ u8 tec ++ u8 rec }

/-- PTO_ENGAGED (R64). -/
def noticePtoEngaged (d : DriveId) (ms : Nat) : Notice :=
  { kind := .ptoEngaged, cls := .info, subject := driveIndex d, detail := noticeU16 (some ms) }

/-- PTO_DISENGAGED (R68). -/
def noticePtoDisengaged (d : DriveId) : Notice :=
  { kind := .ptoDisengaged, cls := .info, subject := driveIndex d, detail := [] }

/-- PTO_REFUSED: a reason that is absent is carried as 0xFF. -/
def noticePtoRefused (d : DriveId) (r : Option Reason) : Notice :=
  { kind := .ptoRefused, cls := .warning, subject := driveIndex d,
    detail := u8 (match r with | none => 0xFF | some r => reasonCode r) }

/-- PTO_FAULT (R73). -/
def noticePtoFault (d : DriveId) (c : DriveCause) (left : DriveState) : Notice :=
  { kind := .ptoFault, cls := .alarm, subject := driveIndex d,
    detail := u8 (driveCauseCode c) ++ u8 (driveStateCode left) }

/-- The subject of a notice about a drive or none (R184). -/
def driveOrNone : Option DriveId → Nat
  | none => 0xFF
  | some d => driveIndex d

/-- GOVERNOR_HOLD (R84). -/
def noticeGovernorHold (d : Option DriveId) (e : HoldEvent) (request : Int) : Notice :=
  { kind := .governorHold, cls := .warning, subject := driveOrNone d,
    detail := u8 (holdEventCode e) ++ noticeU16 (some request.toNat) }

/-- THROTTLE_PATH_LOST (R85). -/
def noticeThrottlePathLost (d : Option DriveId) (before : GovMode) : Notice :=
  { kind := .throttlePathLost, cls := .alarm, subject := driveOrNone d, detail := u8 (govModeCode before) }

/-- PROTECT (R103, R114, R117): subject 0 to 4 for a condition, 5 for the ceiling. -/
def noticeProtect (subject : Nat) (cls : NoticeClass) (e : ProtEvent) (value : Option Int) : Notice :=
  { kind := .protect, cls := cls, subject := subject, detail := u8 (protEventCode e) ++ noticeS16 value }

/-- TANK_LEVEL (R136): `emptyFlag` says that the flag is EMPTY, else LOW. -/
def noticeTankLevel (t : TankId) (emptyFlag : Bool) (isSet : Bool) (reported : Option Nat) : Notice :=
  { kind := .tankLevel, cls := if isSet then .warning else .info, subject := tankIndex t,
    detail := u8 (if emptyFlag then 1 else 0) ++ u8 (if isSet then 0 else 1) ++ noticeU16 reported }

/-- TANK_RECONCILE (R131). -/
def noticeTankReconcile (t : TankId) (estimate measured : Nat) (difference : Int) : Notice :=
  { kind := .tankReconcile, cls := .warning, subject := tankIndex t,
    detail := noticeU16 (some estimate) ++ noticeU16 (some measured) ++ noticeS16 (some difference) }

/-- FILL_DONE (R139). -/
def noticeFillDone (r : FillReason) (final : Option Nat) (seconds : Nat) : Notice :=
  { kind := .fillDone,
    cls := match r with | .target => .info | .full => .info | .stopped => .info | _ => .warning,
    subject := 0, detail := u8 (fillReasonCode r) ++ noticeU16 final ++ noticeU16 (some seconds) }

/-- TANK_LEAK (R143). -/
def noticeTankLeak (reference measured : Nat) : Notice :=
  { kind := .tankLeak, cls := .alarm, subject := 0,
    detail := noticeU16 (some reference) ++ noticeU16 (some measured) ++ noticeU16 (some (reference - measured)) }

/-- The lowest contributor of a set kept in ascending order, as LOCKOUT carries it (R155, R184). None is carried as
0xFF, which R184 says of a subject alone: log entry 66 (DESIGN CHOICE). -/
def lowestCode : List (Fin 11) → Nat
  | [] => 0xFF
  | c :: _ => c.val

/-- LOCKOUT (R155). -/
def noticeLockout (a : ActionId) (old new : ActionState) (set : List (Fin 11)) : Notice :=
  { kind := .lockout, cls := .warning, subject := actionIndex a,
    detail := u8 (actionStateCode old) ++ u8 (actionStateCode new) ++ u8 (lowestCode set) }

/-- A contributing set as a 2-byte set: bit n stands for Cn (R184). -/
def contributorBits (set : List (Fin 11)) : Nat := sumNat (set.map (fun c => 2 ^ c.val))

/-- DRIVING_WITH_CONDITION (R160). -/
def noticeDriving (c : Fin 11) (speed : Int) (set : List (Fin 11)) : Notice :=
  { kind := .drivingWithCondition, cls := .alarm, subject := c.val,
    detail := noticeS16 (some speed) ++ u16 (contributorBits set) }

/-- ROLL_OVERSPEED (R162). -/
def noticeRollOverspeed (speed threshold : Int) (dropped : Bool) : Notice :=
  { kind := .rollOverspeed, cls := .alarm, subject := driveIndex .aux,
    detail := noticeS16 (some speed) ++ noticeS16 (some threshold) ++ bool8 dropped }

end Sys2Proof.Machine
end

