-- ==== Sys2Proof/Machine/Sequencer.lean ====
section
/-! DEFINITION. The PTO sequencer (04_pto_sequencer.md): the states of the two drives, the arbitration of the one shift
between them, and what requests, feedback changes, expiries and the power states do to them. -/

namespace Sys2Proof.Machine

/-- What the sequencer reads of the other blocks (R55, R60, R61, R65, R67). -/
structure PtoEnv where
  now : Uptime
  cfg : PtoSettings
  idle : Int
  stationary : Bool
  speed : Option Int
  engine : Option Int
  gear : Option Int
  park : Option Int
  service : Option Int
  d0 : Bool
  fbMain : Bool
  fbAux : Bool
  power : PowerState
  shaftMain : Int
  shaftAux : Int

/-- The sequencer's view of the present records. -/
def ptoEnv (s : State) : PtoEnv :=
  { now := s.time.uptime, cfg := s.settings.pto, idle := s.settings.gov.idleRpm, stationary := s.stationary,
    speed := s.quantity 0, engine := s.quantity 1, gear := s.quantity 2, park := s.quantity 3, service := s.quantity 4,
    d0 := s.level 0, fbMain := s.level 1, fbAux := s.level 2, power := s.power.state,
    shaftMain := (s.inputs.pulse[(0 : Fin 3)]).eng, shaftAux := (s.inputs.pulse[(1 : Fin 3)]).eng }

/-- The feedback of a drive (R55). -/
def PtoEnv.fb (e : PtoEnv) : DriveId → Bool
  | .main => e.fbMain
  | .aux => e.fbAux

/-- The drive records as they come about, with the notices posted so far. -/
structure PtoRun where
  pto : Pto
  posts : List Notice

/-- One drive replaced. -/
def PtoRun.put (r : PtoRun) (d : DriveId) (x : Drive) : PtoRun := { r with pto := r.pto.setDrive d x }

/-- One notice more. -/
def PtoRun.say (r : PtoRun) (n : Notice) : PtoRun := { r with posts := r.posts ++ [n] }

/-! ### Fixed times (R56) -/

/-- The request window. -/
def requestWindowMs : Nat := 2000
/-- The uncommanded-feedback time. -/
def uncommandedMs : Nat := 500
/-- The wind-down notice time. -/
def windDownNoticeMs : Nat := 5000
/-- The re-check period. -/
def recheckMs : Nat := 10
/-- The readiness threshold in rpm of shaft speed. -/
def readyRpm : Int := 300

/-! ### Conditions -/

/-- Whether a drive holds the one shift: it is SHIFTING or RELEASING (R58). -/
def holdsShift (d : Drive) : Bool := decide (d.state = .shifting) || decide (d.state = .releasing)

/-- Whether the engine is slow enough: usable and at most idle_rpm + 200 (R60, R61, R67). -/
def engineSlow (e : PtoEnv) : Bool :=
  match e.engine with
  | none => false
  | some v => decide (v ≤ e.idle + 200)

/-- Whether a quantity is usable and set (not 0). -/
def usableSet : Option Int → Bool
  | none => false
  | some v => decide (v ≠ 0)

/-- The first condition that keeps a drive from entering SHIFTING, or none (R60, R61). -/
def engageReason (e : PtoEnv) (p : Pto) : DriveId → Option Reason
  | .main =>
    if !e.stationary then some .notStationary
    else if !(usableSet e.park && e.d0) then some .parkBrake
    else if e.gear ≠ some 0 then some .gear
    else if !engineSlow e then some .engineSpeed
    else if e.power ≠ .awake then some .powerState
    else if holdsShift p.aux then some .otherShift
    else none
  | .aux =>
    if !(match e.speed with | none => false | some v => decide (v ≤ e.cfg.auxEngageSpeed)) then some .auxSpeed
    else if !engineSlow e then some .engineSpeed
    else if !(e.d0 || usableSet e.service) then some .brake
    else if e.power ≠ .awake then some .powerState
    else if holdsShift p.main then some .otherShift
    else none

/-- The first condition that keeps a drive in WINDING_DOWN, or none (R67). -/
def releaseReason (e : PtoEnv) (p : Pto) (d : DriveId) : Option Reason :=
  if !(p.drive d).waiver && !engineSlow e then some .engineSpeed
  else if !(p.drive d).waiver && decide (d = .main) && decide (e.gear ≠ some 0) then some .gear
  else if holdsShift (p.drive (otherDrive d)) then some .otherShift
  else none

/-- Whether a drive's pump turns under drive (R65): for a drive in ENGAGED. -/
def turning (e : PtoEnv) : DriveId → Bool
  | .main => decide (e.gear = some e.cfg.pumpGear) && decide (readyRpm ≤ e.shaftMain)
  | .aux => decide (readyRpm ≤ e.shaftAux)

/-! ### Entering a state -/

/-- A drive with every timer of its own cancelled but the uncommanded-feedback timer. -/
def quiet (x : Drive) : Drive :=
  { x with window := none, shift := none, settle := none, release := none, windDown := none, recheck := none }

/-- A drive that enters a state other than FAULT: the fields that are clear in it are cleared (R55). -/
def enter (e : PtoEnv) (st : DriveState) (x : Drive) : Drive :=
  { quiet x with state := st, cause := none, ready := false, reason := none, waiver := false, entered := e.now }

/-- Entry to FAULT (R73). -/
def enterFault (e : PtoEnv) (d : DriveId) (c : DriveCause) (r : PtoRun) : PtoRun :=
  let x := r.pto.drive d
  (r.put d { enter e .fault x with cause := some c, uncommanded := none }).say (noticePtoFault d c x.state)

/-- Entry to DISENGAGED: with the feedback on, the uncommanded-feedback timer starts, or runs on (R72). -/
def enterDisengaged (e : PtoEnv) (d : DriveId) (r : PtoRun) : PtoRun :=
  let x := r.pto.drive d
  let watch := if e.fb d then (if x.uncommanded.isSome then x.uncommanded else startTimer e.now uncommandedMs)
               else none
  r.put d { enter e .disengaged x with uncommanded := watch }

/-- Entry to RELEASING (R68): with the feedback already off the drive goes on to DISENGAGED in the same event. -/
def enterReleasing (e : PtoEnv) (d : DriveId) (r : PtoRun) : PtoRun :=
  if e.fb d then
    r.put d { enter e .releasing (r.pto.drive d) with release := startTimer e.now e.cfg.releaseLimit }
  else (enterDisengaged e d r).say (noticePtoDisengaged d)

/-- Entry to WINDING_DOWN (R67), with the release waiver set or clear. The check made at once is `ptoReact`'s. -/
def enterWindingDown (e : PtoEnv) (d : DriveId) (waiver : Bool) (r : PtoRun) : PtoRun :=
  r.put d { enter e .windingDown (r.pto.drive d) with
            waiver := waiver, windDown := startTimer e.now windDownNoticeMs, recheck := startTimer e.now recheckMs }

/-- The release of a drive in SETTLING or ENGAGED (R58): RELEASING, or WINDING_DOWN with the release waiver set while
the other drive holds the shift. -/
def releaseDrive (e : PtoEnv) (d : DriveId) (r : PtoRun) : PtoRun :=
  if holdsShift (r.pto.drive (otherDrive d)) then enterWindingDown e d true r else enterReleasing e d r

/-- In RUNDOWN a drive that enters ENGAGED or SETTLING is released at that event (R70). -/
def releaseInRundown (e : PtoEnv) (d : DriveId) (r : PtoRun) : PtoRun :=
  if e.power = .rundown then releaseDrive e d r else r

/-- Entry to SETTLING (R64). -/
def enterSettling (e : PtoEnv) (d : DriveId) (r : PtoRun) : PtoRun :=
  releaseInRundown e d
    (r.put d { enter e .settling (r.pto.drive d) with settle := startTimer e.now (orShortest 10 e.cfg.settleTime) })

/-- Entry to SHIFTING (R63): with the feedback already on the drive goes on to SETTLING in the same event. -/
def enterShifting (e : PtoEnv) (d : DriveId) (r : PtoRun) : PtoRun :=
  let r := r.put d { enter e .shifting (r.pto.drive d) with
                     shiftStart := e.now, shift := startTimer e.now e.cfg.shiftLimit, uncommanded := none }
  if e.fb d then enterSettling e d r else r

/-- Entry to ENGAGED, with the ready flag computed (R64, R65). -/
def enterEngaged (e : PtoEnv) (d : DriveId) (r : PtoRun) : PtoRun :=
  r.put d { enter e .engaged (r.pto.drive d) with ready := turning e d }

/-! ### Checks and arbitration -/

/-- Whether a drive in WINDING_DOWN meets every release condition (R67). -/
def mayRelease (e : PtoEnv) (p : Pto) (d : DriveId) : Bool :=
  decide ((p.drive d).state = .windingDown) && decide (releaseReason e p d = none)

/-- Whether a drive in REQUESTED meets every engage condition (R62). -/
def mayShift (e : PtoEnv) (p : Pto) (d : DriveId) : Bool :=
  decide ((p.drive d).state = .requested) && decide (engageReason e p d = none)

/-- One drive taken by the arbitration of R58: RELEASING before SHIFTING, and MAIN before AUX. `m` and `a` say which
drives are checked. -/
def arbitrate (e : PtoEnv) (m a : Bool) (r : PtoRun) : Option PtoRun :=
  if m && mayRelease e r.pto .main then some (enterReleasing e .main r)
  else if a && mayRelease e r.pto .aux then some (enterReleasing e .aux r)
  else if m && mayShift e r.pto .main then some (enterShifting e .main r)
  else if a && mayShift e r.pto .aux then some (enterShifting e .aux r)
  else none

/-- The pending refusal reason of a drive as its latest check leaves it (R62, R67). -/
def setReason (e : PtoEnv) (d : DriveId) (r : PtoRun) : PtoRun :=
  let x := r.pto.drive d
  match x.state with
  | .requested => r.put d { x with reason := engageReason e r.pto d }
  | .windingDown => r.put d { x with reason := releaseReason e r.pto d }
  | _ => r

/-- The checks of one event. A drive that enters or leaves a state is a source of the other, which is then checked in
the same event (R58). -/
def checkDrives (e : PtoEnv) : Nat → Bool → Bool → PtoRun → PtoRun
  | 0, _, _, r => r
  | n + 1, m, a, r =>
    match arbitrate e m a r with
    | some r' => checkDrives e n true true r'
    | none =>
      let r := if m then setReason e .main r else r
      if a then setReason e .aux r else r

/-- The ready flags as their sources stand (R65): computed while ENGAGED, clear in every other state. -/
def refreshReady (e : PtoEnv) (p : Pto) : Pto :=
  { main := { p.main with ready := decide (p.main.state = .engaged) && turning e .main }
    aux := { p.aux with ready := decide (p.aux.state = .engaged) && turning e .aux } }

/-- Whether a source that the checks of REQUESTED and of WINDING_DOWN share has changed between two states (R60, R61, R67):
ENGINE_SPEED, for MAIN the gear, and the other drive. -/
def sharedSourceChanged (before s : State) (d : DriveId) : Bool :=
  decide (before.quantity 1 ≠ s.quantity 1) || (decide (d = .main) && decide (before.quantity 2 ≠ s.quantity 2)) ||
  decide ((before.pto.drive (otherDrive d)).state ≠ (s.pto.drive (otherDrive d)).state)

/-- Whether a source of the checks of REQUESTED alone has changed between two states (R60, R61): the vehicle's speed, the
brakes, D0 and the power state. -/
def requestSourceChanged (before s : State) (d : DriveId) : Bool :=
  decide (before.quantity 0 ≠ s.quantity 0) ||
  (match d with
   | .main => decide (before.quantity 3 ≠ s.quantity 3)
   | .aux => decide (before.quantity 4 ≠ s.quantity 4)) ||
  acceptedChange before s 0 || decide (before.power.state ≠ s.power.state)

/-- Whether a drive is to be checked at an event: a source of the checks of its state has changed, or it has just entered
that state, or in WINDING_DOWN its waiver has been set (R60 to R62, R67). -/
def sourcesChanged (before s : State) (d : DriveId) : Bool :=
  sharedSourceChanged before s d || decide ((before.pto.drive d).state ≠ (s.pto.drive d).state) ||
  (match (s.pto.drive d).state with
   | .requested => requestSourceChanged before s d
   | .windingDown => decide ((before.pto.drive d).waiver ≠ (s.pto.drive d).waiver)
   | _ => false)

/-- The sequencer's reaction to an event: the checks whose sources have changed, then the ready flags. -/
def ptoReact (before s : State) : PtoRun :=
  let e := ptoEnv s
  let r := checkDrives e 4 (sourcesChanged before s .main) (sourcesChanged before s .aux) { pto := s.pto, posts := [] }
  { r with pto := refreshReady e r.pto }

/-! ### Requests -/

/-- ENGAGE of a drive, with its result code (R59). The check at entry to REQUESTED is `ptoReact`'s. -/
def engageDrive (e : PtoEnv) (d : DriveId) (r : PtoRun) : PtoRun × ResultCode :=
  let x := r.pto.drive d
  match x.state with
  | .disengaged =>
    (r.put d { enter e .requested x with
               window := startTimer e.now requestWindowMs, recheck := startTimer e.now recheckMs }, .accepted)
  | .windingDown =>
    if x.waiver then (r, .refusedState) else (releaseInRundown e d (enterEngaged e d r), .ok)
  | _ => (r, .refusedState)

/-- The cab pump request, an ENGAGE of MAIN without a reply: refused, it posts PTO_REFUSED with reason STATE (R59). -/
def cabEngage (e : PtoEnv) (r : PtoRun) : PtoRun :=
  match engageDrive e .main r with
  | (r', .refusedState) => r'.say (noticePtoRefused .main (some .state))
  | (r', _) => r'

/-- DISENGAGE of a drive, with its result code (R66). -/
def disengageDrive (e : PtoEnv) (d : DriveId) (r : PtoRun) : PtoRun × ResultCode :=
  match (r.pto.drive d).state with
  | .engaged => (enterWindingDown e d false r, .accepted)
  | .requested => (enterDisengaged e d r, .ok)
  | .shifting => (enterReleasing e d r, .accepted)
  | .settling => (releaseDrive e d r, .accepted)
  | _ => (r, .ok)

/-- The release waiver of a drive in WINDING_DOWN set, and its conditions checked at once (R69, R70). -/
def waiveRelease (e : PtoEnv) (d : DriveId) (r : PtoRun) : PtoRun :=
  let w := r.put d { r.pto.drive d with waiver := true }
  if mayRelease e w.pto d then enterReleasing e d w else setReason e d w

/-- A release that waives the engine and gear conditions: an auto-drop or a rundown release (R69, R70). -/
def dropDrive (e : PtoEnv) (d : DriveId) (reason : Reason) (r : PtoRun) : PtoRun :=
  let x := r.pto.drive d
  match x.state with
  | .engaged | .settling => releaseDrive e d r
  | .windingDown => waiveRelease e d r
  | .shifting => enterReleasing e d r
  | .requested => (enterDisengaged e d r).say (noticePtoRefused d (some reason))
  | _ => r

/-- The lockout unit's auto-drop of AUX (R69). -/
def autoDrop (e : PtoEnv) (r : PtoRun) : PtoRun := dropDrive e .aux .auxSpeed r

/-- The power controller's rundown release of both drives, MAIN first (R58, R70). -/
def rundownRelease (e : PtoEnv) (r : PtoRun) : PtoRun :=
  dropDrive e .aux .powerState (dropDrive e .main .powerState r)

/-- FAULT_CLEAR, with its result code (R74). -/
def clearFault (e : PtoEnv) (d : DriveId) (r : PtoRun) : PtoRun × ResultCode :=
  match (r.pto.drive d).state with
  | .fault => if e.fb d then (r, .refusedCondition) else (enterDisengaged e d r, .ok)
  | _ => (r, .refusedState)

/-! ### Feedback -/

/-- An accepted change of a drive's feedback to on (R63, R72). -/
def feedbackOn (e : PtoEnv) (d : DriveId) (r : PtoRun) : PtoRun :=
  let x := r.pto.drive d
  match x.state with
  | .shifting => enterSettling e d r
  | .disengaged | .requested => r.put d { x with uncommanded := startTimer e.now uncommandedMs }
  | _ => r

/-- An accepted change of a drive's feedback to off (R64, R68, R71, R72, R75). -/
def feedbackOff (e : PtoEnv) (d : DriveId) (r : PtoRun) : PtoRun :=
  let x := r.pto.drive d
  match x.state with
  | .settling => enterFault e d .settleLost r
  | .engaged | .windingDown => enterFault e d .dropped r
  | .releasing => (enterDisengaged e d r).say (noticePtoDisengaged d)
  | .disengaged | .requested => r.put d { x with uncommanded := none }
  | .fault => if x.cause = some .foundEngaged then (enterDisengaged e d r).say (noticePtoDisengaged d) else r
  | .shifting => r

/-- An accepted change of a drive's feedback to its present level. -/
def feedbackChange (e : PtoEnv) (d : DriveId) (r : PtoRun) : PtoRun :=
  if e.fb d then feedbackOn e d r else feedbackOff e d r

/-- The first sample of a drive's feedback after a starting point (R75), `was` being its level before: found on, a
DISENGAGED drive enters FAULT FOUND_ENGAGED. Otherwise a level other than before is a change of feedback; it was on
before when a change of polarity had inverted it (R19). Log entry 56. -/
def firstFeedback (e : PtoEnv) (d : DriveId) (was : Bool) (r : PtoRun) : PtoRun :=
  if e.fb d ∧ (r.pto.drive d).state = .disengaged then enterFault e d .foundEngaged r
  else if e.fb d ≠ was then feedbackChange e d r
  else r

/-! ### Expiries -/

/-- The request window's expiry (R62). -/
def expireWindow (e : PtoEnv) (d : DriveId) (r : PtoRun) : PtoRun :=
  match (r.pto.drive d).state with
  | .requested => (enterDisengaged e d r).say (noticePtoRefused d (r.pto.drive d).reason)
  | _ => r

/-- The shift timer's expiry (R63). -/
def expireShift (e : PtoEnv) (d : DriveId) (r : PtoRun) : PtoRun :=
  match (r.pto.drive d).state with
  | .shifting => enterFault e d .shiftTimeout r
  | _ => r

/-- The settle timer's expiry (R64). -/
def expireSettle (e : PtoEnv) (d : DriveId) (r : PtoRun) : PtoRun :=
  match (r.pto.drive d).state with
  | .settling =>
    releaseInRundown e d
      ((enterEngaged e d r).say (noticePtoEngaged d (e.now - (r.pto.drive d).shiftStart).toNat))
  | _ => r

/-- The wind-down notice timer's expiry (R67): once, and the drive stays in WINDING_DOWN. -/
def expireWindDown (d : DriveId) (r : PtoRun) : PtoRun :=
  let x := r.pto.drive d
  match x.state with
  | .windingDown => (r.put d { x with windDown := none }).say (noticePtoRefused d (some .windDown))
  | _ => r

/-- The release timer's expiry (R68). -/
def expireRelease (e : PtoEnv) (d : DriveId) (r : PtoRun) : PtoRun :=
  match (r.pto.drive d).state with
  | .releasing => enterFault e d .releaseTimeout r
  | _ => r

/-- The uncommanded-feedback timer's expiry (R72). -/
def expireUncommanded (e : PtoEnv) (d : DriveId) (r : PtoRun) : PtoRun :=
  match (r.pto.drive d).state with
  | .disengaged | .requested => enterFault e d .uncommanded r
  | _ => r

/-- A periodic check of a drive in REQUESTED or WINDING_DOWN (R62, R67). -/
def recheckDrive (e : PtoEnv) (d : DriveId) (r : PtoRun) : PtoRun :=
  let x := r.pto.drive d
  checkDrives e 4 (decide (d = .main)) (decide (d = .aux))
    (r.put d { x with recheck := nextPeriod e.now recheckMs x.recheck })

/-! ### WATCH -/

/-- One drive at entry to WATCH (R76). -/
def driveToWatch (e : PtoEnv) (d : DriveId) (r : PtoRun) : PtoRun :=
  match (r.pto.drive d).state with
  | .requested =>
    (r.put d { enter e .disengaged (r.pto.drive d) with uncommanded := none }).say
      (noticePtoRefused d (some .powerState))
  | _ => r.put d { quiet (r.pto.drive d) with uncommanded := none }

/-- Both drives at entry to WATCH (R76). -/
def ptoToWatch (e : PtoEnv) (r : PtoRun) : PtoRun := driveToWatch e .aux (driveToWatch e .main r)

/-- Whether a drive is released for the power controller: DISENGAGED, or in FAULT with its feedback off (R73, R190). -/
def driveReleased (x : Drive) (fb : Bool) : Bool :=
  decide (x.state = .disengaged) || (decide (x.state = .fault) && !fb)

/-- Whether both drives are released (R190, R191). -/
def State.drivesReleased (s : State) : Bool :=
  driveReleased s.pto.main (s.level 1) && driveReleased s.pto.aux (s.level 2)

/-- Whether both drives are DISENGAGED (R174, R187, R189). -/
def State.drivesDisengaged (s : State) : Bool :=
  decide (s.pto.main.state = .disengaged) && decide (s.pto.aux.state = .disengaged)

/-- The state with a run of the sequencer put into it. -/
def State.withPto (s : State) (r : PtoRun) : State :=
  { s with pto := r.pto, notices := postAll s.time.uptime s.notices r.posts }

/-- The sequencer's records as a run starts. -/
def State.ptoRun (s : State) : PtoRun := { pto := s.pto, posts := [] }

end Sys2Proof.Machine
end

