-- ==== Sys2Proof/WellFormed.lean ====
section
/-! DEFINITION. Which commands are well formed: those whose operands the spec's frames can carry. `exec` is total on
the others as well (a frame the bus cannot carry has no effect). -/

namespace Sys2Proof

/-- A standard identifier is at most 0x7FF (R24). An extended one is any 29-bit number. -/
def CanId.wf (id : CanId) : Bool := id.ext || decide (id.num.toNat ≤ 0x7FF)

/-- A data frame carries 0 to 8 bytes (R24). -/
def BusFrame.wf : BusFrame → Bool
  | .data id bytes => id.wf && decide (bytes.length ≤ 8)
  | .remote id => id.wf

/-- The host kinds of R171 are 0x01 to 0x13. -/
def isHostKind (k : Byte) : Bool := decide (1 ≤ k.toNat) && decide (k.toNat ≤ 0x13)

/-- The bytes the field entries of a SET take in its payload (R172). -/
def entriesLength : List FieldEntry → Nat
  | [] => 0
  | e :: es => 2 + e.value.length + entriesLength es

/-- The layout of a panel link frame (R166), less its CRC: sync, a length byte of 2 to 250, and as many bytes as
the length byte says. -/
def frameLayout (f : List Byte) : Bool :=
  match f with
  | sync :: n :: _ =>
    decide (sync = 0xA5#8) && decide (2 ≤ n.toNat) && decide (n.toNat ≤ 250) && decide (f.length = n.toNat + 4)
  | _ => false

/-- Whether a command's operands are ones the spec's frames can carry. -/
def Instr.wf : Instr → Bool
  | .rxDataFrame id data => (BusFrame.data id data).wf
  | .rxRemoteFrame id => (BusFrame.remote id).wf
  | .lostArbitration (some f) => f.wf
  | .unknownKind _ kind => !isHostKind kind
  | .set _ _ _ entries =>
    decide (entriesLength entries ≤ 246) && !entries.isEmpty
  | .frameReceived f => frameLayout f
  | _ => true

end Sys2Proof
end

