-- ==== Sys2Proof/Machine/ChassisPort.lean ====
section
/-! DEFINITION. The chassis port (02_chassis_port.md): what frames, errors, ageing, falling due, sending, recovery and
changes of settings do to its slots and its port record. -/

namespace Sys2Proof.Machine

/-! ### Receive slots -/

/-- Whether an enabled slot matches a frame's identifier (R28). -/
def slotMatches (c : RxSettings) (id : CanId) : Bool :=
  c.enabled && decide (c.ext = id.ext) && decide ((c.ident ^^^ id.num) &&& c.mask = 0#29)

/-- The byte of a frame at an offset. -/
def dataByte (data : List Byte) (i : Nat) : Nat := (data.getD i 0#8).toNat

/-- The unsigned raw field of a frame (R29). -/
def rawField (c : RxSettings) (data : List Byte) : Nat :=
  if c.width = 1 then dataByte data c.byteOffset
  else match c.order with
    | .lowFirst => dataByte data c.byteOffset + 256 * dataByte data (c.byteOffset + 1)
    | .highFirst => 256 * dataByte data c.byteOffset + dataByte data (c.byteOffset + 1)

/-- The raw field read as the slot's signedness says (R29). -/
def rawValue (c : RxSettings) (field : Nat) : Int :=
  match c.sign with
  | .unsigned => field
  | .signed => if field < 2 ^ (8 * c.width - 1) then (field : Int) else (field : Int) - ((2 ^ (8 * c.width) : Nat) : Int)

/-- The candidate value of a raw field (R29). -/
def candidate (c : RxSettings) (field : Nat) : Int :=
  limit16 (c.offset + halfAway (rawValue c field * (c.multiplier : Int)) c.divisor)

/-- Whether a field is the not-available mark of its width (R29). -/
def notAvailable (c : RxSettings) (field : Nat) : Bool :=
  c.naCheck && decide (field = if c.width = 1 then 0xFF else 0xFFFF)

/-- A value accepted by a slot (R30). -/
def acceptValue (c : RxSettings) (now : Uptime) (v : Int) (r : RxSlot) : RxSlot :=
  { r with state := .fresh, decoded := some v, stamp := now, accepted := (r.accepted + 1) % 65536, rejections := 0,
           age := startTimer now c.ageLimit }

/-- Whether the jump check rejects a candidate (R31): in FRESH, beyond the jump limit, at most twice running. -/
def jumpRejects (c : RxSettings) (v : Int) (r : RxSlot) : Bool :=
  decide (r.state = .fresh) && decide (c.jumpLimit ≠ 0) &&
  decide (c.jumpLimit < (v - r.decoded.getD 0).natAbs) && decide (r.rejections < 2)

/-- What a slot does with a not-available frame (R30), and at the moment of its age timer's expiry (R32): with the expiry
taken first it stays STALE, and a frame taken first leaves it NOT_AVAILABLE, the expiry then not happening. Log entry 83. -/
def takeNotAvailable (now : Uptime) (r : RxSlot) : RxSlot :=
  if r.state = .stale ∧ r.expiredNow = true then { r with rejections := 0 }
  else { r with state := .notAvailable, rejections := 0, age := if due now r.age then none else r.age }

/-- What a matching slot does with a frame (R28 to R32). -/
def takeFrame (c : RxSettings) (now : Uptime) (data : List Byte) (r : RxSlot) : RxSlot :=
  if data.length < c.byteOffset + c.width then { r with short := true }
  else
    let field := rawField c data
    let r := { r with short := false, lastRaw := field }
    if notAvailable c field then takeNotAvailable now r
    else if jumpRejects c (candidate c field) r then { r with rejections := r.rejections + 1 }
    else acceptValue c now (candidate c field) r

/-- The receive slots after a data frame has been offered to them (R28). -/
def offerToSlots (c : Settings) (now : Uptime) (id : CanId) (data : List Byte) (rx : Vector RxSlot 16) :
    Vector RxSlot 16 :=
  rx.mapFinIdx (fun i r h => if slotMatches (c.rx[i]) id then takeFrame (c.rx[i]) now data r else r)

/-- The expiry of a slot's age timer (R32). -/
def expireAge (c : RxSettings) (slot : Nat) (r : RxSlot) : RxSlot × List Notice :=
  match r.state with
  | .fresh | .notAvailable =>
    ({ r with state := .stale, age := none, expiredNow := true }, [noticeSlotStale slot c.bound r.decoded])
  | _ => ({ r with age := none }, [])

/-- The slots in the next millisecond of uptime: no expiry has fallen in it yet (R32). -/
def nextMillisecond (ch : Chassis) : Chassis := { ch with rx := ch.rx.map (fun r => { r with expiredNow := false }) }

/-- Whether two settings of a slot differ in a way that empties it (R33). -/
def decodingChanged (old new : RxSettings) : Bool :=
  decide ({ old with enabled := new.enabled, ageLimit := new.ageLimit, jumpLimit := new.jumpLimit } ≠ new)

/-- What a change of settings does to a receive slot (R33). -/
def resetSlot (old new : RxSettings) (r : RxSlot) : RxSlot :=
  if new.enabled = false then (if old.enabled then rxStart false else r)
  else if old.enabled = false then rxStart true
  else if decodingChanged old new then
    { r with state := .empty, age := none, decoded := none, rejections := 0, short := false }
  else r

/-! ### Identifiers -/

/-- The first 11 bits of an identifier, by which the bus compares (R24). -/
def firstBits (id : CanId) : Nat := if id.ext then id.num.toNat / 262144 else id.num.toNat % 2048

/-- Whether an identifier goes before another on the bus (R24): the lower first 11 bits; at equal ones a standard
identifier before an extended one; between two extended ones the lower. -/
def precedes (a b : CanId) : Bool :=
  decide (firstBits a < firstBits b) ||
  (decide (firstBits a = firstBits b) &&
    ((!a.ext && b.ext) || (a.ext && b.ext && decide (a.num.toNat < b.num.toNat))))

/-- The identifier of a transmit slot. -/
def txId (c : TxSettings) : CanId := { ext := c.ext, num := c.ident }

/-! ### Port state and error counts -/

/-- Whether the port is on the bus: joined, and neither off it nor recovering (R42 to R45). -/
def onBus (ch : Chassis) : Bool :=
  ch.joined && (decide (ch.port = .errorActive) || decide (ch.port = .errorPassive))

/-- The state the counts give a port that is not BUS_OFF (R41). -/
def stateOfCounts (tec rec : Nat) : PortState := if 128 ≤ tec ∨ 128 ≤ rec then .errorPassive else .errorActive

/-- The port with new error counts: its state follows, and a change of it posts CHASSIS_STATE (R41). -/
def withCounts (tec rec : Nat) (ch : Chassis) : Chassis × List Notice :=
  let p := stateOfCounts tec rec
  ({ ch with txErrors := tec, rxErrors := rec, port := p },
    if p = ch.port then [] else [noticeChassisState p tec rec])

/-- A frame received correctly takes one off the receive error count (R41). -/
def receivedWell (ch : Chassis) : Chassis × List Notice := withCounts ch.txErrors (ch.rxErrors - 1) ch

/-- A receive error (R41). -/
def receiveFailed (ch : Chassis) : Chassis × List Notice := withCounts ch.txErrors (min 255 (ch.rxErrors + 1)) ch

/-- A transmit slot taken back to IDLE with its due-again flag clear (R42, R45). R25 takes a slot to IDLE without a word of the
flag: log entry 84 (DESIGN CHOICE). -/
def txIdle (t : TxSlot) : TxSlot := { t with state := .idle, dueAgain := false }

/-- The start of recovery (R43). -/
def startRecovery (ch : Chassis) : Chassis × List Notice :=
  ({ ch with port := .recovering, progress := 0 }, [noticeChassisState .recovering ch.txErrors ch.rxErrors])

/-- Entry to BUS_OFF (R41, R42), and of recovery at once when auto-recovery is on (R43). -/
def enterBusOff (auto : Bool) (ch : Chassis) : Chassis × List Notice :=
  let off := { ch with port := .busOff, txErrors := 255, tx := ch.tx.map txIdle, content := none, progress := 0 }
  let n := noticeChassisState .busOff 255 ch.rxErrors
  if auto then ((startRecovery off).1, n :: (startRecovery off).2) else (off, [n])

/-- The end of recovery (R43): both counts 0, ERROR_ACTIVE, on the bus again. -/
def endRecovery (ch : Chassis) : Chassis × List Notice :=
  ({ ch with port := .errorActive, txErrors := 0, rxErrors := 0, progress := 0, joined := true },
    [noticeChassisState .errorActive 0 0])

/-- One recessive run seen in RECOVERING (R43): at the 128th the recovery ends. -/
def recessiveRun (ch : Chassis) : Chassis × List Notice :=
  match ch.port with
  | .recovering => if 127 ≤ ch.progress then endRecovery ch else ({ ch with progress := ch.progress + 1 }, [])
  | _ => (ch, [])

/-- A change of the bit rate (R25): the port leaves the bus and is to join it again. Every slot goes to IDLE; that its due-again
flag is cleared with it, as R42 and R45 say of theirs, R25 leaves open: log entry 84 (DESIGN CHOICE). -/
def changeBitRate (ch : Chassis) : Chassis × List Notice :=
  ({ ch with port := .errorActive, txErrors := 0, rxErrors := 0, progress := 0, joined := false,
             tx := ch.tx.map txIdle, content := none },
    if ch.port = .errorActive then [] else [noticeChassisState .errorActive 0 0])

/-! ### Transmit slots -/

/-- A transmit slot that falls due (R35). -/
def slotDue (t : TxSlot) : TxSlot :=
  match t.state with
  | .idle => { t with state := .pending }
  | .pending => t
  | .sending => { t with dueAgain := true }

/-- Transmit slot `i` falls due (R35): without effect when it is disabled or the port is BUS_OFF, RECOVERING or OFF. -/
def fallDue (c : Settings) (i : Fin 4) (ch : Chassis) : Chassis :=
  if (c.tx[i]).enabled && (decide (ch.port = .errorActive) || decide (ch.port = .errorPassive)) then
    { ch with tx := ch.tx.set i (slotDue (ch.tx[i])) }
  else ch

/-- What a change of a transmit slot's enabled setting does (R35): a PENDING slot that is disabled returns to IDLE. A
slot that is disabled loses its due-again flag at once, a SENDING one as well as a PENDING one that has kept the flag at
lost arbitration (log entry 70), which R35 does not state: log entry 34 (DESIGN CHOICE). -/
def retuneTx (new : TxSettings) (t : TxSlot) : TxSlot :=
  if new.enabled = false then
    match t.state with
    | .pending => txIdle t
    | _ => { t with dueAgain := false }
  else t

/-- The slot in SENDING, if any (R36). -/
def sendingSlot (ch : Chassis) : Option (Fin 4) :=
  (List.finRange 4).find? (fun i => decide ((ch.tx[i]).state = .sending))

/-- Of two slots the one offered first: PENDING, and going first on the bus (R36). Of two with one identifier it is the
lower slot, which R36 leaves open: log entry 54 (DESIGN CHOICE). -/
def betterOffer (c : Settings) (ch : Chassis) (best : Option (Fin 4)) (i : Fin 4) : Option (Fin 4) :=
  if (ch.tx[i]).state = .pending then
    match best with
    | none => some i
    | some b => if precedes (txId (c.tx[i])) (txId (c.tx[b])) then some i else some b
  else best

/-- The slot the port offers: the PENDING slot whose identifier goes first (R36). -/
def offeredSlot (c : Settings) (ch : Chassis) : Option (Fin 4) :=
  (List.finRange 4).foldl (betterOffer c ch) none

/-- A slot put in SENDING, with the identifier and the content of its frame as they are at the offer (R36). -/
def beginSending (f : OfferedFrame) (ch : Chassis) : Chassis :=
  { ch with tx := ch.tx.set f.slot { ch.tx[f.slot] with state := .sending }, content := some f }

/-- The identifier of the frame that slot `i` is sending: the one it was offered with, which a change of the slot's
setting meanwhile leaves (R36). -/
def sendingId (c : Settings) (i : Fin 4) (ch : Chassis) : CanId :=
  match ch.content with
  | some f => f.id
  | none => txId (c.tx[i])

/-- The end of an attempt that was acknowledged (R36, R41). A slot disabled meanwhile is left IDLE (R35); one enabled
again before the end is taken as any other: log entry 85 (DESIGN CHOICE). -/
def sentWell (c : Settings) (now : Uptime) (i : Fin 4) (ch : Chassis) : Chassis × List Notice :=
  let t := ch.tx[i]
  let st := if (c.tx[i]).enabled && t.dueAgain then TxState.pending else TxState.idle
  withCounts (ch.txErrors - 1) ch.rxErrors
    { ch with tx := ch.tx.set i { state := st, dueAgain := false, lastSent := now }, content := none }

/-- A slot that goes back to be offered again, or to IDLE when it has been disabled meanwhile (R35, R36). The setting is read as
it stands at the end of the attempt, so a slot disabled and enabled again during it goes back: R35 and R36 leave that open,
log entry 85 (DESIGN CHOICE). -/
def backToPending (c : TxSettings) (t : TxSlot) : TxSlot :=
  { t with state := if c.enabled then .pending else .idle }

/-- Arbitration lost to another node (R36): no count changes. A set due-again flag is kept, as R36 clears it at the other two
ends of an attempt alone: log entry 70 (DESIGN CHOICE). -/
def lostTo (c : Settings) (i : Fin 4) (ch : Chassis) : Chassis :=
  { ch with tx := ch.tx.set i (backToPending (c.tx[i]) (ch.tx[i])), content := none }

/-- A transmit error (R36, R41): the slot returns to PENDING and the count rises by 8, beyond 255 to BUS_OFF. -/
def sendFailed (c : Settings) (i : Fin 4) (ch : Chassis) : Chassis × List Notice :=
  let back : TxSlot := { backToPending (c.tx[i]) (ch.tx[i]) with dueAgain := false }
  let next : Chassis := { ch with tx := ch.tx.set i back, content := none }
  if 255 < ch.txErrors + 8 then enterBusOff c.chassis.autoRecovery next
  else withCounts (ch.txErrors + 8) ch.rxErrors next

/-- The port joins the bus: the periods of T1 and T2 start and T1 falls due (R38, R39, R44). -/
def joinBus (c : Settings) (now : Uptime) (ch : Chassis) : Chassis :=
  fallDue c 1 { ch with joined := true, t1 := startTimer now 100, t2 := startTimer now 1000 }

/-- The chassis port at entry to WATCH (R45). The error counts are kept. -/
def chassisToWatch (ch : Chassis) : Chassis :=
  { ch with
    port := .off, progress := 0, joined := false, content := none, tx := ch.tx.map txIdle,
    rx := ch.rx.map (fun r =>
      if r.state = .disabled then r else { r with state := .empty, age := none, decoded := none })
    t0 := none, t1 := none, t2 := none }

end Sys2Proof.Machine
end

