-- ==== Sys2Proof/Machine/LockoutUnit.lean ====
section
/-! DEFINITION. The lockout unit (08_lockouts_and_roll_envelope.md): the eleven conditions, the three actions, the
driving-with-condition field and the roll overspeed monitor. -/

namespace Sys2Proof.Machine

/-! ### Conditions (R147, R148) -/

/-- Whether a condition's sources make it active (R147). -/
def conditionHolds (s : State) (i : Fin 11) : Bool :=
  match i with
  | 0 => decide (s.pto.main.state ≠ .disengaged)
  | 1 => decide (s.pto.aux.state ≠ .disengaged)
  | 2 => s.gauge.fill.active || s.level 9
  | 3 => !s.level 6
  | 4 => !s.level 7
  | 5 => s.level 4
  | 6 => decide (s.vehicle = .unknown)
  | 7 => decide (s.inputs.brake.state = .disagree)
  | 8 => decide (s.chassis.port = .busOff) || decide (s.chassis.port = .recovering)
  | 9 => decide (s.pto.main.state = .fault) || decide (s.pto.aux.state = .fault)
  | 10 => s.lock.forced

/-- A condition record with its flag as given; a change of the flag sets the change timestamp (R148). -/
def setCondition (now : Uptime) (active : Bool) (x : LockCond) : LockCond :=
  if active = x.active then x else { active := active, changed := now }

/-- Every condition evaluated from its sources (R148). -/
def evaluateConditions (s : State) : Vector LockCond 11 :=
  s.lock.conds.mapFinIdx (fun i x h => setCondition s.time.uptime (conditionHolds s ⟨i, h⟩) x)

/-- The conditions of the sources that hand their changes to the unit at their own events (R148): the drive records, the
fill record and FORCE. -/
def handedConditions : List (Fin 11) := [0, 1, 2, 9, 10]

/-- Whether a condition's sources make it active as far as they are taken before the first evaluation: of C2 that is the
fill's active flag alone. Log entry 51. -/
def earlyHolds (s : State) (i : Fin 11) : Bool :=
  if i = 2 then s.gauge.fill.active
  else if handedConditions.contains i then conditionHolds s i
  else (s.lock.conds[i]).active

/-- The conditions before the first evaluation (R148, R157): those handed over follow their sources. Log entry 51. -/
def earlyConditions (s : State) : Vector LockCond 11 :=
  s.lock.conds.mapFinIdx (fun i x h => setCondition s.time.uptime (earlyHolds s ⟨i, h⟩) x)

/-- The contributing set of an action, in ascending order (R150). -/
def contributorsOf (c : LockSettings) (conds : Vector LockCond 11) (a : ActionId) : List (Fin 11) :=
  (List.finRange 11).filter (fun i => (conds[i]).active && decide (a ∈ c.actionSets[i]))

/-- The contributing set of an action before the first evaluation: a C10 kept active through a wake joins it at the
first evaluation (R164), unless FORCE makes it active anew. Log entry 51. -/
def earlyContributors (c : LockSettings) (old new : Vector LockCond 11) (a : ActionId) (x : Action) : List (Fin 11) :=
  (contributorsOf c new a).filter (fun i => i != 10 || x.contributors.contains i || !(old[i]).active)

/-! ### Actions (R150 to R155) -/

/-- Whether a set has a member that another does not. -/
def hasNew (old new : List (Fin 11)) : Bool := new.any (fun c => !old.contains c)

/-- An action in another state, entered now, with its hold-off timer stopped. -/
def actionTo (now : Uptime) (st : ActionState) (x : Action) : Action :=
  { x with state := st, holdOff := none, entered := if st = x.state then x.entered else now }

/-- The start of an action's hold-off (R150, R152). -/
def startHoldOff (now : Uptime) (c : ActionSettings) (x : Action) : Action :=
  { actionTo now .holdingOff x with holdOff := startTimer now (orShortest 10 c.holdOff) }

/-- The assertion of an action by a new contributor (R151): IDLE_CAP is deferred while the vehicle is not
stationary. -/
def assertAction (now : Uptime) (a : ActionId) (stationary : Bool) (x : Action) : Action :=
  match x.state with
  | .asserted | .pending => x
  | _ => if a = .idleCap ∧ stationary = false then actionTo now .pending x else actionTo now .asserted x

/-- The response to a contributing set that has become empty (R152). `starting` is the case of an INHIBIT that has not
been empty since the starting point (R163). -/
def emptyAction (now : Uptime) (c : ActionSettings) (starting : Bool) (x : Action) : Action :=
  match x.state with
  | .asserted =>
    if starting then startHoldOff now c x
    else match c.mode with
      | .auto => startHoldOff now c x
      | .manual => actionTo now .latched x
  | .pending => actionTo now .released x
  | _ => x

/-- IDLE_CAP in PENDING at a stationary vehicle (R153). -/
def settlePending (now : Uptime) (stationary : Bool) (x : Action) : Action :=
  if x.state = .pending ∧ stationary = true then actionTo now .asserted x else x

/-- Where the unit stands to its first evaluation (R163): before it, at it, or after it. -/
inductive EvalStage
  | early | first | later
  deriving DecidableEq, Repr

/-- Whether an action responds now to its set having become empty (R152). INHIBIT does so at the first evaluation even if
its set was empty before (R163), and before the first evaluation it waits for that (log entry 51). -/
def emptiedNow (stage : EvalStage) (a : ActionId) (old new : List (Fin 11)) : Bool :=
  new.isEmpty &&
  (match stage, a with
   | .early, .inhibit => false
   | .first, .inhibit => true
   | _, _ => !old.isEmpty)

/-- An action's response to its contributing set (R151 to R153). Of two changes at one event, IDLE_CAP's set becoming
empty and the vehicle becoming stationary, the emptying is taken first, an order that no rule gives: log entry 60
(DESIGN CHOICE). -/
def respond (now : Uptime) (c : ActionSettings) (a : ActionId) (stationary starting : Bool) (stage : EvalStage)
    (new : List (Fin 11)) (x : Action) : Action :=
  let y :=
    if hasNew x.contributors new then assertAction now a stationary x
    else if emptiedNow stage a x.contributors new then emptyAction now c starting x
    else x
  { settlePending now stationary y with contributors := new }

/-- The LOCKOUT notice of a change to or from RELEASED (R155). -/
def lockoutNotice (a : ActionId) (old new : Action) : List Notice :=
  if old.state ≠ new.state ∧ (old.state = .released ∨ new.state = .released) then
    [noticeLockout a old.state new.state new.contributors]
  else []

/-! ### Driving with a condition (R160) -/

/-- The conditions that the driving-with-condition field may name (R160). -/
def drivingConditions : List (Fin 11) := [2, 3, 4, 5, 9, 10]

/-- The driving-with-condition field (R160). -/
def drivingField (vehicle : VehicleState) (inhibit : Action) : Option (Fin 11) :=
  if inhibit.state = .asserted ∧ vehicle = .moving then
    inhibit.contributors.find? (fun c => drivingConditions.contains c)
  else none

/-- The notice of a field that names another condition than before (R160). -/
def drivingNotice (speed : Int) (inhibit : Action) (old new : Option (Fin 11)) : List Notice :=
  match new with
  | none => []
  | some c => if old = some c then [] else [noticeDriving c speed inhibit.contributors]

/-! ### Roll overspeed (R161, R162) -/

/-- The overspeed threshold: roll_speed_limit + 2.00 km/h (R161). -/
def overspeedThreshold (c : LockSettings) : Int := c.rollSpeedLimit + 200

/-- Whether the vehicle is over the threshold (R161). -/
def overThreshold (s : State) : Bool :=
  match s.quantity 0 with
  | none => false
  | some v => decide (overspeedThreshold s.settings.lock < v)

/-- The overspeed monitor as AUX's state and the speed stand (R161): its state and its timer. -/
def followOverspeed (s : State) : OverspeedState × Timer :=
  if s.pto.aux.state = .disengaged then (.off, none)
  else if overThreshold s then
    match s.lock.overspeed with
    | .off | .watching => (.timing, startTimer s.time.uptime (s.settings.lock.overspeedTime * 1000))
    | .timing => (.timing, s.lock.overspeedTimer)
    | .tripped => (.tripped, none)
  else (.watching, none)

/-- The overspeed timer's expiry (R162): TRIPPED, with the alarm. -/
def expireOverspeed (s : State) : Lockout × List Notice :=
  ({ s.lock with overspeed := .tripped, overspeedTimer := none },
    [noticeRollOverspeed s.speedValue (overspeedThreshold s.settings.lock) s.settings.lock.autoDrop])

/-! ### The unit's reaction to an event -/

/-- Whether the first sample of every discrete has been taken (R163). -/
def discretesTaken (i : Inputs) : Bool := i.discrete.toList.all (fun d => !d.awaitFirst)

/-- Where the unit stands at an event (R163): the first evaluation is made once every discrete has been sampled. -/
def evalStage (s : State) : EvalStage :=
  if s.lock.evaluated then .later else if discretesTaken s.inputs then .first else .early

/-- The conditions as an event leaves them (R148, R163). -/
def conditionsAt (s : State) : EvalStage → Vector LockCond 11
  | .early => earlyConditions s
  | .first | .later => evaluateConditions s

/-- The contributing set of an action as an event leaves it (R150, R163). -/
def contributorsAt (s : State) (stage : EvalStage) (a : ActionId) : List (Fin 11) :=
  match stage with
  | .early => earlyContributors s.settings.lock s.lock.conds (conditionsAt s .early) a (s.lock.action a)
  | st => contributorsOf s.settings.lock (conditionsAt s st) a

/-- The three actions and the driving-with-condition field as an event leaves them (R148, R163). -/
def evaluateActions (s : State) (stage : EvalStage) : Lockout × List Notice :=
  let c := s.settings.lock
  let l := s.lock
  let now := s.time.uptime
  let set0 := contributorsAt s stage .inhibit
  let i := respond now c.inhibit .inhibit s.stationary l.starting stage set0 l.inhibit
  let r := respond now c.rollLimit .rollLimit s.stationary false stage (contributorsAt s stage .rollLimit) l.rollLimit
  let k := respond now c.idleCap .idleCap s.stationary false stage (contributorsAt s stage .idleCap) l.idleCap
  let d := drivingField s.vehicle i
  ({ l with conds := conditionsAt s stage, inhibit := i, rollLimit := r, idleCap := k, driving := d,
            evaluated := decide (stage ≠ .early), starting := l.starting && (decide (stage = .early) || !set0.isEmpty) },
    lockoutNotice .inhibit l.inhibit i ++ lockoutNotice .rollLimit l.rollLimit r ++
    lockoutNotice .idleCap l.idleCap k ++ drivingNotice s.speedValue i l.driving d)

/-- The unit's reaction to an event (R148, R161, R163). -/
def lockoutReact (s : State) : Lockout × List Notice :=
  let o := followOverspeed s
  let e := evaluateActions s (evalStage s)
  ({ e.1 with overspeed := o.1, overspeedTimer := o.2 }, e.2)

/-- The expiry of an action's hold-off timer (R154). -/
def expireHoldOff (now : Uptime) (a : ActionId) (l : Lockout) : Lockout × List Notice :=
  let x := l.action a
  match x.state with
  | .holdingOff =>
    let y := actionTo now .released x
    (l.setAction a y, lockoutNotice a x y)
  | _ => (l.setAction a { x with holdOff := none }, [])

/-- RELEASE of an action (R155), with its result code and the condition it names when refused. -/
def releaseAction (now : Uptime) (a : ActionId) (l : Lockout) :
    Lockout × List Notice × ResultCode × Option (Fin 11) :=
  let x := l.action a
  match x.state with
  | .latched | .holdingOff =>
    let y := actionTo now .released x
    (l.setAction a y, lockoutNotice a x y, .ok, none)
  | .asserted | .pending => (l, [], .refusedCondition, x.contributors.head?)
  | .released => (l, [], .ok, none)

/-! ### WATCH and wake (R164) -/

/-- The lockout unit at entry to WATCH (R164). -/
def lockoutToWatch (l : Lockout) : Lockout :=
  { l with
    inhibit := { l.inhibit with holdOff := none }, rollLimit := { l.rollLimit with holdOff := none }
    idleCap := { l.idleCap with holdOff := none }, overspeedTimer := none }

/-- An action at the end of WAKING (R164): LATCHED stays, any other goes to the given state. One that is in that state
already keeps its state-entry timestamp, which R164 does not state: log entry 67 (DESIGN CHOICE). -/
def actionWake (now : Uptime) (st : ActionState) (x : Action) : Action :=
  if x.state = .latched then { x with contributors := [], holdOff := none }
  else { actionTo now st x with contributors := [] }

/-- The lockout unit at the end of WAKING (R164): C10 alone keeps its flag. -/
def lockoutWake (now : Uptime) (l : Lockout) : Lockout :=
  { conds := l.conds.mapFinIdx (fun i x _ => if i = 10 then x else setCondition now false x)
    inhibit := actionWake now .asserted l.inhibit, rollLimit := actionWake now .released l.rollLimit
    idleCap := actionWake now .released l.idleCap, driving := none, overspeed := .off, overspeedTimer := none,
    forced := l.forced, evaluated := false, starting := true }

/-! ### What the actions drive (R157, R158) -/

/-- The drive permit O2, and T1's permit field (R157). -/
def permit (l : Lockout) (p : PowerState) : Bool := decide (l.inhibit.state = .released) && decide (p = .awake)

/-- T1's roll speed limit field: present while ROLL_LIMIT is ASSERTED (R158). -/
def rollSpeedField (c : LockSettings) (l : Lockout) : Option Int :=
  if l.rollLimit.state = .asserted then some c.rollSpeedLimit else none

end Sys2Proof.Machine
end

