-- ==== Sys2Proof/Machine/PumpGovernor.lean ====
section
/-! DEFINITION. The pump governor (05_pump_governor.md): the choice of the governed drive, the transitions between the
modes, the ceiling, and the steps. -/

namespace Sys2Proof.Machine

/-! ### The governed drive and the ceilings -/

/-- The drive the governor governs: MAIN while ENGAGED and ready, otherwise AUX while ENGAGED and ready (R79). -/
def governedDrive (p : Pto) : Option DriveId :=
  if p.main.state = .engaged ∧ p.main.ready = true then some .main
  else if p.aux.state = .engaged ∧ p.aux.ready = true then some .aux
  else none

/-- The governed discharge channel: A0 for MAIN, A2 for AUX (R79). -/
def dischargeIndex : DriveId → Fin 10
  | .main => 0
  | .aux => 2

/-- The governed discharge channel's record, if there is a governed drive. -/
def State.discharge (s : State) : Option AnalogChan :=
  s.gov.governed.map (fun d => s.inputs.analog[dischargeIndex d])

/-- The least ceiling in force (R91): gov_max, the protection ceiling, idle_rpm + 100 while IDLE_CAP is ASSERTED, and
roll_rpm_max while ROLL_LIMIT is ASSERTED. -/
def ceilingOf (c : Settings) (prot : Protection) (l : Lockout) : Int :=
  let base := min c.gov.govMax prot.ceiling.value
  let capped := if l.idleCap.state = .asserted then min base (c.gov.idleRpm + 100) else base
  if l.rollLimit.state = .asserted then min capped c.lock.rollRpmMax else capped

/-- The ceiling from the records as they stand. -/
def State.ceiling (s : State) : Int := ceilingOf s.settings s.prot s.lock

/-- The engine request as T0 carries it (R96, R97): the stored request limited to the range from idle_rpm to the
ceiling, absent in OFF and ROLL. -/
def State.engineRequest (s : State) : Option Int :=
  match s.gov.mode with
  | .off | .roll => none
  | _ => some (clampInt s.settings.gov.idleRpm s.ceiling s.gov.request)

/-! ### Modes -/

/-- The resume mode on leaving a mode for IDLE or ROLL (R86). -/
def resumeOnLeaving (g : Governor) : Option ResumeMode :=
  match g.mode with
  | .pressure | .hold => some .pressure
  | .speed => some .speed
  | _ => g.resume

/-- Entry to OFF (R81). -/
def enterOff (c : GovSettings) (g : Governor) : Governor :=
  { g with mode := .off, request := c.idleRpm, prevError := 0, firstStep := false, resume := none, windDown := none,
           hold := none, stop := none }

/-- Entry to ROLL (R82). -/
def enterRoll (c : GovSettings) (g : Governor) : Governor :=
  { g with mode := .roll, resume := resumeOnLeaving g, request := c.idleRpm, firstStep := false, windDown := none,
           hold := none, stop := none }

/-- Entry to IDLE with the resume mode that R86 gives: PUMP_IDLE, hold expiry, the loss of the throttle path, and
wind-down IDLE, whose entry from ROLL ends a running stop timer too: log entry 57 (DESIGN CHOICE). -/
def enterIdle (g : Governor) : Governor :=
  { g with mode := .idle, resume := resumeOnLeaving g, hold := none, stop := none }

/-- The stored request as a drive that becomes governed finds it (R80): idle_rpm from OFF, so that the first frame asks for
idle; from wind-down IDLE it is kept. An idle_rpm changed while OFF reaches it here: log entry 73 (DEDUCED). -/
def requestWhenGoverned (c : GovSettings) (g : Governor) : Int := if g.mode = .off then c.idleRpm else g.request

/-- A change of the governed drive from `g.governed` to `new` (R80, R81). -/
def changeGoverned (s : State) (new : Option DriveId) (g : Governor) : Governor :=
  match g.governed, new with
  | none, some d =>
    let g' := { g with governed := some d, windDown := none, request := requestWhenGoverned s.settings.gov g,
                       resume := if g.windDown = some d then g.resume else none }
    if d = .aux ∧ s.stationary = false then enterRoll s.settings.gov g' else { g' with mode := .idle }
  | some _, some d =>
    let g' := { g with governed := some d, mode := .idle, resume := none, windDown := none, hold := none, stop := none }
    if d = .aux ∧ s.stationary = false then enterRoll s.settings.gov g' else g'
  | some d, none =>
    if (s.pto.drive d).state = .windingDown ∧ (d = .main ∨ s.stationary = true) then
      { enterIdle g with governed := none, windDown := some d }
    else enterOff s.settings.gov { g with governed := none }
  | none, none => g

/-- The end of wind-down IDLE when its drive has left WINDING_DOWN, or is AUX and the vehicle is not stationary (R81). -/
def leaveWindDown (s : State) (g : Governor) : Governor :=
  match g.windDown with
  | none => g
  | some d =>
    if (s.pto.drive d).state ≠ .windingDown ∨ (d = .aux ∧ s.stationary = false) then enterOff s.settings.gov g else g

/-- With AUX governed and the vehicle not stationary, the governor goes to ROLL (R82). -/
def rollWithAux (s : State) (g : Governor) : Governor :=
  if g.governed = some .aux ∧ s.stationary = false ∧ g.mode ≠ .roll ∧ g.mode ≠ .off then
    enterRoll s.settings.gov g
  else g

/-- The stop time of R83. -/
def stopMs : Nat := 2000

/-- The stop timer in ROLL (R83): started when the vehicle becomes stationary, cancelled when it ceases to be. -/
def watchForStop (s : State) (g : Governor) : Governor :=
  if g.mode = .roll then
    if s.stationary then
      (if g.stop.isNone then { g with stop := startTimer s.time.uptime stopMs } else g)
    else { g with stop := none }
  else g

/-- The throttle path by the port's state (R85). -/
def pathOf (p : PortState) (old : ThrottlePath) : ThrottlePath :=
  match p with
  | .busOff | .recovering => .lost
  | .errorActive | .errorPassive => .available
  | .off => old

/-- The loss and return of the throttle path (R85). -/
def followPath (s : State) (g : Governor) : Governor × List Notice :=
  let p := pathOf s.chassis.port g.path
  if p = .lost ∧ g.path = .available then
    match g.mode with
    | .off => ({ g with path := .lost }, [])
    | .idle | .roll => ({ g with path := .lost }, [noticeThrottlePathLost g.governed g.mode])
    | _ => ({ enterIdle g with path := .lost }, [noticeThrottlePathLost g.governed g.mode])
  else ({ g with path := p }, [])

/-- The governor's reaction to an event: the throttle path, then the governed drive, the wind-down drive, the vehicle
and the stop timer (R79 to R85). One frame on the bus can end AUX's standstill and make MAIN governed at once, an order
that no rule gives: the governed drive is taken first, so the request is kept and does not become idle_rpm. Log entry 79
(DESIGN CHOICE). -/
def governorReact (s : State) : Governor × List Notice :=
  let (g, ns) := followPath s s.gov
  let new := governedDrive s.pto
  let g := if new = g.governed then g else changeGoverned s new g
  (watchForStop s (rollWithAux s (leaveWindDown s g)), ns)

/-! ### Steps -/

/-- The error of a PRESSURE step, limited to −2000 to +2000 (R92). -/
def pressureError (setpoint p : Int) : Int := clampInt (-2000) 2000 (setpoint - p)

/-- The change of the request before fast-fall: the deadband, the weights, the rounding, and the rate limits (R92). -/
def pressureChange (c : GovSettings) (e ePrev : Int) : Int :=
  let raw := if e.natAbs ≤ c.deadband.toNat then 0 else halfAway (c.ki * e + c.kp * (e - ePrev)) 256
  clampInt (-c.fallLimit) c.riseLimit raw

/-- The change of the request with fast-fall (R92). -/
def fastFall (c : GovSettings) (p change : Int) : Int :=
  if c.pressureSetpoint + c.fastFallBand < p then min change (-c.fastFallStep) else change

/-- The PRESSURE step on a VALID channel (R92): the governed discharge counts as 0 when negative (R79). -/
def pressureStep (c : GovSettings) (ceiling eng : Int) (g : Governor) : Governor :=
  let p := max 0 eng
  let e := pressureError c.pressureSetpoint p
  let ePrev := if g.firstStep then e else g.prevError
  let change := fastFall c p (pressureChange c e ePrev)
  { g with request := clampInt c.idleRpm ceiling (g.request + change), prevError := e, firstStep := false }

/-- The SPEED step (R94). -/
def speedStep (c : GovSettings) (ceiling : Int) (g : Governor) : Governor :=
  let r :=
    if g.request < c.speedSetpoint then g.request + min c.riseLimit (c.speedSetpoint - g.request)
    else g.request - min c.fallLimit (g.request - c.speedSetpoint)
  { g with request := clampInt c.idleRpm ceiling r }

/-- The IDLE step (R95). -/
def idleStep (c : GovSettings) (ceiling : Int) (g : Governor) : Governor :=
  let r := if c.idleRpm < g.request then g.request - min c.fallLimit (g.request - c.idleRpm) else g.request
  { g with request := clampInt c.idleRpm ceiling r }

/-- The HOLD step (R95). -/
def holdStep (c : GovSettings) (ceiling : Int) (g : Governor) : Governor :=
  { g with request := clampInt c.idleRpm ceiling g.request }

/-- The step in PRESSURE (R84, R92, R93): a HELD channel changes nothing; one that is not usable takes the governor to
HOLD. -/
def stepInPressure (c : GovSettings) (now : Uptime) (ceiling : Int) (ch : AnalogChan) (g : Governor) :
    Governor × List Notice :=
  match ch.state with
  | .held => (g, [])
  | .valid => (pressureStep c ceiling (ch.eng.getD 0) g, [])
  | _ => ({ g with mode := .hold, hold := startTimer now c.holdLimit },
          [noticeGovernorHold g.governed .entered g.request])

/-- The step in HOLD (R84, R95): a usable channel brings PRESSURE back, and the same step is then a PRESSURE step. -/
def stepInHold (c : GovSettings) (now : Uptime) (ceiling : Int) (ch : AnalogChan) (g : Governor) :
    Governor × List Notice :=
  if analogUsable ch then
    let (g', ns) := stepInPressure c now ceiling ch { g with mode := .pressure, hold := none, firstStep := true }
    (g', noticeGovernorHold g.governed .recovered g.request :: ns)
  else (holdStep c ceiling g, [])

/-- The governor step of one event (R91 to R95). -/
def governorStep (s : State) : Governor × List Notice :=
  let c := s.settings.gov
  let g := { s.gov with next := nextPeriod s.time.uptime 20 s.gov.next }
  let ceiling := s.ceiling
  let stored := { g with ceiling := ceiling }
  match g.mode with
  | .off => (g, [])
  | .idle => (idleStep c ceiling stored, [])
  | .speed => (speedStep c ceiling stored, [])
  | .roll => ({ stored with request := c.idleRpm }, [])
  | .pressure =>
    match s.discharge with
    | none => (stored, [])
    | some ch => stepInPressure c s.time.uptime ceiling ch stored
  | .hold =>
    match s.discharge with
    | none => (stored, [])
    | some ch => stepInHold c s.time.uptime ceiling ch stored

/-- The hold timer's expiry (R84). -/
def expireGovernorHold (g : Governor) : Governor × List Notice :=
  match g.mode with
  | .hold => (enterIdle g, [noticeGovernorHold g.governed .expired g.request])
  | _ => ({ g with hold := none }, [])

/-- The stop timer's expiry (R83): IDLE with the resume mode kept and the request idle_rpm, also where idle_rpm has changed
in ROLL and no step has come since: log entry 73 (DEDUCED). -/
def expireStop (c : GovSettings) (g : Governor) : Governor :=
  match g.mode with
  | .roll => { g with mode := .idle, request := c.idleRpm, stop := none }
  | _ => { g with stop := none }

/-! ### Requests -/

/-- Whether a GOVERN would be accepted now (R87). -/
def governAccepted (s : State) : Bool :=
  (match s.gov.governed with
   | none => false
   | some .main => true
   | some .aux => s.stationary) &&
  decide (s.gov.mode ≠ .roll) && decide (s.gov.path = .available)

/-- What an accepted GOVERN PRESSURE does to the mode (R87). -/
def governPressure (g : Governor) : Governor :=
  match g.mode with
  | .hold => g
  | .pressure => { g with firstStep := true }
  | _ => { g with mode := .pressure, firstStep := true, resume := none }

/-- What an accepted GOVERN SPEED does to the mode (R87). -/
def governSpeed (g : Governor) : Governor :=
  match g.mode with
  | .speed => g
  | _ => { g with mode := .speed, resume := none, hold := none }

/-- The governor's part of RESUME (R90): the governor in its resume mode, or none when refused. -/
def resumeGovernor (s : State) : Option Governor :=
  if s.gov.mode = .idle ∧ governAccepted s = true then
    match s.gov.resume with
    | none => none
    | some .pressure => some { s.gov with mode := .pressure, firstStep := true, resume := none }
    | some .speed => some { s.gov with mode := .speed, resume := none }
  else none

end Sys2Proof.Machine
end

