-- ==== Sys2Proof/Machine/ChassisFrames.lean ====
section
/-! DEFINITION. The contents of the chassis frames T0 to T3 (R40, R96, R97), and when they fall due (R37, R38). -/

namespace Sys2Proof.Machine

/-- T1's pumping flag: either drive ENGAGED and ready (R40). -/
def pumping (p : Pto) : Bool :=
  (decide (p.main.state = .engaged) && p.main.ready) || (decide (p.aux.state = .engaged) && p.aux.ready)

/-- T0's control kind (R96): NONE 0, REQUEST 1, LIMIT 2. -/
def controlKind : GovMode → Nat
  | .off => 0
  | .roll => 2
  | _ => 1

/-- T0's engine speed limit: the ceiling, absent in OFF (R96). -/
def State.speedLimit (s : State) : Option Int := if s.gov.mode = .off then none else some s.ceiling

/-- An engine speed as an unsigned field. -/
def rpmField (v : Option Int) : List Byte := noticeU16 (v.map Int.toNat)

/-- The content of T0 (R40, R96). -/
def throttleFrame (s : State) : List Byte :=
  u8 (controlKind s.gov.mode) ++ rpmField s.engineRequest ++ rpmField s.speedLimit

/-- The content of T1 (R40, R157, R158). -/
def interlockFrame (s : State) : List Byte :=
  bool8 (permit s.lock s.power.state) ++ rpmField (rollSpeedField s.settings.lock s.lock) ++
  u8 (driveStateCode s.pto.main.state) ++ u8 (driveStateCode s.pto.aux.state) ++ bool8 (pumping s.pto)

/-- The content of T2 (R40). -/
def tanksFrame (s : State) : List Byte :=
  noticeU16 s.gauge.water.reported ++ noticeU16 s.gauge.foamA.reported ++ noticeU16 s.gauge.foamB.reported ++
  u8 (tankStateCode s.gauge.water.state + 16 * tankStateCode s.gauge.foamA.state) ++
  u8 (tankStateCode s.gauge.foamB.state)

/-- The governed discharge as T3 carries it: absent without a governed drive or a usable channel (R97). -/
def State.dischargeField (s : State) : Option Int :=
  match s.discharge with
  | none => none
  | some ch => if analogUsable ch then ch.eng else none

/-- The content of T3 (R40, R97). -/
def answerFrame (s : State) : List Byte :=
  u8 (govModeCode s.gov.mode) ++ noticeS16 s.dischargeField ++ rpmField s.engineRequest

/-- The content of a transmit slot's frame, built from the records as they stand (R36, R40). -/
def frameContent (s : State) (i : Fin 4) : List Byte :=
  match i with
  | 0 => throttleFrame s
  | 1 => interlockFrame s
  | 2 => tanksFrame s
  | 3 => answerFrame s

/-- The fields of T1 whose change makes it fall due (R38). -/
def interlockFields (s : State) : Bool × Option Int × DriveState × DriveState × Bool :=
  (permit s.lock s.power.state, rollSpeedField s.settings.lock s.lock, s.pto.main.state, s.pto.aux.state,
   pumping s.pto)

/-- T0 as the governor's mode leaves OFF or becomes OFF (R37). -/
def followThrottle (before s : State) (ch : Chassis) : Chassis :=
  if before.gov.mode = .off ∧ s.gov.mode ≠ .off then
    fallDue s.settings 0 { ch with t0 := startTimer s.time.uptime 20 }
  else if before.gov.mode ≠ .off ∧ s.gov.mode = .off then fallDue s.settings 0 { ch with t0 := none }
  else ch

/-- T1 at a change of a field it carries, and at the return from RECOVERING (R38). -/
def followInterlock (before s : State) (ch : Chassis) : Chassis :=
  if interlockFields before ≠ interlockFields s ∨ (before.chassis.port = .recovering ∧ ch.port = .errorActive) then
    fallDue s.settings 1 ch
  else ch

/-- The port's reaction to an event (R37, R38). -/
def chassisReact (before s : State) : Chassis := followInterlock before s (followThrottle before s s.chassis)

end Sys2Proof.Machine
end

