-- ==== Sys2Proof/Machine/ProtectionMonitor.lean ====
section
/-! DEFINITION. The protection monitor (06_protection_monitor.md): the sources and tests of the five conditions, P0's
qualification, the recirculation flag, the ceiling, and what changes of settings do to them. -/

namespace Sys2Proof.Machine

/-! ### Sources and tests (R103 to R108) -/

/-- What a protection step finds at a condition's source (R103). -/
inductive ProtSource
  | lost | notYetKnown | notApplicable
  | value (v : Int)
  deriving DecidableEq, Repr

/-- An analog channel as a source (R103). -/
def analogSource (a : AnalogChan) : ProtSource :=
  match a.state with
  | .fault | .disabled => .lost
  | .warming => .notYetKnown
  | .valid | .held => .value (a.eng.getD 0)

/-- The coolant quantity as a source (R108). -/
def coolantSource (s : State) : ProtSource :=
  match boundSlot s.settings 5 with
  | none => .lost
  | some i =>
    match (s.chassis.rx[i]).state with
    | .disabled | .stale | .notAvailable => .lost
    | .empty => .notYetKnown
    | .fresh => .value ((s.chassis.rx[i]).decoded.getD 0)

/-- The source of P0 (R104), after the tests for a lost and a not yet known A1. -/
def cavitationSource (s : State) : ProtSource :=
  match analogSource (s.inputs.analog[(1 : Fin 10)]) with
  | .value v => if s.gov.governed = some .main then .value v else .notApplicable
  | other => other

/-- The source of P1 (R105). -/
def tankSource (s : State) : ProtSource :=
  if s.gauge.water.state = .absent then .lost
  else match s.gauge.water.reported with
    | none => .notYetKnown
    | some v => if s.level 5 then .value v else .notApplicable

/-- The source of P3 (R107): not applicable is judged first. -/
def overpressureSource (s : State) : ProtSource :=
  match s.gov.governed with
  | none => .notApplicable
  | some .main => analogSource (s.inputs.analog[(0 : Fin 10)])
  | some .aux => analogSource (s.inputs.analog[(2 : Fin 10)])

/-- The source of a condition, by its number (R104 to R108). -/
def protSource (s : State) (i : Fin 5) : ProtSource :=
  match i with
  | 0 => cavitationSource s
  | 1 => tankSource s
  | 2 => analogSource (s.inputs.analog[(7 : Fin 10)])
  | 3 => overpressureSource s
  | 4 => coolantSource s

/-- The activating test (R104 to R108). P0 has none at a step. -/
def activates (c : ProtSettings) (i : Fin 5) (v : Int) : Bool :=
  match i with
  | 0 => false
  | 1 => decide (v ≤ c.emptyReserve)
  | 2 => decide (c.critical ≤ v)
  | 3 => decide (c.maxPressure ≤ v)
  | 4 => decide (c.coolantLimit ≤ v)

/-- The clearing test (R104 to R108). -/
def clears (c : ProtSettings) (i : Fin 5) (v : Int) : Bool :=
  match i with
  | 0 => decide (c.intakeMin + 30 ≤ v)
  | 1 => decide ((c.emptyReserve : Int) + 100 < v)
  | 2 => decide (v < c.critical - 50)
  | 3 => decide (v < c.maxPressure - 150)
  | 4 => decide (v < c.coolantLimit - 30)

/-- The state that the tests of R103 give a condition. -/
def testedState (c : ProtSettings) (i : Fin 5) (src : ProtSource) (old : ProtState) : ProtState :=
  if (c.enabled[i]) = false then .inactive
  else match src with
    | .lost => .unknown
    | .notYetKnown => old
    | .notApplicable => .inactive
    | .value v =>
      match old with
      | .active => if clears c i v then .inactive else .active
      | _ => if activates c i v then .active else .inactive

/-- The value that a source gives a notice. -/
def sourceValue : ProtSource → Option Int
  | .value v => some v
  | _ => none

/-- A condition taken to a state, with its timestamps and its notice (R103). -/
def moveCond (now : Uptime) (i : Fin 5) (new : ProtState) (value : Option Int) (x : ProtCond) :
    ProtCond × List Notice :=
  if new = x.state then (x, [])
  else match new with
    | .active =>
      ({ state := .active, activated := now, entered := now }, [noticeProtect i.val .alarm .active value])
    | .inactive => ({ x with state := .inactive, entered := now }, [noticeProtect i.val .info .cleared value])
    | .unknown => ({ x with state := .unknown, entered := now }, [noticeProtect i.val .warning .unknown none])

/-- One condition at a protection step (R103). -/
def stepCond (s : State) (i : Fin 5) : ProtCond × List Notice :=
  let x := s.prot.conds[i]
  let src := protSource s i
  moveCond s.time.uptime i (testedState s.settings.prot i src x.state) (sourceValue src) x

/-- Whether an enabled condition is ACTIVE (R112). -/
def condActive (c : ProtSettings) (conds : Vector ProtCond 5) (i : Fin 5) : Bool :=
  (c.enabled[i]) && decide ((conds[i]).state = .active)

/-- The lowest-numbered enabled condition that is ACTIVE (R116, R117). -/
def lowestActive (c : ProtSettings) (conds : Vector ProtCond 5) : Option (Fin 5) :=
  (List.finRange 5).find? (condActive c conds)

/-- Whether any enabled condition is ACTIVE. -/
def anyActive (c : ProtSettings) (conds : Vector ProtCond 5) : Bool := (lowestActive c conds).isSome

/-! ### The ceiling (R112 to R115) -/

/-- The ceiling in another state, entered now. -/
def ceilingTo (now : Uptime) (st : CeilState) (v : Int) (x : Ceiling) : Ceiling :=
  { value := v, state := st, steps := none, entered := if st = x.state then x.entered else now }

/-- The entry to FALLING, or to FLOOR when the value is already at idle_rpm (R113). -/
def startFalling (now : Uptime) (idle v : Int) (x : Ceiling) : Ceiling :=
  if v ≤ idle then ceilingTo now .floor v x else ceilingTo now .falling v x

/-- The ceiling raised by rise_limit: RISING, or FREE at gov_max (R114). -/
def raiseCeiling (g : GovSettings) (now : Uptime) (x : Ceiling) : Ceiling × List Notice :=
  let v := min g.govMax (x.value + g.riseLimit)
  if g.govMax ≤ v then (ceilingTo now .free v x, [noticeProtect 5 .info .free (some v)])
  else (ceilingTo now .rising v x, [])

/-- The resume timer at entry to WAITING, in protection steps (R114). -/
def resumeSteps (delay : Nat) : Nat := max 1 (delay / 20)

/-- The request from which a ceiling in FREE falls (R113): the governor's stored one. In OFF and ROLL it is idle_rpm, as
R106 and R113 say, also while the stored request stands at an idle_rpm that has since been lowered (R98). Log entry 47. -/
def requestInForce (idle : Int) (g : Governor) : Int :=
  match g.mode with
  | .off | .roll => idle
  | _ => g.request

/-- The ceiling at a step with a condition active (R112, R113). `r` is the request in force; one that a raised idle_rpm has
left below it counts as idle_rpm, since the ceiling never lies below it (R112). Log entry 47. -/
def ceilingUnder (c : Settings) (now : Uptime) (r : Int) (x : Ceiling) : Ceiling :=
  match x.state with
  | .free => startFalling now c.gov.idleRpm (max c.gov.idleRpm (min r c.gov.govMax)) x
  | .waiting | .latched | .rising => startFalling now c.gov.idleRpm x.value x
  | .falling => startFalling now c.gov.idleRpm (max c.gov.idleRpm (x.value - c.prot.retreatStep)) x
  | .floor => x

/-- The ceiling at a step with no condition active (R112, R114). -/
def ceilingClear (c : Settings) (now : Uptime) (x : Ceiling) : Ceiling × List Notice :=
  match x.state with
  | .free => ({ x with value := c.gov.govMax }, [])
  | .latched => (x, [])
  | .falling | .floor =>
    match c.prot.resumeMode with
    | .auto => ({ ceilingTo now .waiting x.value x with steps := some (resumeSteps c.prot.resumeDelay) }, [])
    | .manual => (ceilingTo now .latched x.value x, [noticeProtect 5 .warning .latched (some x.value)])
  | .waiting =>
    match x.steps with
    | none => (x, [])
    | some n => if n ≤ 1 then raiseCeiling c.gov now x else ({ x with steps := some (n - 1) }, [])
  | .rising => raiseCeiling c.gov now x

/-- The ceiling's part of a protection step (R112). -/
def stepCeiling (c : Settings) (now : Uptime) (active : Bool) (r : Int) (x : Ceiling) : Ceiling × List Notice :=
  if active then (ceilingUnder c now r x, []) else ceilingClear c now x

/-- The protection step (R103, R112): P1 to P4, then P0, then the ceiling. -/
def protectionStep (s : State) : Protection × List Notice :=
  let now := s.time.uptime
  let p1 := stepCond s 1
  let p2 := stepCond s 2
  let p3 := stepCond s 3
  let p4 := stepCond s 4
  let p0 := stepCond s 0
  let conds := #v[p0.1, p1.1, p2.1, p3.1, p4.1]
  let ceil := stepCeiling s.settings now (anyActive s.settings.prot conds)
    (requestInForce s.settings.gov.idleRpm s.gov) s.prot.ceiling
  ({ s.prot with conds := conds, ceiling := ceil.1, next := nextPeriod now 20 s.prot.next },
    p1.2 ++ p2.2 ++ p3.2 ++ p4.2 ++ p0.2 ++ ceil.2)

/-! ### Reactions between steps -/

/-- The qualification time of P0 (R104). -/
def qualificationMs : Nat := 500

/-- The three facts of P0 (R104). -/
def cavitationFacts (s : State) : Bool :=
  let a := s.inputs.analog[(1 : Fin 10)]
  decide (s.gov.governed = some .main) && decide (s.settings.gov.idleRpm + 300 < s.gov.request) &&
  analogUsable a && decide (a.eng.getD 0 < s.settings.prot.intakeMin)

/-- The qualification timer as the facts stand (R104): it runs while P0 is enabled and INACTIVE and the facts hold. -/
def followQualification (s : State) : Timer :=
  if (s.settings.prot.enabled[(0 : Fin 5)]) && decide ((s.prot.conds[(0 : Fin 5)]).state = .inactive) &&
      cavitationFacts s then
    (if s.prot.qualification.isSome then s.prot.qualification else startTimer s.time.uptime qualificationMs)
  else none

/-- The recirculation flag judged on A7 (R110). -/
def judgeRecirc (warn : Int) (a : AnalogChan) (old : Bool) : Bool :=
  match a.state with
  | .valid | .held =>
    if warn ≤ a.eng.getD 0 then true else if a.eng.getD 0 < warn - 50 then false else old
  | .fault => true
  | .disabled => false
  | .warming => old

/-- The monitor's reaction to an event: the recirculation flag at a change of A7's state or engineering value (R110),
then the qualification timer (R104). -/
def protReact (before s : State) : Protection :=
  let a := s.inputs.analog[(7 : Fin 10)]
  let b := before.inputs.analog[(7 : Fin 10)]
  let changed := decide (a.state ≠ b.state) || decide (a.eng ≠ b.eng)
  { s.prot with
    recirc := if changed then judgeRecirc s.settings.prot.warn a s.prot.recirc else s.prot.recirc
    qualification := followQualification s }

/-- The qualification timer's expiry (R104): P0 becomes ACTIVE with A1's value. -/
def expireQualification (s : State) : Protection × List Notice :=
  let x := s.prot.conds[(0 : Fin 5)]
  match x.state with
  | .inactive =>
    let m := moveCond s.time.uptime 0 .active (some ((s.inputs.analog[(1 : Fin 10)]).eng.getD 0)) x
    ({ s.prot with conds := s.prot.conds.set 0 m.1, qualification := none }, m.2)
  | _ => ({ s.prot with qualification := none }, [])

/-- Whether the dump valve O4 is to be open in a working part (R109). -/
def dumpOpen (p : Protection) : Bool := decide ((p.conds[(3 : Fin 5)]).state = .active)

/-- The lamp (R111). -/
def lampLit (c : ProtSettings) (p : Protection) (i : Inputs) : Bool :=
  anyActive c p.conds || decide ((i.analog[(0 : Fin 10)]).state = .fault) ||
  decide ((i.analog[(1 : Fin 10)]).state = .fault) || decide ((i.analog[(2 : Fin 10)]).state = .fault)

/-! ### RESUME, settings and WATCH -/

/-- The monitor's part of RESUME (R116). -/
inductive ResumePart
  | accepted | refused (c : Fin 5) | notLatched
  deriving DecidableEq, Repr

/-- The monitor's part of RESUME as the records stand (R116). -/
def resumePart (s : State) : ResumePart :=
  match s.prot.ceiling.state with
  | .latched =>
    match lowestActive s.settings.prot s.prot.conds with
    | none => .accepted
    | some c => .refused c
  | _ => .notLatched

/-- The ceiling that an accepted RESUME leaves (R116). -/
def resumeCeiling (now : Uptime) (x : Ceiling) : Ceiling := ceilingTo now .rising x.value x

/-- What a change of gov_max does to the ceiling (R117). -/
def followGovMax (old new : Int) (active : Bool) (x : Ceiling) : Ceiling :=
  if new < old then { x with value := min x.value new }
  else if old < new ∧ x.state = .free ∧ active = false then { x with value := new }
  else x

/-- What a change of idle_rpm does to the ceiling (R117). -/
def followIdle (now : Uptime) (old new : Int) (x : Ceiling) : Ceiling :=
  if new < old ∧ x.state = .floor then { ceilingTo now .falling x.value x with steps := x.steps }
  else if x.value < new then { x with value := new }
  else x

/-- What disabling does to a condition (R117). -/
def disableCond (now : Uptime) (i : Fin 5) (x : ProtCond) : ProtCond × List Notice :=
  if x.state = .inactive then (x, [])
  else ({ x with state := .inactive, entered := now }, [noticeProtect i.val .info .disabled none])

/-- A condition after a change of its enabled setting (R117). -/
def retuneCond (now : Uptime) (old new : ProtSettings) (i : Fin 5) (x : ProtCond) : ProtCond × List Notice :=
  if (old.enabled[i]) && !(new.enabled[i]) then disableCond now i x else (x, [])

/-- What a change of the governor's and the protection settings does to the monitor (R117). A condition disabled at the event
at which gov_max rises is INACTIVE before the ceiling takes the new gov_max, an order that no rule gives: log entry 69
(DESIGN CHOICE). -/
def retuneProtection (now : Uptime) (oldG newG : GovSettings) (old new : ProtSettings) (p : Protection) :
    Protection × List Notice :=
  let c0 := retuneCond now old new 0 (p.conds[(0 : Fin 5)])
  let c1 := retuneCond now old new 1 (p.conds[(1 : Fin 5)])
  let c2 := retuneCond now old new 2 (p.conds[(2 : Fin 5)])
  let c3 := retuneCond now old new 3 (p.conds[(3 : Fin 5)])
  let c4 := retuneCond now old new 4 (p.conds[(4 : Fin 5)])
  let conds := #v[c0.1, c1.1, c2.1, c3.1, c4.1]
  ({ p with
     conds := conds
     ceiling := followIdle now oldG.idleRpm newG.idleRpm
       (followGovMax oldG.govMax newG.govMax (anyActive new conds) p.ceiling) },
    c0.2 ++ c1.2 ++ c2.2 ++ c3.2 ++ c4.2)

/-- The protection monitor at entry to WATCH (R119). -/
def protectionToWatch (p : Protection) : Protection :=
  { p with qualification := none, next := none, ceiling := { p.ceiling with steps := none } }

end Sys2Proof.Machine
end

