-- ==== Sys2Proof/Machine/Scanner.lean ====
section
/-! DEFINITION. The input scanner (01_input_channels.md): what one sample, one interval, one hold expiry and one change
of settings do to one channel, and the park brake agreement monitor. -/

namespace Sys2Proof.Machine

/-! ### Analog channels -/

/-- The sample period of an analog channel in ms (R5). -/
def analogPeriod (ch : Fin 10) : Nat := if ch.val ≤ 2 then 10 else if ch.val ≤ 6 then 50 else 100

/-- The engineering value of a raw value (R7). -/
def engineering (c : AnalogSettings) (raw : Nat) : Int :=
  limit16 (c.engLo + halfAway (((raw : Int) - (c.rawLo : Int)) * (c.engHi - c.engLo)) (c.rawHi - c.rawLo))

/-- One step of the filter (R12). -/
def filterStep (k : Nat) (output sample : Int) : Int := output + halfAway (sample - output) (2 ^ k)

/-- The window check, then the rate check against the last good value, which is skipped for a rate limit of 0, under
accept_jumps and for the first sample of a recovery run (R8): the cause of the rejection, or none. -/
def rejection (c : AnalogSettings) (reference : Int) (firstOfRun : Bool) (raw : Nat) : Option ChannelCause :=
  if raw < c.windowLo then some .belowWindow
  else if c.windowHi < raw then some .aboveWindow
  else if c.rateLimit = 0 ∨ c.acceptJumps = true ∨ firstOfRun = true then none
  else if c.rateLimit < (engineering c raw - reference).natAbs then some .rateJump
  else none

/-- A count one higher, saturating at 65535 (R4). -/
def saturate16 (n : Nat) : Nat := min 65535 (n + 1)

/-- An accepted sample of a VALID or HELD channel: the filter takes it (R9). -/
def acceptInUse (c : AnalogSettings) (raw good : Nat) (a : AnalogChan) : AnalogChan :=
  let out := filterStep c.k a.lastGood (engineering c raw)
  { a with state := .valid, eng := some out, lastGood := out, good := good, hold := none }

/-- An accepted sample of a recovery run (R11): the first seeds the filter, later ones pass through it; at
recover_count the channel goes to VALID, and a channel that came from FAULT posts CHANNEL_RECOVERED. -/
def acceptInRun (c : AnalogSettings) (ch : Fin 10) (raw : Nat) (a : AnalogChan) : AnalogChan × List Notice :=
  let out := if a.good = 0 then engineering c raw else filterStep c.k a.lastGood (engineering c raw)
  let n := saturate16 a.good
  if c.recoverCount ≤ n then
    ({ a with state := .valid, eng := some out, lastGood := out, good := n, cause := none },
      if a.state = .fault then [noticeChannelRecovered ch.val out] else [])
  else ({ a with lastGood := out, good := n }, [])

/-- A rejected sample of a recovery run: the count returns to 0, and in FAULT the cause is replaced (R10, R11). What the
last good value then reads R11 does not say: it keeps the run's last filter output. Log entry 52 (DESIGN CHOICE). -/
def rejectInRun (cause : ChannelCause) (a : AnalogChan) : AnalogChan :=
  { a with good := 0, lastReject := some cause, cause := if a.state = .fault then some cause else a.cause }

/-- One sample of an analog channel, by the channel's state (R5, R8 to R12). -/
def sampleAnalog (c : AnalogSettings) (now : Uptime) (ch : Fin 10) (raw : Nat) (a : AnalogChan) :
    AnalogChan × List Notice :=
  let b := { a with raw := raw }
  match a.state with
  | .disabled => (a, [])
  | .valid =>
    match rejection c a.lastGood false raw with
    | none => (acceptInUse c raw (saturate16 a.good) b, [])
    | some r => ({ b with state := .held, good := 0, lastReject := some r, hold := startTimer now c.holdLimit }, [])
  | .held =>
    match rejection c a.lastGood false raw with
    | none => (acceptInUse c raw 1 b, [])
    | some r => ({ b with lastReject := some r }, [])
  | .warming | .fault =>
    match rejection c a.lastGood (decide (a.good = 0)) raw with
    | none => acceptInRun c ch raw b
    | some r => (rejectInRun r b, [])

/-- The expiry of the hold timer of a HELD channel (R10). -/
def expireHold (ch : Fin 10) (a : AnalogChan) : AnalogChan × List Notice :=
  match a.state with
  | .held =>
    ({ a with state := .fault, cause := a.lastReject, hold := none },
      match a.lastReject with
      | none => []
      | some c => [noticeChannelFault ch.val c a.raw])
  | _ => ({ a with hold := none }, [])

/-- Whether two settings of a channel differ in a way that restarts it (R13). -/
def scalingChanged (old new : AnalogSettings) : Bool :=
  decide (old.rawLo ≠ new.rawLo) || decide (old.rawHi ≠ new.rawHi) || decide (old.engLo ≠ new.engLo) ||
  decide (old.engHi ≠ new.engHi) || decide (old.windowLo ≠ new.windowLo) || decide (old.windowHi ≠ new.windowHi)

/-- An analog channel put in WARMING (R13, R22): the raw and last good values stay. -/
def rewarm (a : AnalogChan) : AnalogChan :=
  { a with state := .warming, hold := none, cause := none, eng := none, good := 0 }

/-- What a change of settings does to an analog channel (R13). One that is and stays DISABLED keeps that state, a case
R13 does not name: log entry 53 (DESIGN CHOICE). -/
def retuneAnalog (old new : AnalogSettings) (a : AnalogChan) : AnalogChan :=
  if new.enabled = false then (if old.enabled then analogStart false else a)
  else if old.enabled = false then analogStart true
  else if scalingChanged old new then rewarm a
  else a

/-! ### Pulse channels -/

/-- The most pulses one interval holds (R15). -/
def pulseLimit : Nat := 400

/-- The pulses per revolution or per litre of a pulse channel (R16). -/
def pulsesPer (c : Settings) (ch : Fin 3) : Nat :=
  if ch.val = 0 then c.pprMain else if ch.val = 1 then c.pprAux else c.ppl

/-- The engineering value of a rolling count (R16), rounded down and limited to 32767. -/
def pulseValue (per count : Nat) : Nat := min 32767 (count * 300 / per)

/-- The closing of a pulse channel's interval (R15, R16). -/
def closeInterval (per pulses : Nat) (p : PulseChan) : PulseChan :=
  let subs := p.subCounts.drop 1 ++ [min pulseLimit pulses]
  { p with subCounts := subs, raw := sumNat subs, eng := (pulseValue per (sumNat subs) : Nat) }

/-! ### Discrete channels -/

/-- The logical level of an electrical level (R17). -/
def logicalLevel (p : Polarity) (electrical : Bool) : Bool :=
  match p with
  | .activeHigh => electrical
  | .activeLow => !electrical

/-- What one sample of a discrete comes to. -/
inductive SampleOutcome
  | nothing | first | accepted
  deriving DecidableEq, Repr

/-- One sample of a discrete (R17, R21): the first after a starting point sets the debounced level without an accepted
change; later a change is accepted at the fourth consecutive differing sample. -/
def sampleDiscrete (p : Polarity) (electrical : Bool) (d : DiscreteChan) : DiscreteChan × SampleOutcome :=
  let l := logicalLevel p electrical
  if d.awaitFirst then ({ d with raw := electrical, level := l, count := 0, awaitFirst := false }, .first)
  else if l = d.level then ({ d with raw := electrical, count := 0 }, .nothing)
  else if 3 ≤ d.count then ({ d with raw := electrical, level := l, count := 0 }, .accepted)
  else ({ d with raw := electrical, count := d.count + 1 }, .nothing)

/-- What a change of polarity does to a discrete: the debounced level is inverted (R19). -/
def invertDiscrete (d : DiscreteChan) : DiscreteChan := { d with level := !d.level, count := 0 }

/-! ### Park brake agreement -/

/-- The agreement time (R20). -/
def agreementMs : Nat := 1000

/-- One evaluation of the park brake agreement monitor (R20) on the usable value of PARK_BRAKE and D0's level. -/
def evaluateBrake (now : Uptime) (q3 : Option Int) (d0 : Bool) (b : BrakeMonitor) : BrakeMonitor :=
  match q3 with
  | none => { state := .notChecked, timer := none }
  | some v =>
    if decide (v ≠ 0) = d0 then { state := .agree, timer := none }
    else match b.state with
      | .notChecked | .agree => { state := .disagreeTiming, timer := startTimer now agreementMs }
      | .disagreeTiming | .disagree => b

/-- The expiry of the agreement timer (R20): the monitor evaluates again, and a disagreement that has lasted becomes
DISAGREE. R20 says both that it evaluates again then and that the state becomes DISAGREE: where it finds no disagreement,
as after a first sample of D0, the evaluation decides, to AGREE or NOT_CHECKED. Log entry 78 (DESIGN CHOICE). -/
def expireAgreement (now : Uptime) (q3 : Option Int) (d0 : Bool) (b : BrakeMonitor) : BrakeMonitor :=
  match b.state with
  | .disagreeTiming =>
    let e := evaluateBrake now q3 d0 b
    if e.state = .disagreeTiming then { state := .disagree, timer := none } else e
  | _ => { b with timer := none }

/-- The monitor's reaction to an event: it evaluates when PARK_BRAKE's value or usability has changed, or D0's
debounced level has by an accepted change (R20). -/
def brakeReact (before s : State) : BrakeMonitor :=
  let q := s.quantity 3
  if decide (before.quantity 3 ≠ q) || acceptedChange before s 0 then
    evaluateBrake s.time.uptime q (s.level 0) s.inputs.brake
  else s.inputs.brake

/-! ### WATCH and the leak watch's bursts -/

/-- An analog channel at entry to WATCH: its hold timer cancelled and its sampling stopped (R22). -/
def analogToWatch (a : AnalogChan) : AnalogChan := { a with hold := none, next := none }

/-- The channel table at entry to WATCH (R22): D8 alone goes on being sampled. -/
def inputsToWatch (i : Inputs) : Inputs :=
  { i with
    analog := i.analog.map analogToWatch
    pulse := i.pulse.map (fun p => { p with next := none })
    discrete := i.discrete.mapFinIdx (fun k d _ => if k = 8 then d else { d with next := none })
    brake := { i.brake with timer := none } }

/-- The start of a burst: each of A3 and A4 that is enabled is put in WARMING (R22). -/
def burstWarm (c : Settings) (i : Inputs) : Inputs :=
  let warm (ch : Fin 10) (a : AnalogChan) : AnalogChan :=
    if (c.analog[ch]).enabled then { rewarm a with next := none } else a
  { i with analog := (i.analog.set 3 (warm 3 (i.analog[3]))).set 4 (warm 4 (i.analog[4])) }

/-- The end of a burst: sampling of A3 and A4 stops and a running hold timer is cancelled (R22). -/
def burstRest (i : Inputs) : Inputs :=
  { i with analog := (i.analog.set 3 (analogToWatch (i.analog[3]))).set 4 (analogToWatch (i.analog[4])) }

end Sys2Proof.Machine
end

