-- ==== Sys2Proof/Machine/TankGauging.lean ====
section
/-! DEFINITION. The tank gauge (07_tank_gauge.md): centre levels, volumes, the window, consumption, the stages of a
gauge event, fills, the leak watch, and what changes of settings do to the tanks. -/

namespace Sys2Proof.Machine

/-! ### Levels (R125 to R127) -/

/-- What a transducer gives a gauge event (R125). -/
inductive LevelSource
  | usable (v : Int) | notYetKnown | lost
  deriving DecidableEq, Repr

/-- A transducer as R125 classifies it. -/
def levelSource (a : AnalogChan) : LevelSource :=
  match a.state with
  | .valid | .held => .usable (a.eng.getD 0)
  | .warming => .notYetKnown
  | .fault | .disabled => .lost

/-- What a tank's transducers give a gauge event (R125): a centre level with its partial flag, or none. -/
inductive LevelResult
  | notYetKnown | lost
  | level (h : Nat) (partialFlag : Bool)
  deriving DecidableEq, Repr

/-- The reading of a water transducer that reads above the floor (R126). A lost one counts as at or below it. -/
def wetReading (floor : Nat) : LevelSource → Option Int
  | .usable v => if (floor : Int) < v then some v else none
  | _ => none

/-- The four cases of R126 on the front and rear readings above the floor: the centre level before its limit at 0, D,
and the partial flag. -/
def waterCases (c : GaugeSettings) (tilt : Int) : Option Int → Option Int → Int × Int × Bool
  | some f, some b => (b + halfAway ((f - b) * c.gauging) c.spacing, f - b, false)
  | none, some b => (b + halfAway (tilt * c.gauging) c.spacing, tilt, true)
  | some f, none => (f - halfAway (tilt * ((c.spacing : Int) - c.gauging)) c.spacing, tilt, true)
  | none, none => (0, tilt, true)

/-- The centre level of WATER (R125, R126), with D. -/
def waterLevel (c : GaugeSettings) (tilt : Int) (front rear : LevelSource) : LevelResult × Int :=
  if front = .notYetKnown ∨ rear = .notYetKnown then (.notYetKnown, tilt)
  else if front = .lost ∧ rear = .lost then (.lost, tilt)
  else
    let r := waterCases c tilt (wetReading c.floor front) (wetReading c.floor rear)
    (.level r.1.toNat r.2.2, r.2.1)

/-- The centre level of a foam tank (R125, R127). -/
def foamLevel : LevelSource → LevelResult
  | .notYetKnown => .notYetKnown
  | .lost => .lost
  | .usable v => .level v.toNat false

/-! ### Volumes (R122, R128) -/

/-- The volume of a level through a strapping table (R128). -/
def volumeOf : List (Nat × Nat) → Nat → Nat
  | [], _ => 0
  | [(_, v)], _ => v
  | (h0, v0) :: (h1, v1) :: rest, h =>
    if h ≤ h0 then v0
    else if h < h1 then v0 + halfUp ((h - h0) * (v1 - v0)) (h1 - h0)
    else volumeOf ((h1, v1) :: rest) h

/-- The capacity of a tank: the volume of its last point (R122). -/
def capacityOf (strap : List (Nat × Nat)) : Nat := (strap.getLast?.map (·.2)).getD 0

/-- The last level of a strapping table (R139). -/
def topLevel (strap : List (Nat × Nat)) : Option Nat := strap.getLast?.map (·.1)

/-! ### The window (R129) -/

/-- The most levels a window holds. -/
def windowCapacity : Nat := 16

/-- A level appended to the window, the oldest dropped beyond its capacity (R129). -/
def pushLevel (w : List Nat) (h : Nat) : List Nat := newest windowCapacity (w ++ [h])

/-- The largest level of a window. -/
def largest (w : List Nat) : Nat := w.foldr max 0

/-- The smallest level of a window. -/
def smallest : List Nat → Nat
  | [] => 0
  | h :: t => t.foldr min h

/-- The spread of a window (R129). That of an empty window, which R129 does not state, reads 0: log entry 58 (DESIGN
CHOICE). -/
def spread (w : List Nat) : Nat := largest w - smallest w

/-- The mean of a full window (R129). -/
def windowMean (w : List Nat) : Nat := halfUp (sumNat w) windowCapacity

/-- Whether a window is full. -/
def windowFull (w : List Nat) : Bool := decide (w.length = windowCapacity)

/-- The mean of the newest four levels, or of those there are; none for an empty window (R138). -/
def fourMean (w : List Nat) : Option Nat :=
  match newest 4 w with
  | [] => none
  | xs => some (halfUp (sumNat xs) xs.length)

/-! ### Consumption (R132, R134) -/

/-- The top of the consumption remainder's range (R120). -/
def remainderTop : Nat := 4294967295

/-- Consumption accrued in one gauge event: `amount` joins the remainder, whose quotient by `unit` is carried unless
consumed is already at its top (R132, R134). -/
def accrue (amount unit : Nat) (t : Tank) : Tank :=
  let r := min remainderTop (t.remainder + amount)
  if t.consumed < 65535 then { t with consumed := min 65535 (t.consumed + r / unit), remainder := r % unit }
  else { t with remainder := r }

/-- The flow Q at P2 (R132). -/
def State.flow (s : State) : Nat := (s.inputs.pulse[(2 : Fin 3)]).eng.toNat

/-! ### The state of a tank (R130, R131) -/

/-- The estimate: the last stable volume less what has been consumed, not below 0; absent without one (R130). -/
def estimateOf (t : Tank) : Option Nat := t.lastStable.map (fun v => v - t.consumed)

/-- A STABLE result (R130). -/
def stableResult (strap : List (Nat × Nat)) (t : Tank) : Tank :=
  let mean := windowMean t.window
  let v := volumeOf strap mean
  { t with state := .stable, stable := some mean, reported := some v, lastStable := some v, consumed := 0,
           remainder := 0 }

/-- The reconciliation of a tank that moves to STABLE (R131): from SLOSHING or FAULT, with an estimate. -/
def reconcile (id : TankId) (c : TankSettings) (old new : Tank) : Tank × List Notice :=
  if old.state = .sloshing ∨ old.state = .fault then
    match estimateOf old, new.reported with
    | some e, some v =>
      let d := (v : Int) - (e : Int)
      ({ new with reconciliation := some d },
        if c.reconcileLimit < d.natAbs then [noticeTankReconcile id e v d] else [])
    | _, _ => (new, [])
  else (new, [])

/-- A tank in FAULT (R130). Its window is emptied at the entry alone (R129). -/
def tankFault (t : Tank) : Tank :=
  { t with state := .fault, window := if t.state = .fault then t.window else [], reported := estimateOf t }

/-- A tank in SLOSHING (R130). -/
def tankSloshing (t : Tank) : Tank := { t with state := .sloshing, reported := estimateOf t }

/-- A tank in UNKNOWN (R130). -/
def tankUnknown (t : Tank) : Tank := { t with state := .unknown, reported := none }

/-- The state of a tank, not FILLING, after its window took a level (R130). A STABLE tank whose window is not full
arises in no run and is treated as SLOSHING: log entry 46. -/
def judgeWindow (id : TankId) (c : TankSettings) (t : Tank) : Tank × List Notice :=
  if windowFull t.window then
    if spread t.window ≤ c.settleBand then reconcile id c t (stableResult c.strap t)
    else if t.lastStable.isSome then (tankSloshing t, []) else (tankUnknown t, [])
  else match t.state with
    | .unknown => (tankUnknown t, [])
    | .fault => ({ t with reported := estimateOf t }, [])
    | _ => (tankSloshing t, [])

/-- A tank, not FILLING, whose transducers are not yet known (R125): a STABLE one enters SLOSHING. -/
def awaitLevel (t : Tank) : Tank :=
  match t.state with
  | .stable | .sloshing => tankSloshing t
  | .fault => { t with reported := estimateOf t }
  | _ => tankUnknown t

/-- Stages 2 to 4 of a tank that is not FILLING (R124 to R131). -/
def stagesAtRest (id : TankId) (c : TankSettings) (r : LevelResult) (t : Tank) : Tank × List Notice :=
  match r with
  | .notYetKnown => (awaitLevel t, [])
  | .lost => (tankFault t, [])
  | .level h p => judgeWindow id c { t with centre := some h, partialFlag := p, window := pushLevel t.window h }

/-- Stages 2 to 4 of WATER in FILLING (R138). -/
def stagesFilling (strap : List (Nat × Nat)) (r : LevelResult) (t : Tank) : Tank :=
  let t := match r with
    | .level h p => { t with centre := some h, partialFlag := p, window := pushLevel t.window h }
    | _ => t
  { t with reported := (fourMean t.window).map (volumeOf strap) }

/-! ### Time remaining, LOW and EMPTY (R135, R136) -/

/-- The time remaining of WATER (R135). -/
def waterRemaining (drawing : Bool) (q : Nat) (t : Tank) : Option Nat :=
  if drawing ∧ 0 < q then t.reported.map (fun v => min 5999 (v * 60 / q)) else none

/-- The time remaining of a foam tank (R135). -/
def foamRemaining (selected : Bool) (q r : Nat) (t : Tank) : Option Nat :=
  if selected ∧ 0 < q then t.reported.map (fun v => min 5999 (v * 60000 / (q * r))) else none

/-- A percentage of a capacity (R136). -/
def percentOf (capacity percent : Nat) : Nat := (halfAway ((capacity * percent : Nat) : Int) 100).toNat

/-- A flag by its two thresholds (R136). -/
def flagBy (setAt clearAbove v : Nat) (old : Bool) : Bool :=
  if v ≤ setAt then true else if clearAbove < v then false else old

/-- The thresholds of the EMPTY flag (R136): `reserve` is the protection monitor's empty reserve. -/
def emptyThresholds (id : TankId) (reserve capacity : Nat) : Nat × Nat :=
  match id with
  | .water => (reserve, reserve + 100)
  | _ => (percentOf capacity 5, percentOf capacity 7)

/-- The notice of one changed flag, if it changed. -/
def flagNotice (id : TankId) (isEmpty old new : Bool) (reported : Option Nat) : List Notice :=
  if old = new then [] else [noticeTankLevel id isEmpty new reported]

/-- Stage 6: the LOW and EMPTY flags (R136). -/
def judgeFlags (id : TankId) (c : TankSettings) (reserve : Nat) (t : Tank) : Tank × List Notice :=
  match t.reported with
  | none => (t, [])
  | some v =>
    let cap := capacityOf c.strap
    let e := emptyThresholds id reserve cap
    let low := flagBy (percentOf cap c.lowPercent) (percentOf cap (c.lowPercent + 2)) v t.low
    let empty := flagBy e.1 e.2 v t.empty
    ({ t with low := low, empty := empty },
      flagNotice id false t.low low t.reported ++ flagNotice id true t.empty empty t.reported)

/-! ### Fills (R137 to R140) -/

/-- WATER as it leaves FILLING (R140). With reason SENSOR and no final volume it is in FAULT without a last stable
volume: log entry 36. The stable level is the four-level mean of the window as it stands, also before the first gauge event
of the fill, when no such mean gave the final volume: log entry 68 (DESIGN CHOICE). -/
def waterAfterFill (r : FillReason) (t : Tank) : Tank :=
  let base := { t with lastStable := t.reported, stable := if t.reported.isSome then fourMean t.window else none,
                       consumed := 0, remainder := 0 }
  if r = .sensor then { base with state := .fault, window := [] }
  else if t.reported.isSome then { base with state := .sloshing }
  else { base with state := .unknown, remaining := none }

/-- The whole seconds from a start to now (R139), rounded half away from zero since R139 names no rounding (R2). -/
def secondsSince (now start : Uptime) : Nat := (halfAway ((now - start).toNat : Int) 1000).toNat

/-- The end of an active fill (R139, R140). Without one it has no effect. -/
def endFill (now : Uptime) (r : FillReason) (g : TankGauge) : TankGauge × List Notice :=
  if g.fill.active then
    let final := g.water.reported
    ({ g with
       fill := { g.fill with active := false, target := none, timer := none, endReason := some r,
                             finalVolume := final }
       water := waterAfterFill r g.water },
      [noticeFillDone r final (secondsSince now g.fill.start)])
  else (g, [])

/-- The reason for which a gauge event ends an active fill (R139): TARGET goes before FULL. -/
def fillReached (strap : List (Nat × Nat)) (g : TankGauge) : Option FillReason :=
  let atTarget := match g.water.reported, g.fill.target with
    | some v, some t => decide (t ≤ v)
    | _, _ => false
  let atTop := match g.water.window.getLast?, topLevel strap with
    | some h, some l => decide (l ≤ h)
    | _, _ => false
  if atTarget then some .target else if atTop then some .full else none

/-- A fill that has become active (R137). -/
def openFill (now : Uptime) (c : GaugeSettings) (target : Nat) (g : TankGauge) : TankGauge :=
  { g with
    fill := { g.fill with active := true, target := some target, start := now,
                          timer := startTimer now (c.fillMaxTime * 1000) }
    water := { g.water with state := .filling } }

/-- FILL START with a target already clamped (R137): a target already reached ends the fill at once. -/
def startFill (now : Uptime) (c : GaugeSettings) (target : Nat) (g : TankGauge) : TankGauge × List Notice :=
  match g.water.reported with
  | some v =>
    if target ≤ v then
      ({ g with fill := { g.fill with endReason := some .target, finalVolume := some v } },
        [noticeFillDone .target (some v) 0])
    else (openFill now c target g, [])
  | none => (openFill now c target g, [])

/-- Whether FILL START is taken (R137). -/
def fillAllowed (s : State) : Bool :=
  decide (s.gauge.water.state ≠ .absent) && decide (s.gauge.water.state ≠ .fault) && s.stationary &&
  decide (s.power.state = .awake) && !s.gauge.fill.active

/-- Whether both water transducers are lost (R125). -/
def bothWaterLost (i : Inputs) : Bool :=
  analogLost (i.analog[(3 : Fin 10)]) && analogLost (i.analog[(4 : Fin 10)])

/-- The fill's reaction to an event (R139): SENSOR at the change at which both water transducers are lost, MOVED when
the vehicle is not stationary. SENSOR is taken before MOVED, and a restart of WATER (STOPPED) before both, where one event
meets several: an order that no rule gives, log entry 74 (DESIGN CHOICE). -/
def fillReact (before s : State) : TankGauge × List Notice :=
  if bothWaterLost s.inputs && !bothWaterLost before.inputs then endFill s.time.uptime .sensor s.gauge
  else if !s.stationary then endFill s.time.uptime .moved s.gauge
  else (s.gauge, [])

/-! ### The gauge event (R124) -/

/-- WATER's stages 1 to 6 (R124), with D. -/
def waterStages (s : State) : Tank × Int × List Notice :=
  let c := s.settings.gauge
  let t := s.gauge.water
  if t.state = .absent then (t, s.gauge.tilt, [])
  else
    let q := s.flow
    let t := if 0 < q then accrue (q * 50) 60000 t else t
    let l := waterLevel c s.gauge.tilt (levelSource (s.inputs.analog[(3 : Fin 10)]))
      (levelSource (s.inputs.analog[(4 : Fin 10)]))
    let a := if t.state = .filling then (stagesFilling c.water.strap l.1 t, []) else stagesAtRest .water c.water l.1 t
    let t := { a.1 with remaining := waterRemaining (s.level 5) q a.1 }
    let f := judgeFlags .water c.water s.settings.prot.emptyReserve t
    (f.1, l.2, a.2 ++ f.2)

/-- Whether a tank is the one FOAM has selected (R133). -/
def foamSelected (sel : FoamSel) : TankId → Bool
  | .water => false
  | .foamA => decide (sel = .foamA)
  | .foamB => decide (sel = .foamB)

/-- A foam tank's stages 1 to 6 (R124). -/
def foamStages (s : State) (id : TankId) (ch : Fin 10) : Tank × List Notice :=
  let c := tankSettings s.settings.gauge id
  let t := s.gauge.tank id
  if t.state = .absent then (t, [])
  else
    let q := s.flow
    let sel := foamSelected s.gauge.foam id
    let t := if sel ∧ 0 < q then accrue (q * s.gauge.ratio * 50) 60000000 t else t
    let a := stagesAtRest id c (foamLevel (levelSource (s.inputs.analog[ch]))) t
    let t := { a.1 with remaining := foamRemaining sel q s.gauge.ratio a.1 }
    let f := judgeFlags id c s.settings.prot.emptyReserve t
    (f.1, a.2 ++ f.2)

/-- The gauge event (R124): WATER, FOAM_A, FOAM_B, then the end of a fill that has reached its target or the top. -/
def gaugeEvent (s : State) : TankGauge × List Notice :=
  let w := waterStages s
  let a := foamStages s .foamA 5
  let b := foamStages s .foamB 6
  let g := { s.gauge with water := w.1, foamA := a.1, foamB := b.1, tilt := w.2.1,
                          next := nextPeriod s.time.uptime 50 s.gauge.next }
  let done := match fillReached s.settings.gauge.water.strap g with
    | some r => endFill s.time.uptime r g
    | none => (g, [])
  (done.1, w.2.2 ++ a.2 ++ b.2 ++ done.2)

/-! ### Leak watch (R141 to R143) -/

/-- The burst period of the leak watch. -/
def burstPeriodMs : Nat := 60000

/-- The leak-watch record at entry to WATCH (R141). -/
def armLeakWatch (now : Uptime) (g : TankGauge) : LeakWatch :=
  if g.water.state = .absent then leakStart
  else { leakStart with armed := true, reference := g.water.lastStable, timer := startTimer now burstPeriodMs }

/-- The tank gauge at entry to WATCH (R145). A fill still active has been ended before. -/
def gaugeToWatch (now : Uptime) (g : TankGauge) : TankGauge :=
  { g with foam := .off, leak := armLeakWatch now g, next := none }

/-- The start of a burst (R142). -/
def beginBurst (now : Uptime) (g : TankGauge) : TankGauge :=
  { g with
    water := { g.water with window := [] }
    leak := { g.leak with timer := startTimer now burstPeriodMs, burst := some 0, burstNext := startTimer now 50 } }

/-- The leak-watch record after a burst (R142). -/
def burstDone (r : BurstResult) (v : Option Nat) (l : LeakWatch) : LeakWatch :=
  { l with bursts := min 65535 (l.bursts + 1), result := r, resultVolume := v, burst := none, burstNext := none }

/-- A burst that ends with NO_READING (R142). -/
def burstNoReading (g : TankGauge) : TankGauge := { g with leak := burstDone .noReading none g.leak }

/-- The comparison of a STABLE burst's volume with the reference (R143). -/
def compareLeak (limit v : Nat) (l : LeakWatch) : LeakWatch × List Notice :=
  match l.reference with
  | none => ({ l with reference := some v }, [])
  | some v0 =>
    if limit < v0 - v then ({ l with leak := true, armed := false, timer := none }, [noticeTankLeak v0 v]) else (l, [])

/-- The judging of a burst whose window is full (R143). -/
def judgeBurst (c : GaugeSettings) (reserve : Nat) (g : TankGauge) : TankGauge × List Notice :=
  if c.water.settleBand < spread g.water.window then ({ g with leak := burstDone .sloshing none g.leak }, [])
  else
    let r := reconcile .water c.water g.water (stableResult c.water.strap g.water)
    let f := judgeFlags .water c.water reserve r.1
    let v := volumeOf c.water.strap (windowMean g.water.window)
    let l := compareLeak c.leakLimit v (burstDone .stable (some v) g.leak)
    ({ g with water := f.1, leak := l.1 }, r.2 ++ f.2 ++ l.2)

/-- The most burst events of a burst (R142). -/
def burstLimit : Nat := 40

/-- A burst event that has not ended the burst: counted, and ended with NO_READING at the limit (R142). -/
def countBurst (now : Uptime) (n : Nat) (g : TankGauge) : TankGauge :=
  if burstLimit ≤ n then burstNoReading g
  else { g with leak := { g.leak with burst := some n, burstNext := nextPeriod now 50 g.leak.burstNext } }

/-- A burst event (R142, R143). A burst's levels leave the centre level and the partial flag, which are those of the
latest gauge event: log entry 48. -/
def burstEvent (s : State) : TankGauge × List Notice :=
  let c := s.settings.gauge
  let g := s.gauge
  let n := (g.leak.burst.getD 0) + 1
  let a3 := s.inputs.analog[(3 : Fin 10)]
  let a4 := s.inputs.analog[(4 : Fin 10)]
  if analogLost a3 || analogLost a4 then (burstNoReading g, [])
  else match waterLevel c g.tilt (levelSource a3) (levelSource a4) with
    | (.level h _, tilt) =>
      let g := { g with tilt := tilt, water := { g.water with window := pushLevel g.water.window h } }
      if windowFull g.water.window then judgeBurst c s.settings.prot.emptyReserve g
      else (countBurst s.time.uptime n g, [])
    | _ => (countBurst s.time.uptime n g, [])

/-- A tank at the end of WAKING (R146). -/
def tankWake (t : Tank) : Tank :=
  if t.state = .absent then t
  else { t with state := .unknown, window := [], centre := none, reported := none, remaining := none,
                partialFlag := false }

/-- The tank gauge at the end of WAKING (R146): a burst in progress ends, the watch is disarmed, the fill record stays
inactive. -/
def gaugeWake (now : Uptime) (g : TankGauge) : TankGauge :=
  let g := if g.leak.burst.isSome then burstNoReading g else g
  { g with water := tankWake g.water, foamA := tankWake g.foamA, foamB := tankWake g.foamB
           fill := { g.fill with active := false }, leak := { g.leak with armed := false, timer := none }
           next := startTimer now 50 }

/-! ### Settings (R123) -/

/-- Whether the geometry of WATER differs (R123). -/
def waterGeometryChanged (old new : GaugeSettings) : Bool :=
  decide (old.water.strap ≠ new.water.strap) || decide (old.spacing ≠ new.spacing) ||
  decide (old.gauging ≠ new.gauging) || decide (old.floor ≠ new.floor)

/-- The foam selection after a restart that may have made its tank ABSENT (R123). -/
def keepSelection (new : GaugeSettings) : FoamSel → FoamSel
  | .off => .off
  | .foamA => if 2 ≤ new.foamA.strap.length then .foamA else .off
  | .foamB => if 2 ≤ new.foamB.strap.length then .foamB else .off

/-- What a change of settings does to the tanks (R123): a restart of WATER first ends an active fill. -/
def retuneTanks (now : Uptime) (old new : GaugeSettings) (g : TankGauge) : TankGauge × List Notice :=
  let w := waterGeometryChanged old new
  let e := if w then endFill now .stopped g else (g, [])
  ({ e.1 with
     water := if w then tankStart new.water.strap else e.1.water
     foamA := if old.foamA.strap ≠ new.foamA.strap then tankStart new.foamA.strap else e.1.foamA
     foamB := if old.foamB.strap ≠ new.foamB.strap then tankStart new.foamB.strap else e.1.foamB
     foam := keepSelection new e.1.foam }, e.2)

end Sys2Proof.Machine
end

