-- ==== Sys2Proof/Machine/Objects.lean ====
section
/-! DEFINITION. The objects of R172: their codes and indices, and every record as the list of its field values in the
order in which the owning chapter lists them, the settings after them. Field numbers count from 1. An absent or 'none'
value has length 0. Log entries 15 and 16. -/

namespace Sys2Proof.Machine

/-- The objects by code and index (R172), or none outside the table. -/
def objectOf (code index : Nat) : Option Obj :=
  match code with
  | 1 => if h : index < 23 then some (.channel ⟨index, h⟩) else none
  | 2 => if h : index < 16 then some (.rxSlot ⟨index, h⟩) else none
  | 3 => if h : index < 4 then some (.txSlot ⟨index, h⟩) else none
  | 4 => if h : index < 6 then some (.quantity ⟨index, h⟩) else none
  | 5 => match index with | 0 => some (.drive .main) | 1 => some (.drive .aux) | _ => none
  | 6 => if index = 0 then some .governor else none
  | 7 => if index = 0 then some .protection else none
  | 8 => match index with
    | 0 => some (.tank .water) | 1 => some (.tank .foamA) | 2 => some (.tank .foamB) | _ => none
  | 9 => match index with
    | 0 => some (.strap .water) | 1 => some (.strap .foamA) | 2 => some (.strap .foamB) | _ => none
  | 10 => if h : index < 11 then some (.condition ⟨index, h⟩) else none
  | 11 => match index with
    | 0 => some (.action .inhibit) | 1 => some (.action .rollLimit) | 2 => some (.action .idleCap) | _ => none
  | 12 => if index = 0 then some .timebase else none
  | 13 => if index = 0 then some .meters else none
  | 14 => if index = 0 then some .link else none
  | 15 => if index = 0 then some .chassis else none
  | 16 => if index = 0 then some .power else none
  | 17 => if index = 0 then some .identity else none
  | _ => none

/-- An object's code (R172). -/
def objectCode : Obj → Nat
  | .channel _ => 1 | .rxSlot _ => 2 | .txSlot _ => 3 | .quantity _ => 4 | .drive _ => 5 | .governor => 6
  | .protection => 7 | .tank _ => 8 | .strap _ => 9 | .condition _ => 10 | .action _ => 11 | .timebase => 12
  | .meters => 13 | .link => 14 | .chassis => 15 | .power => 16 | .identity => 17

/-- An object's index (R172). -/
def objectIndex : Obj → Nat
  | .channel i => i.val | .rxSlot i => i.val | .txSlot i => i.val | .quantity i => i.val
  | .drive d => driveIndex d | .tank t => tankIndex t | .strap t => tankIndex t | .condition i => i.val
  | .action a => actionIndex a | _ => 0

/-- A timer field: its expiry, absent when stopped. -/
def timerField (t : Timer) : List Byte := optField up32 t

/-- An optional named value: absent when none. -/
def nameField {α : Type} (code : α → Nat) (v : Option α) : List Byte := optField (fun a => u8 (code a)) v

/-! ### Channels (R4) -/

/-- What a CHANNEL object addresses. -/
inductive ChannelRef
  | analog (i : Fin 10) | pulse (i : Fin 3) | discrete (i : Fin 10)
  deriving DecidableEq, Repr

/-- A channel by its index (R4): 0 to 9 A0 to A9, 10 to 12 P0 to P2, 13 to 22 D0 to D9. -/
def channelRef (i : Fin 23) : ChannelRef :=
  if h : i.val < 10 then .analog ⟨i.val, h⟩
  else if h' : i.val < 13 then .pulse ⟨i.val - 10, by omega⟩
  else .discrete ⟨i.val - 13, by omega⟩

/-- The record fields of an analog channel (R4). -/
def analogFields (i : Fin 10) (a : AnalogChan) : List (List Byte) :=
  [u8 i.val, u8 (channelKindCode .analog), u8 (channelStateCode a.state), u16 a.raw, optField s16 a.eng,
   s16 a.lastGood, nameField channelCauseCode a.cause, u16 a.good]

/-- The record fields of a pulse channel (R4): always VALID, its last good value the engineering value. The count has 2
bytes as in every CHANNEL object: log entry 65 (DESIGN CHOICE). -/
def pulseFields (i : Fin 3) (p : PulseChan) : List (List Byte) :=
  [u8 (i.val + 10), u8 (channelKindCode .pulse), u8 (channelStateCode .valid), u16 p.raw, s16 p.eng, s16 p.eng, [],
   u16 0]

/-- A level as an engineering value. -/
def levelValue (b : Bool) : Int := if b then 1 else 0

/-- The record fields of a discrete channel (R4, R17): always VALID, its engineering value the debounced level. D0's
record carries the brake agreement state as well. The raw value and the count have 2 bytes as in every CHANNEL object: log
entry 65 (DESIGN CHOICE). -/
def discreteFields (i : Fin 10) (d : DiscreteChan) (b : BrakeMonitor) : List (List Byte) :=
  [u8 (i.val + 13), u8 (channelKindCode .discrete), u8 (channelStateCode .valid), u16 (if d.raw then 1 else 0),
   s16 (levelValue d.level), s16 (levelValue d.level), [], u16 d.count] ++
  (if i = 0 then [u8 (brakeAgreementCode b.state)] else [])

/-- The settings of an analog channel, in the order of R5. -/
def analogSettingFields (c : AnalogSettings) : List (List Byte) :=
  [bool8 c.enabled, u16 c.rawLo, u16 c.rawHi, s16 c.engLo, s16 c.engHi, u16 c.windowLo, u16 c.windowHi,
   u16 c.rateLimit, bool8 c.acceptJumps, u16 c.holdLimit, u8 c.recoverCount, u8 c.k]

/-- The setting of a pulse channel: ppr in 1 byte, ppl in 2 (R16). -/
def pulseSettingFields (c : Settings) (i : Fin 3) : List (List Byte) :=
  match i with
  | 0 => [u8 c.pprMain]
  | 1 => [u8 c.pprAux]
  | 2 => [u16 c.ppl]

/-- A CHANNEL object. -/
def channelFields (s : State) (i : Fin 23) : List (List Byte) :=
  match channelRef i with
  | .analog k => analogFields k (s.inputs.analog[k]) ++ analogSettingFields (s.settings.analog[k])
  | .pulse k => pulseFields k (s.inputs.pulse[k]) ++ pulseSettingFields s.settings k
  | .discrete k =>
    discreteFields k (s.inputs.discrete[k]) s.inputs.brake ++ [u8 (polarityCode (s.settings.polarity[k]))]

/-! ### Slots, quantities and the port (R25 to R27, R34, R35) -/

/-- An RXSLOT object (R26, R27). -/
def rxFields (s : State) (i : Fin 16) : List (List Byte) :=
  let r := s.chassis.rx[i]
  let c := s.settings.rx[i]
  [u8 (slotStateCode r.state), u16 r.lastRaw, optField s16 r.decoded, up32 r.stamp, u16 r.accepted, u8 r.rejections,
   bool8 r.short, timerField r.age,
   bool8 c.enabled, u32 c.ident.toNat, u32 c.mask.toNat, bool8 c.ext, optField (fun q => u8 q.val) c.bound,
   u8 c.byteOffset, u8 c.width, u8 (byteOrderCode c.order), u8 (signednessCode c.sign), u16 c.multiplier,
   u16 c.divisor, s16 c.offset, u16 c.ageLimit, u16 c.jumpLimit, bool8 c.naCheck]

/-- A TXSLOT object (R35). -/
def txFields (s : State) (i : Fin 4) : List (List Byte) :=
  let t := s.chassis.tx[i]
  let c := s.settings.tx[i]
  [u8 (txStateCode t.state), bool8 t.dueAgain, up32 t.lastSent, u32 c.ident.toNat, bool8 c.ext, bool8 c.enabled]

/-- A QUANTITY object (R34): a quantity with no bound slot has state EMPTY and no value. -/
def quantityFields (s : State) (q : Fin 6) : List (List Byte) :=
  match boundSlot s.settings q with
  | none => [u8 (slotStateCode .empty), [], []]
  | some i => [u8 (slotStateCode (s.chassis.rx[i]).state), optField s16 (s.chassis.rx[i]).decoded, u8 i.val]

/-- The CHASSIS object (R25, R172). -/
def chassisFields (s : State) : List (List Byte) :=
  let c := s.settings.chassis
  [u16 c.bitRate, bool8 c.autoRecovery, bool8 c.autoAnswer, u8 (portStateCode s.chassis.port), u8 s.chassis.txErrors,
   u8 s.chassis.rxErrors, u8 s.chassis.progress, u16 c.standstill.toNat]

/-! ### Drives and governor (R55, R77) -/

/-- The PTO settings (R56). -/
def ptoSettingFields (c : PtoSettings) : List (List Byte) :=
  [u16 c.shiftLimit, u16 c.settleTime, u16 c.releaseLimit, u8 c.pumpGear.toNat, u16 c.auxEngageSpeed.toNat]

/-- A DRIVE object (R55, R172). -/
def driveFields (s : State) (d : DriveId) : List (List Byte) :=
  let x := s.pto.drive d
  [u8 (driveStateCode x.state), nameField driveCauseCode x.cause, bool8 x.ready, nameField reasonCode x.reason,
   bool8 x.waiver, up32 x.entered] ++ ptoSettingFields s.settings.pto

/-- An engine speed in rpm, 2 bytes unsigned. -/
def rpm16 (v : Int) : List Byte := u16 v.toNat

/-- The governor's settings (R78). -/
def govSettingFields (c : GovSettings) : List (List Byte) :=
  [rpm16 c.idleRpm, rpm16 c.govMax, u8 c.ki.toNat, u8 c.kp.toNat, u8 c.deadband.toNat, u8 c.riseLimit.toNat,
   u16 c.fallLimit.toNat, u16 c.fastFallBand.toNat, u16 c.fastFallStep.toNat, u16 c.holdLimit,
   u16 c.pressureSetpoint.toNat, rpm16 c.speedSetpoint]

/-- The GOVERNOR object (R77, R78). -/
def governorFields (s : State) : List (List Byte) :=
  let g := s.gov
  let c := s.settings.gov
  [u8 (govModeCode g.mode), nameField driveIndex g.governed, nameField driveIndex g.windDown, rpm16 g.request,
   s16 g.prevError, bool8 g.firstStep, nameField resumeModeCode g.resume, u8 (throttlePathCode g.path),
   rpm16 g.ceiling, timerField g.hold, timerField g.stop, u16 c.pressureSetpoint.toNat, rpm16 c.speedSetpoint] ++
  govSettingFields c

/-! ### Protection (R101, R102, R112) -/

/-- One condition record (R101). -/
def protCondFields (c : ProtSettings) (p : Protection) (i : Fin 5) : List (List Byte) :=
  let x := p.conds[i]
  [bool8 (c.enabled[i]), u8 (protStateCode x.state), up32 x.activated, up32 x.entered]

/-- The protection settings (R102). -/
def protSettingFields (c : ProtSettings) : List (List Byte) :=
  [s8 c.intakeMin, u16 c.emptyReserve, u16 c.critical.toNat, u16 c.warn.toNat, u16 c.maxPressure.toNat,
   u16 c.coolantLimit.toNat, u8 c.retreatStep.toNat, u16 c.resumeDelay, u8 (autoManualCode c.resumeMode),
   bool8 (c.enabled[(0 : Fin 5)]), bool8 (c.enabled[(1 : Fin 5)]), bool8 (c.enabled[(2 : Fin 5)]),
   bool8 (c.enabled[(3 : Fin 5)]), bool8 (c.enabled[(4 : Fin 5)])]

/-- The PROTECTION object (R101, R102, R110, R112). R101 lists the recirculation flag nowhere and names the ceiling
twice: the flag is field 24, after the outputs, and the qualification timer and the ceiling follow it: log entry 63
(DESIGN CHOICE). -/
def protectionFields (s : State) : List (List Byte) :=
  let p := s.prot
  let c := s.settings.prot
  protCondFields c p 0 ++ protCondFields c p 1 ++ protCondFields c p 2 ++ protCondFields c p 3 ++
  protCondFields c p 4 ++
  [bool8 s.outputs.o4, bool8 s.outputs.o5, bool8 s.outputs.o6, bool8 p.recirc, timerField p.qualification,
   rpm16 p.ceiling.value, u8 (ceilStateCode p.ceiling.state), optField u16 p.ceiling.steps, up32 p.ceiling.entered,
   u8 (autoManualCode c.resumeMode)] ++ protSettingFields c

/-! ### Tanks (R120, R121, R133, R137, R141) -/

/-- The fields that every tank record has (R120): the window is carried as its length, spread, newest and oldest. A
level has 2 bytes, since by R126 and R127 it lies from 0 to 65,533: log entry 45. -/
def tankFields (t : Tank) : List (List Byte) :=
  [u8 (tankStateCode t.state), optField u16 t.centre, optField u16 t.stable, optField u16 t.reported,
   optField u16 t.lastStable, u16 t.consumed, u32 t.remainder, bool8 t.partialFlag, bool8 t.low, bool8 t.empty,
   optField u16 t.remaining, optField s32 t.reconciliation, u8 t.window.length, u16 (spread t.window),
   optField u16 t.window.getLast?, optField u16 t.window.head?]

/-- The fill record (R137). -/
def fillFields (f : Fill) : List (List Byte) :=
  [bool8 f.active, optField u16 f.target, up32 f.start, timerField f.timer, nameField fillReasonCode f.endReason,
   optField u16 f.finalVolume]

/-- The leak-watch record (R141): the volume of a result is present with STABLE. That it is a field of its own, after the
result, R141 does not say: log entry 64 (DESIGN CHOICE). -/
def leakFields (l : LeakWatch) : List (List Byte) :=
  [bool8 l.armed, optField u16 l.reference, u16 l.bursts, u8 (burstResultCode l.result), optField u16 l.resultVolume,
   bool8 l.leak, timerField l.timer]

/-- The settings of WATER (R121). -/
def waterSettingFields (c : GaugeSettings) : List (List Byte) :=
  [u16 c.spacing, u16 c.gauging, u8 c.floor, u8 c.water.settleBand, u16 c.water.reconcileLimit, u8 c.water.lowPercent,
   u16 c.fillMaxTime, u16 c.leakLimit]

/-- The settings of a foam tank (R121). -/
def foamSettingFields (c : TankSettings) (ratio : Nat) : List (List Byte) :=
  [u8 c.settleBand, u16 c.reconcileLimit, u8 c.lowPercent, u8 ratio]

/-- The foam-use record (R133). -/
def foamUseFields (g : TankGauge) : List (List Byte) := [u8 (foamSelCode g.foam), u8 g.ratio]

/-- A TANK object (R120, R121, R133, R137, R141). D has 2 bytes, since two levels above the floor differ by at most 32,766:
log entry 45. -/
def tankObjectFields (s : State) (t : TankId) : List (List Byte) :=
  let g := s.gauge
  let c := s.settings.gauge
  match t with
  | .water => tankFields g.water ++ [s16 g.tilt] ++ fillFields g.fill ++ leakFields g.leak ++ waterSettingFields c
  | .foamA => tankFields g.foamA ++ foamUseFields g ++ foamSettingFields c.foamA c.ratioA
  | .foamB => tankFields g.foamB ++ foamUseFields g ++ foamSettingFields c.foamB c.ratioB

/-- A strapping table: each point its level and its volume, 2 bytes each (R122). -/
def strapField (strap : List (Nat × Nat)) : List Byte := (strap.map (fun p => u16 p.1 ++ u16 p.2)).flatten

/-! ### Lockouts (R147, R150, R160, R161) -/

/-- A set of actions in index order. -/
def actionsField (as : List ActionId) : List Byte := (as.map (fun a => u8 (actionIndex a))).flatten

/-- A CONDITION object (R147). -/
def conditionFields (s : State) (i : Fin 11) : List (List Byte) :=
  let x := s.lock.conds[i]
  [bool8 x.active, actionsField (s.settings.lock.actionSets[i]), actionsField (fixedActions i), up32 x.changed]

/-- A contributing set (R150). -/
def contributorsField (set : List (Fin 11)) : List Byte := (set.map (fun c => u8 c.val)).flatten

/-- The fields that every action record has (R150). -/
def actionFields (x : Action) : List (List Byte) :=
  [u8 (actionStateCode x.state), contributorsField x.contributors, timerField x.holdOff, up32 x.entered]

/-- The settings that every action has (R150). -/
def actionSettingFields (c : ActionSettings) : List (List Byte) := [u16 c.holdOff, u8 (autoManualCode c.mode)]

/-- An ACTION object (R150, R160, R161, R172). -/
def actionObjectFields (s : State) (a : ActionId) : List (List Byte) :=
  let l := s.lock
  let c := s.settings.lock
  match a with
  | .inhibit => actionFields l.inhibit ++ [optField (fun c => u8 c.val) l.driving] ++ actionSettingFields c.inhibit
  | .rollLimit =>
    actionFields l.rollLimit ++ [u8 (overspeedStateCode l.overspeed), timerField l.overspeedTimer] ++
    actionSettingFields c.rollLimit ++
    [u16 c.rollSpeedLimit.toNat, rpm16 c.rollRpmMax, u8 c.overspeedTime, bool8 c.autoDrop]
  | .idleCap => actionFields l.idleCap ++ actionSettingFields c.idleCap

/-! ### Time base, meters, link, power, identity (R46 to R54, R172, R185, R188, R190) -/

/-- The clock source follows the power state (R48). -/
def clockSource : PowerState → ClockSource
  | .awake | .rundown => .mainOsc
  | .watch => .watchClock
  | .waking => .settling

/-- The TIMEBASE object (R46 to R48). The trim, which no settings table lists, is field 2, its place in R46's sentence:
log entry 15 (DESIGN CHOICE). -/
def timebaseFields (s : State) : List (List Byte) :=
  [up32 s.time.uptime, s16 s.settings.trim, s16 s.time.trimRemainder, u8 (clockSourceCode (clockSource s.power.state))]

/-- The METERS object (R52). -/
def metersFields (s : State) : List (List Byte) :=
  let t := s.time
  [u32 t.mainPumping.value, u16 t.mainPumping.remainder, u32 t.auxPumping.value, u16 t.auxPumping.remainder,
   u32 t.roll.value, u16 t.roll.remainder, u32 t.mainPumping.written, u32 t.auxPumping.written, u32 t.roll.written,
   u8 (meterBlockStateCode t.blockState), up32 t.lastWrite]

/-- The number of frames held in the receive buffer (R172): the frame in assembly and the awaiting one. -/
def framesHeld (l : Link) : Nat := (if l.assembly.isEmpty then 0 else 1) + (if l.awaiting.isSome then 1 else 0)

/-- The monitor list: each item its object code and index (R176). -/
def monitorsField (ms : List MonItem) : List Byte :=
  (ms.map (fun m => u8 (objectCode m.ref) ++ u8 (objectIndex m.ref))).flatten

/-- The LINK object (R172). -/
def linkFields (s : State) : List (List Byte) :=
  let l := s.link
  let c := s.settings.link
  [u32 c.bitRate, u8 (parityCode c.parity), bool8 l.framing, bool8 l.parity, bool8 l.checksum, bool8 l.overrun,
   up32 l.lastHeard, u16 c.reportPeriod, [l.seq], monitorsField l.monitors, u8 (framesHeld l)]

/-- The POWER object (R190). -/
def powerFields (s : State) : List (List Byte) :=
  let p := s.power
  [u8 (powerStateCode p.state), up32 p.entered, bool8 p.watchPending, timerField p.silence, timerField p.rundown,
   u8 (wakeCauseCode p.lastWake), u16 s.settings.linkIdle]

/-- The factory serial (R188). -/
def serialBytes : List Byte := (List.finRange 6).map Config.factorySerial

/-- The identity fields of R188. -/
def identityBody : List Byte := u16 0x4A5A ++ u16 740 ++ [Config.siliconRevision] ++ serialBytes

/-- The IDENTITY object (R185, R188). -/
def identityFields (s : State) : List (List Byte) :=
  [u16 0x4A5A, u16 740, [Config.siliconRevision], serialBytes, u8 (copyStateCode s.store.copy),
   u8 (settingsSourceCode s.store.source), u16 s.store.stores]

/-- Every field of an object's record as it stands (R172, R173): the first has number 1. -/
def readFields (s : State) : Obj → List (List Byte)
  | .channel i => channelFields s i
  | .rxSlot i => rxFields s i
  | .txSlot i => txFields s i
  | .quantity q => quantityFields s q
  | .drive d => driveFields s d
  | .governor => governorFields s
  | .protection => protectionFields s
  | .tank t => tankObjectFields s t
  | .strap t => [strapField (tankSettings s.settings.gauge t).strap]
  | .condition i => conditionFields s i
  | .action a => actionObjectFields s a
  | .timebase => timebaseFields s
  | .meters => metersFields s
  | .link => linkFields s
  | .chassis => chassisFields s
  | .power => powerFields s
  | .identity => identityFields s

/-- Field values as field entries, numbered from the given number on (R172). -/
def entriesFrom (n : Nat) : List (List Byte) → List Byte
  | [] => []
  | v :: vs => u8 n ++ u8 v.length ++ v ++ entriesFrom (n + 1) vs

/-- A record as the list of its field entries (R172). -/
def recordBytes (s : State) (o : Obj) : List Byte := entriesFrom 1 (readFields s o)

end Sys2Proof.Machine
end

