-- ==== Sys2Proof/Machine/SettingWrites.lean ====
section
/-! DEFINITION. Writing settings (R3, R172 to R174): for every object the field numbers that are settings, each with how
the bytes of a value are taken into the working settings, clamped, or refused; the checks over several fields of one
record; and the limits that tie one setting to another. -/

namespace Sys2Proof.Machine

/-- How a field value is taken into the working settings: none is a refusal with BAD_VALUE (R3, R173). -/
abbrev Writer := List Byte → Settings → Option Settings

/-- A numeric setting of `w` bytes, clamped to its range (R3). A value of another length is refused. The bytes are read
unsigned, as a range without a negative value needs (R172); that this holds of a speed, a temperature or a difference of
pressures no rule says: log entry 71 (DESIGN CHOICE). -/
def numeric (w lo hi : Nat) (f : Nat → Settings → Settings) : Writer :=
  fun bs c => if bs.length = w then some (f (clampNat lo hi (leNat bs)) c) else none

/-- A signed numeric setting of `w` bytes, clamped to its range (R3): a pressure (the units table of 00_scope.md), a setpoint
of the governor, which takes effect exactly as one of GOVERN (R88), and the trim (R47). -/
def signedNumeric (w : Nat) (lo hi : Int) (f : Int → Settings → Settings) : Writer :=
  fun bs c => if bs.length = w then some (f (clampInt lo hi (leInt bs)) c) else none

/-- A structural setting of `w` bytes, refused outside its range (R3). -/
def structural (w lo hi : Nat) (f : Nat → Settings → Settings) : Writer :=
  fun bs c => if bs.length = w ∧ lo ≤ leNat bs ∧ leNat bs ≤ hi then some (f (leNat bs) c) else none

/-- A structural signed setting of 2 bytes, whose whole range is admitted (R5, R26). -/
def structuralSigned (f : Int → Settings → Settings) : Writer :=
  fun bs c => if bs.length = 2 then some (f (leInt bs) c) else none

/-- A named value of 1 byte, refused outside its list (R172). -/
def named {α : Type} (values : List α) (f : α → Settings → Settings) : Writer :=
  fun bs c => if bs.length = 1 then (values[leNat bs]?).map (fun v => f v c) else none

/-- An on/off setting: 0 is off, 1 on, and another byte is refused. No rule numbers the two: log entry 76 (DESIGN
CHOICE). -/
def onOff (f : Bool → Settings → Settings) : Writer := named [false, true] f

/-- The release and resume modes in order (R102, R150). -/
def autoManual (f : AutoManual → Settings → Settings) : Writer := named [.auto, .manual] f

/-! ### Channels -/

/-- The settings of one analog channel changed. -/
def setAnalog (i : Fin 10) (f : AnalogSettings → AnalogSettings) (c : Settings) : Settings :=
  { c with analog := c.analog.set i (f (c.analog[i])) }

/-- The settings of an analog channel, fields 9 to 20 (R5, R6). -/
def analogWriters (i : Fin 10) : List (Nat × Writer) :=
  [(9, onOff (fun v => setAnalog i (fun a => { a with enabled := v }))),
   (10, structural 2 0 4095 (fun v => setAnalog i (fun a => { a with rawLo := v }))),
   (11, structural 2 0 4095 (fun v => setAnalog i (fun a => { a with rawHi := v }))),
   (12, structuralSigned (fun v => setAnalog i (fun a => { a with engLo := v }))),
   (13, structuralSigned (fun v => setAnalog i (fun a => { a with engHi := v }))),
   (14, structural 2 0 4095 (fun v => setAnalog i (fun a => { a with windowLo := v }))),
   (15, structural 2 0 4095 (fun v => setAnalog i (fun a => { a with windowHi := v }))),
   (16, numeric 2 0 32767 (fun v => setAnalog i (fun a => { a with rateLimit := v }))),
   (17, onOff (fun v => setAnalog i (fun a => { a with acceptJumps := v }))),
   (18, numeric 2 50 2000 (fun v => setAnalog i (fun a => { a with holdLimit := v }))),
   (19, numeric 1 1 16 (fun v => setAnalog i (fun a => { a with recoverCount := v }))),
   (20, numeric 1 0 4 (fun v => setAnalog i (fun a => { a with k := v })))]

/-- The setting of a pulse channel, field 9 (R16): refused outside its range. -/
def pulseWriters (i : Fin 3) : List (Nat × Writer) :=
  match i with
  | 0 => [(9, structural 1 1 240 (fun v c => { c with pprMain := v }))]
  | 1 => [(9, structural 1 1 240 (fun v c => { c with pprAux := v }))]
  | 2 => [(9, structural 2 1 1000 (fun v c => { c with ppl := v }))]

/-- The polarity of a discrete (R17): field 9, and 10 for D0, whose record has one field more. -/
def discreteWriters (i : Fin 10) : List (Nat × Writer) :=
  [(if i = 0 then 10 else 9,
    named [Polarity.activeHigh, .activeLow] (fun v c => { c with polarity := c.polarity.set i v }))]

/-- The settings of a CHANNEL object. -/
def channelWriters (i : Fin 23) : List (Nat × Writer) :=
  match channelRef i with
  | .analog k => analogWriters k
  | .pulse k => pulseWriters k
  | .discrete k => discreteWriters k

/-! ### Slots and port -/

/-- The settings of one receive slot changed. -/
def setRx (i : Fin 16) (f : RxSettings → RxSettings) (c : Settings) : Settings :=
  { c with rx := c.rx.set i (f (c.rx[i])) }

/-- The bound quantity of a receive slot: no byte for none, else Q0 to Q5 (R26). -/
def boundWriter (i : Fin 16) : Writer := fun bs c =>
  match bs with
  | [] => some (setRx i (fun r => { r with bound := none }) c)
  | [b] => if h : b.toNat < 6 then some (setRx i (fun r => { r with bound := some ⟨b.toNat, h⟩ }) c) else none
  | _ => none

/-- The settings of a receive slot, fields 9 to 23 (R26). -/
def rxWriters (i : Fin 16) : List (Nat × Writer) :=
  [(9, onOff (fun v => setRx i (fun r => { r with enabled := v }))),
   (10, structural 4 0 0x1FFFFFFF (fun v => setRx i (fun r => { r with ident := BitVec.ofNat 29 v }))),
   (11, structural 4 0 0x1FFFFFFF (fun v => setRx i (fun r => { r with mask := BitVec.ofNat 29 v }))),
   (12, onOff (fun v => setRx i (fun r => { r with ext := v }))),
   (13, boundWriter i),
   (14, structural 1 0 7 (fun v => setRx i (fun r => { r with byteOffset := v }))),
   (15, structural 1 1 2 (fun v => setRx i (fun r => { r with width := v }))),
   (16, named [ByteOrder.lowFirst, .highFirst] (fun v => setRx i (fun r => { r with order := v }))),
   (17, named [Signedness.unsigned, .signed] (fun v => setRx i (fun r => { r with sign := v }))),
   (18, structural 2 1 65535 (fun v => setRx i (fun r => { r with multiplier := v }))),
   (19, structural 2 1 65535 (fun v => setRx i (fun r => { r with divisor := v }))),
   (20, structuralSigned (fun v => setRx i (fun r => { r with offset := v }))),
   (21, numeric 2 20 5000 (fun v => setRx i (fun r => { r with ageLimit := v }))),
   (22, numeric 2 0 32767 (fun v => setRx i (fun r => { r with jumpLimit := v }))),
   (23, onOff (fun v => setRx i (fun r => { r with naCheck := v })))]

/-- The settings of one transmit slot changed. -/
def setTx (i : Fin 4) (f : TxSettings → TxSettings) (c : Settings) : Settings :=
  { c with tx := c.tx.set i (f (c.tx[i])) }

/-- The settings of a transmit slot, fields 4 to 6 (R35). -/
def txWriters (i : Fin 4) : List (Nat × Writer) :=
  [(4, structural 4 0 0x1FFFFFFF (fun v => setTx i (fun t => { t with ident := BitVec.ofNat 29 v }))),
   (5, onOff (fun v => setTx i (fun t => { t with ext := v }))),
   (6, onOff (fun v => setTx i (fun t => { t with enabled := v })))]

/-- The bit rate of the port: 250 or 500 (R25). -/
def busRateWriter : Writer := fun bs c =>
  if bs.length = 2 ∧ (leNat bs = 250 ∨ leNat bs = 500) then
    some { c with chassis := { c.chassis with bitRate := leNat bs } }
  else none

/-- The settings of the CHASSIS object (R25, R172); the standstill setting is clamped to 0.50 to 5.00 km/h. -/
def chassisWriters : List (Nat × Writer) :=
  [(1, busRateWriter),
   (2, onOff (fun v c => { c with chassis := { c.chassis with autoRecovery := v } })),
   (3, onOff (fun v c => { c with chassis := { c.chassis with autoAnswer := v } })),
   (8, numeric 2 50 500 (fun v c => { c with chassis := { c.chassis with standstill := v } }))]

/-! ### Drives and governor -/

/-- The PTO settings, fields 7 to 11 of either DRIVE object (R56, R172). -/
def driveWriters : List (Nat × Writer) :=
  [(7, numeric 2 200 5000 (fun v c => { c with pto := { c.pto with shiftLimit := v } })),
   (8, numeric 2 0 5000 (fun v c => { c with pto := { c.pto with settleTime := v } })),
   (9, numeric 2 200 5000 (fun v c => { c with pto := { c.pto with releaseLimit := v } })),
   (10, numeric 1 1 15 (fun v c => { c with pto := { c.pto with pumpGear := v } })),
   (11, numeric 2 50 1000 (fun v c => { c with pto := { c.pto with auxEngageSpeed := v } }))]

/-- The governor's settings changed. -/
def setGov (f : GovSettings → GovSettings) (c : Settings) : Settings := { c with gov := f c.gov }

/-- idle_rpm: 500 to 1000, and at most roll_rpm_max − 100 (R78). -/
def idleWriter : Writer := fun bs c =>
  numeric 2 500 (min 1000 (c.lock.rollRpmMax - 100).toNat) (fun v => setGov (fun g => { g with idleRpm := v })) bs c

/-- The pressure setpoint (R78), read signed as GOVERN carries it (R88, R171). -/
def pressureWriter : Writer := signedNumeric 2 200 2400 (fun v => setGov (fun g => { g with pressureSetpoint := v }))

/-- The speed setpoint (R78), read signed as GOVERN carries it (R88, R171): `linkLimits` clamps it to the range idle_rpm to
gov_max. -/
def speedWriter : Writer :=
  signedNumeric 2 (-32768) 32767 (fun v => setGov (fun g => { g with speedSetpoint := v }))

/-- The settings of the GOVERNOR object (R78): the setpoints stand in the record and among the settings. -/
def governorWriters : List (Nat × Writer) :=
  [(12, pressureWriter), (13, speedWriter), (14, idleWriter),
   (15, numeric 2 1200 2600 (fun v => setGov (fun g => { g with govMax := v }))),
   (16, numeric 1 1 255 (fun v => setGov (fun g => { g with ki := v }))),
   (17, numeric 1 0 255 (fun v => setGov (fun g => { g with kp := v }))),
   (18, numeric 1 0 100 (fun v => setGov (fun g => { g with deadband := v }))),
   (19, numeric 1 5 200 (fun v => setGov (fun g => { g with riseLimit := v }))),
   (20, numeric 2 5 400 (fun v => setGov (fun g => { g with fallLimit := v }))),
   (21, numeric 2 200 1000 (fun v => setGov (fun g => { g with fastFallBand := v }))),
   (22, numeric 2 100 600 (fun v => setGov (fun g => { g with fastFallStep := v }))),
   (23, numeric 2 500 10000 (fun v => setGov (fun g => { g with holdLimit := v }))),
   (24, pressureWriter), (25, speedWriter)]

/-! ### Protection -/

/-- The protection settings changed. -/
def setProt (f : ProtSettings → ProtSettings) (c : Settings) : Settings := { c with prot := f c.prot }

/-- The enabled setting of a condition (R101). -/
def enabledWriter (i : Fin 5) : Writer := onOff (fun v => setProt (fun p => { p with enabled := p.enabled.set i v }))

/-- The ceiling resume mode (R102). -/
def resumeModeWriter : Writer := autoManual (fun v => setProt (fun p => { p with resumeMode := v }))

/-- A delay rounded to the nearest multiple of 500, half up (R102). -/
def toHalfSecond (v : Nat) : Nat := (v + 250) / 500 * 500

/-- The settings of the PROTECTION object (R101, R102): fields 1, 5, 9, 13, 17 and 30 stand in the records, 31 to 44
among the settings. -/
def protectionWriters : List (Nat × Writer) :=
  [(1, enabledWriter 0), (5, enabledWriter 1), (9, enabledWriter 2), (13, enabledWriter 3), (17, enabledWriter 4),
   (30, resumeModeWriter),
   (31, signedNumeric 1 (-100) 0 (fun v => setProt (fun p => { p with intakeMin := v }))),
   (32, numeric 2 0 2000 (fun v => setProt (fun p => { p with emptyReserve := v }))),
   (33, numeric 2 400 1200 (fun v => setProt (fun p => { p with critical := v }))),
   (34, numeric 2 300 1100 (fun v => setProt (fun p => { p with warn := v }))),
   (35, signedNumeric 2 1000 4000 (fun v => setProt (fun p => { p with maxPressure := v }))),
   (36, numeric 2 800 1250 (fun v => setProt (fun p => { p with coolantLimit := v }))),
   (37, numeric 1 5 200 (fun v => setProt (fun p => { p with retreatStep := v }))),
   (38, numeric 2 0 10000 (fun v => setProt (fun p => { p with resumeDelay := toHalfSecond v }))),
   (39, resumeModeWriter),
   (40, enabledWriter 0), (41, enabledWriter 1), (42, enabledWriter 2), (43, enabledWriter 3), (44, enabledWriter 4)]

/-! ### Tanks -/

/-- The tank gauge's settings changed. -/
def setGauge (f : GaugeSettings → GaugeSettings) (c : Settings) : Settings := { c with gauge := f c.gauge }

/-- One tank's settings changed. -/
def setTankSettings (t : TankId) (f : TankSettings → TankSettings) (g : GaugeSettings) : GaugeSettings :=
  match t with
  | .water => { g with water := f g.water }
  | .foamA => { g with foamA := f g.foamA }
  | .foamB => { g with foamB := f g.foamB }

/-- The settings that every tank has, from the given field number on (R121). -/
def tankWriters (n : Nat) (t : TankId) : List (Nat × Writer) :=
  [(n, numeric 1 2 100 (fun v => setGauge (setTankSettings t (fun x => { x with settleBand := v })))),
   (n + 1, numeric 2 5 1000 (fun v => setGauge (setTankSettings t (fun x => { x with reconcileLimit := v })))),
   (n + 2, numeric 1 5 50 (fun v => setGauge (setTankSettings t (fun x => { x with lowPercent := v }))))]

/-- The settings of WATER, fields 31 to 38 (R121). `linkLimits` takes X down to L. -/
def waterWriters : List (Nat × Writer) :=
  [(31, numeric 2 500 6000 (fun v => setGauge (fun g => { g with spacing := v }))),
   (32, numeric 2 0 65535 (fun v => setGauge (fun g => { g with gauging := v }))),
   (33, numeric 1 0 100 (fun v => setGauge (fun g => { g with floor := v })))] ++ tankWriters 34 .water ++
  [(37, numeric 2 60 1800 (fun v => setGauge (fun g => { g with fillMaxTime := v }))),
   (38, numeric 2 10 500 (fun v => setGauge (fun g => { g with leakLimit := v })))]

/-- The settings of a TANK object (R121). -/
def tankObjectWriters : TankId → List (Nat × Writer)
  | .water => waterWriters
  | .foamA => tankWriters 19 .foamA ++ [(22, numeric 1 1 60 (fun v => setGauge (fun g => { g with ratioA := v })))]
  | .foamB => tankWriters 19 .foamB ++ [(22, numeric 1 1 60 (fun v => setGauge (fun g => { g with ratioB := v })))]

/-- A strapping table from its bytes: points of 4 bytes, or none when they do not divide so (R122). -/
def parseStrap : List Byte → Option (List (Nat × Nat))
  | [] => some []
  | a :: b :: c :: d :: rest => (parseStrap rest).map (fun ps => (leNat [a, b], leNat [c, d]) :: ps)
  | _ => none

/-- Whether levels strictly ascend and volumes never fall (R122). -/
def strapAscends : List (Nat × Nat) → Bool
  | [] => true
  | [_] => true
  | a :: b :: rest => decide (a.1 < b.1) && decide (a.2 ≤ b.2) && strapAscends (b :: rest)

/-- Whether a table is one that R122 accepts. -/
def strapSound (strap : List (Nat × Nat)) : Bool :=
  decide (strap.length ≤ 16) && strap.all (fun p => decide (p.1 ≤ 32767) && decide (p.2 ≤ 65535)) && strapAscends strap

/-- The strapping table of a tank, field 1 of its STRAP object (R122). -/
def strapWriters (t : TankId) : List (Nat × Writer) :=
  [(1, fun bs c =>
    match parseStrap bs with
    | none => none
    | some strap =>
      if strapSound strap then some (setGauge (setTankSettings t (fun x => { x with strap := strap })) c) else none)]

/-! ### Lockouts -/

/-- The lockout settings changed. -/
def setLock (f : LockSettings → LockSettings) (c : Settings) : Settings := { c with lock := f c.lock }

/-- A list of actions from its bytes, or none when one names no action (R149). -/
def parseActions : List Byte → Option (List ActionId)
  | [] => some []
  | b :: bs =>
    match ([ActionId.inhibit, .rollLimit, .idleCap])[b.toNat]?, parseActions bs with
    | some a, some rest => some (a :: rest)
    | _, _ => none

/-- A set of actions in index order, without repeats: an action named twice is in the set once, log entry 75 (DESIGN
CHOICE). -/
def actionSetOf (as : List ActionId) : List ActionId :=
  [ActionId.inhibit, .rollLimit, .idleCap].filter (fun a => decide (a ∈ as))

/-- The action set of a condition, field 2 (R149): a fixed action may not be left out. -/
def conditionWriters (i : Fin 11) : List (Nat × Writer) :=
  [(2, fun bs c =>
    match parseActions bs with
    | none => none
    | some as =>
      if (fixedActions i).all (fun a => decide (a ∈ as)) then
        some (setLock (fun l => { l with actionSets := l.actionSets.set i (actionSetOf as) }) c)
      else none)]

/-- One action's settings changed. -/
def setActionSettings (a : ActionId) (f : ActionSettings → ActionSettings) (l : LockSettings) : LockSettings :=
  match a with
  | .inhibit => { l with inhibit := f l.inhibit }
  | .rollLimit => { l with rollLimit := f l.rollLimit }
  | .idleCap => { l with idleCap := f l.idleCap }

/-- The settings that every action has, from the given field number on (R150). -/
def actionWriters (n : Nat) (a : ActionId) : List (Nat × Writer) :=
  [(n, numeric 2 0 10000 (fun v => setLock (setActionSettings a (fun x => { x with holdOff := v })))),
   (n + 1, autoManual (fun v => setLock (setActionSettings a (fun x => { x with mode := v }))))]

/-- roll_rpm_max: 600 to 2600, and at least idle_rpm + 100 (R158). -/
def rollRpmWriter : Writer := fun bs c =>
  numeric 2 (max 600 (c.gov.idleRpm + 100).toNat) 2600 (fun v => setLock (fun l => { l with rollRpmMax := v })) bs c

/-- The settings of an ACTION object (R150, R158, R161, R162, R172). -/
def actionObjectWriters : ActionId → List (Nat × Writer)
  | .inhibit => actionWriters 6 .inhibit
  | .rollLimit =>
    actionWriters 7 .rollLimit ++
    [(9, numeric 2 300 2500 (fun v => setLock (fun l => { l with rollSpeedLimit := v }))),
     (10, rollRpmWriter),
     (11, numeric 1 1 10 (fun v => setLock (fun l => { l with overspeedTime := v }))),
     (12, onOff (fun v => setLock (fun l => { l with autoDrop := v })))]
  | .idleCap => actionWriters 5 .idleCap

/-! ### Time base, link, power -/

/-- A report period clamped as R177 states: 0, or 100 to 5000. -/
def clampPeriod (v : Nat) : Nat := if v = 0 then 0 else clampNat 100 5000 v

/-- The bit rate of the link: one of four (R165). -/
def lineRateWriter : Writer := fun bs c =>
  if bs.length = 4 ∧ leNat bs ∈ [19200, 38400, 57600, 115200] then
    some { c with link := { c.link with bitRate := leNat bs } }
  else none

/-- The settings of the LINK object (R165, R177). -/
def linkWriters : List (Nat × Writer) :=
  [(1, lineRateWriter),
   (2, named [Parity.none, .even] (fun v c => { c with link := { c.link with parity := v } })),
   (8, numeric 2 0 65535 (fun v c => { c with link := { c.link with reportPeriod := clampPeriod v } }))]

/-- The field numbers of an object that are settings, each with its writer. Every other field is refused (R173). That of
the trim is the model's choice: log entry 15 (DESIGN CHOICE). -/
def writersOf : Obj → List (Nat × Writer)
  | .channel i => channelWriters i
  | .rxSlot i => rxWriters i
  | .txSlot i => txWriters i
  | .drive _ => driveWriters
  | .governor => governorWriters
  | .protection => protectionWriters
  | .tank t => tankObjectWriters t
  | .strap t => strapWriters t
  | .condition i => conditionWriters i
  | .action a => actionObjectWriters a
  | .timebase => [(2, signedNumeric 2 (-400) 400 (fun v c => { c with trim := v }))]
  | .link => linkWriters
  | .chassis => chassisWriters
  | .power => [(7, numeric 2 5 600 (fun v c => { c with linkIdle := v }))]
  | .quantity _ | .meters | .identity => []

/-- The field numbers of an object that are state-locked settings (R174). -/
def lockedFields : Obj → List Nat
  | .drive _ => [7, 8, 9, 10, 11]
  | .strap _ => [1]
  | .rxSlot _ => [13]
  | .condition _ => [2]
  | .channel i => if i.val ≤ 6 then [10, 11, 12, 13] else []
  | _ => []

/-! ### Checks over several fields -/

/-- The checks of R6 over one analog channel. -/
def analogSound (a : AnalogSettings) : Bool :=
  decide (a.rawLo < a.rawHi) && decide (a.windowLo < a.windowHi) && decide (a.engLo ≠ a.engHi)

/-- Whether an identifier fits its format (R26, R35). -/
def identFits (ext : Bool) (ident : BitVec 29) : Bool := ext || decide (ident.toNat ≤ 0x7FF)

/-- Whether another receive slot is bound to the quantity of this one (R34). -/
def boundTwice (c : Settings) (i : Fin 16) : Bool :=
  match (c.rx[i]).bound with
  | none => false
  | some q => (List.finRange 16).any (fun j => decide (j ≠ i) && decide ((c.rx[j]).bound = some q))

/-- The checks of R26 and R34 over one receive slot. -/
def rxSound (c : Settings) (i : Fin 16) : Bool :=
  let r := c.rx[i]
  identFits r.ext r.ident && identFits r.ext r.mask && decide (r.byteOffset + r.width ≤ 8) && !boundTwice c i

/-- The checks over several fields of one object's settings. -/
def settingsSound (c : Settings) : Obj → Bool
  | .channel i =>
    match channelRef i with
    | .analog k => analogSound (c.analog[k])
    | _ => true
  | .rxSlot i => rxSound c i
  | .txSlot i => identFits (c.tx[i]).ext (c.tx[i]).ident
  | _ => true

/-- The limits that tie one setting to another: the speed setpoint to the range idle_rpm to gov_max (R98), X to L
(R121), warn to critical − 5.0 °C (R102). -/
def linkLimits (c : Settings) : Settings :=
  { c with
    gov := { c.gov with speedSetpoint := clampInt c.gov.idleRpm c.gov.govMax c.gov.speedSetpoint }
    gauge := { c.gauge with gauging := min c.gauge.gauging c.gauge.spacing }
    prot := { c.prot with warn := min c.prot.warn (c.prot.critical - 50) } }

/-! ### Taking the entries of a SET -/

/-- One field entry taken into the working settings, or none when it is refused. -/
def writeEntry (o : Obj) (e : FieldEntry) (c : Settings) : Option Settings :=
  match (writersOf o).lookup e.field.toNat with
  | none => none
  | some w => w e.value c

/-- Every entry taken in order, or none when one is refused. -/
def writeEntries (o : Obj) : List FieldEntry → Settings → Option Settings
  | [], c => some c
  | e :: es, c =>
    match writeEntry o e c with
    | none => none
    | some c' => writeEntries o es c'

/-- Pairs of field numbers that show one setting (R78, R101, R102): such a pair counts as the same field written
twice. Log entry 18. -/
def sameSetting (o : Obj) : List (Nat × Nat) :=
  match o with
  | .governor => [(12, 24), (13, 25)]
  | .protection => [(1, 40), (5, 41), (9, 42), (13, 43), (17, 44), (30, 39)]
  | _ => []

/-- A field number in its first form. -/
def firstForm (o : Obj) (n : Nat) : Nat :=
  match (sameSetting o).find? (fun p => decide (p.2 = n)) with
  | none => n
  | some p => p.1

/-- Whether no field is written twice (R173). -/
def noRepeats (o : Obj) : List FieldEntry → Bool
  | [] => true
  | e :: es => es.all (fun x => decide (firstForm o x.field.toNat ≠ firstForm o e.field.toNat)) && noRepeats o es

/-- The working settings that a SET asks for, or none when it is refused with BAD_VALUE (R173). R173 refuses a SET that
writes one field twice or names a field number that the object does not have, and gives no result code for either: log
entry 82 (DESIGN CHOICE). -/
def newSettings (o : Obj) (entries : List FieldEntry) (c : Settings) : Option Settings :=
  if noRepeats o entries then
    match writeEntries o entries c with
    | none => none
    | some c' => if settingsSound c' o then some (linkLimits c') else none
  else none

/-- Whether a SET writes a state-locked setting (R174). -/
def writesLocked (o : Obj) (entries : List FieldEntry) : Bool :=
  entries.any (fun e => (lockedFields o).contains e.field.toNat)

end Sys2Proof.Machine
end

