-- ==== Sys2Proof/Machine/SettingEffects.lean ====
section
/-! DEFINITION. What a change of the working settings does to the blocks at its event, the same for SET and RECALL
(R13, R19, R25, R33, R35, R43, R88, R117, R123, R165, R177). -/

namespace Sys2Proof.Machine

/-- The channel table after a change of settings (R13, R19). -/
def retuneInputs (old new : Settings) (i : Inputs) : Inputs :=
  { i with
    analog := i.analog.mapFinIdx (fun k a h => retuneAnalog (old.analog[k]) (new.analog[k]) a)
    discrete := i.discrete.mapFinIdx (fun k d h =>
      if old.polarity[k] ≠ new.polarity[k] then invertDiscrete d else d) }

/-- The port after a change of its bit rate (R25). -/
def retuneBitRate (old new : Settings) (ch : Chassis) : Chassis × List Notice :=
  if old.chassis.bitRate ≠ new.chassis.bitRate then changeBitRate ch else (ch, [])

/-- The port after auto-recovery has been turned on while BUS_OFF (R43). -/
def retuneRecovery (old new : Settings) (ch : Chassis) : Chassis × List Notice :=
  if old.chassis.autoRecovery = false ∧ new.chassis.autoRecovery = true ∧ ch.port = .busOff then startRecovery ch
  else (ch, [])

/-- The port after a change of settings (R25, R33, R35, R43). A change of bit rate is taken before auto-recovery is turned
on, an order that no rule gives: a BUS_OFF port goes to ERROR_ACTIVE at once and there is no recovery to start. Log entry
72 (DESIGN CHOICE). -/
def retuneChassis (old new : Settings) (ch : Chassis) : Chassis × List Notice :=
  let a : Chassis :=
    { ch with rx := ch.rx.mapFinIdx (fun k r h => resetSlot (old.rx[k]) (new.rx[k]) r)
              tx := ch.tx.mapFinIdx (fun k t h => retuneTx (new.tx[k]) t) }
  let b := retuneBitRate old new a
  let c := retuneRecovery old new b.1
  (c.1, b.2 ++ c.2)

/-- The governor after a change of the pressure setpoint in PRESSURE (R88). A setpoint written with its present value is no
change, and leaves the first-step flag: log entry 62 (DESIGN CHOICE). The stored request stands as it is at a change of
idle_rpm or gov_max, in every mode (R98). -/
def retuneGovernor (old new : GovSettings) (g : Governor) : Governor :=
  if old.pressureSetpoint ≠ new.pressureSetpoint ∧ g.mode = .pressure then { g with firstStep := true } else g

/-- The STATUS timer after a change of the report period (R177). -/
def retunePeriod (now : Uptime) (period : Nat) (l : Link) : Link :=
  { l with statusTimer := statusTimerFrom now period, statusDue := l.statusDue && decide (period ≠ 0) }

/-- The link after a change of settings (R165, R177): line settings wait for the end of the reply. -/
def retuneLink (now : Uptime) (old new : LinkSettings) (l : Link) : Link :=
  let l := if old.reportPeriod ≠ new.reportPeriod then retunePeriod now new.reportPeriod l else l
  { l with linePending := decide (new.bitRate ≠ l.lineBitRate) || decide (new.parity ≠ l.lineParity) }

/-- The sequencer after a change of polarity (R19): an inverted feedback is a feedback change, and D3 inverted from 0 to 1
an ENGAGE MAIN request, each before the channel's first sample too (log entry 56, DESIGN CHOICE). -/
def retunePto (old new : Settings) (s : State) : PtoRun :=
  let e := ptoEnv s
  let changed (k : Fin 10) : Bool := decide (old.polarity[k] ≠ new.polarity[k])
  let r := s.ptoRun
  let r := if changed 1 then feedbackChange e .main r else r
  let r := if changed 2 then feedbackChange e .aux r else r
  if changed 3 && s.level 3 then cabEngage e r else r

/-- The state with new working settings, every block having taken its changes. The blocks' reactions to one another
follow as after every event. Where one SET or RECALL changes several settings, the channels and the receive slots take
theirs before an inverted feedback or D3 acts on the sequencer, an order that no rule gives: log entry 77 (DESIGN
CHOICE). -/
def applySettings (new : Settings) (s : State) : State :=
  let old := s.settings
  let now := s.time.uptime
  let ch := retuneChassis old new s.chassis
  let s1 : State := { s with settings := new, inputs := retuneInputs old new s.inputs, chassis := ch.1,
                             gov := retuneGovernor old.gov new.gov s.gov,
                             link := retuneLink now old.link new.link s.link }
  let p := retunePto old new s1
  let pr := retuneProtection now old.gov new.gov old.prot new.prot s.prot
  let g := retuneTanks now old.gauge new.gauge s.gauge
  ({ s1 with pto := p.pto, prot := pr.1, gauge := g.1 } : State).post (ch.2 ++ p.posts ++ pr.2 ++ g.2)

/-- Whether a change of idle_rpm is refused because the ceiling would lie below it with a condition ACTIVE, and the
condition it names (R117, R187). -/
def idleRefusal (new : Settings) (s : State) : Option (Fin 5) :=
  if s.settings.gov.idleRpm < new.gov.idleRpm ∧ s.prot.ceiling.value < new.gov.idleRpm then
    lowestActive s.settings.prot s.prot.conds
  else none

/-- Whether a SET would restart WATER during a fill (R123). -/
def restartsFill (new : Settings) (s : State) : Bool :=
  s.gauge.fill.active && waterGeometryChanged s.settings.gauge new.gauge

end Sys2Proof.Machine
end

