-- ==== Sys2Proof/Machine/Flags.lean ====
section
/-! DEFINITION. The link flags of R167 and the other one-bit marks of the panel link: how they are set and cleared. -/

namespace Sys2Proof.Machine

/-- The reason for which a frame in assembly is discarded (R167). -/
inductive LinkFlag | framing | parity | checksum | overrun
  deriving DecidableEq, Repr

/-- A link flag set (R167): one already set stays set. -/
def Link.setFlag (f : LinkFlag) (l : Link) : Link :=
  match f with
  | .framing => { l with framing := true }
  | .parity => { l with parity := true }
  | .checksum => { l with checksum := true }
  | .overrun => { l with overrun := true }

/-- All four link flags cleared (R167, R169). -/
def Link.clearFlags (l : Link) : Link :=
  { l with framing := false, parity := false, checksum := false, overrun := false }

/-- The frame in assembly discarded with a flag, the receiver hunting again (R167). -/
def Link.discard (f : LinkFlag) (l : Link) : Link := { l with assembly := [], interByte := none }.setFlag f

end Sys2Proof.Machine
end

