-- ==== Sys2Proof/Machine/PanelLink.lean ====
section
/-! DEFINITION. The panel link (09_panel_link.md): frames and their check, the receiver and its buffer, replies and
their parts, the monitors, STATUS, and the transmit arbiter. -/

namespace Sys2Proof.Machine

/-! ### Frames (R166) -/

/-- A frame from its kind, tag and payload: sync, length byte, contents, CRC low byte first (R166). -/
def buildFrame (kind tag : Byte) (payload : List Byte) : List Byte :=
  let inner := u8 (payload.length + 2) ++ [kind, tag] ++ payload
  [0xA5#8] ++ inner ++ u16 (crc16 inner).toNat

/-- The length byte of a frame or of the start of one. -/
def lengthByte (f : List Byte) : Nat := (f.getD 1 0#8).toNat

/-- Whether a complete frame's CRC matches (R166). -/
def crcMatches (f : List Byte) : Bool :=
  let n := lengthByte f
  decide (u16 (crc16 ((f.drop 1).take (n + 1))).toNat = (f.drop (n + 2)).take 2)

/-- The kind, tag and payload of a complete frame (R166). -/
def contentsOf (f : List Byte) : HostFrame :=
  { kind := f.getD 2 0#8, tag := f.getD 3 0#8, payload := (f.drop 4).take (lengthByte f - 2) }

/-! ### Receiving (R167, R168) -/

/-- The gap after which a frame in assembly is discarded (R167). -/
def interByteMs : Nat := 20

/-- The last-heard timestamp set, and with it the silence timer restarted (R167, R190). -/
def heard (s : State) : State :=
  let now := s.time.uptime
  { s with link := { s.link with lastHeard := now }
           power := { s.power with silence := startTimer now (s.settings.linkIdle * 1000) } }

/-- A received frame passed to the receive buffer; with another awaiting execution it is dropped (R168). -/
def bufferFrame (f : HostFrame) (l : Link) : Link :=
  match l.awaiting with
  | none => { l with awaiting := some f }
  | some _ => l.setFlag .overrun

/-- A complete frame: discarded when its CRC does not match, else received (R167, R168). -/
def completeFrame (f : List Byte) (s : State) : State :=
  if crcMatches f then
    let s' := heard { s with link := { s.link with assembly := [], interByte := none } }
    { s' with link := bufferFrame (contentsOf f) s'.link }
  else { s with link := s.link.discard .checksum }

/-- Whether a frame in assembly has all its bytes (R167). -/
def frameComplete (f : List Byte) : Bool := decide (2 ≤ f.length) && decide (f.length = lengthByte f + 4)

/-- Whether the second byte just taken is a length byte that no frame has (R167). -/
def badLength (f : List Byte) : Bool :=
  decide (f.length = 2) && (decide (lengthByte f < 2) || decide (250 < lengthByte f))

/-- One byte received without error (R167). -/
def receiveByte (b : Byte) (s : State) : State :=
  let l := s.link
  if l.assembly.isEmpty then
    if b = 0xA5#8 then
      { s with link := { l with assembly := [b], interByte := startTimer s.time.uptime interByteMs } }
    else s
  else
    let f := l.assembly ++ [b]
    if badLength f then { s with link := l.discard .framing }
    else if frameComplete f then completeFrame f s
    else { s with link := { l with assembly := f, interByte := startTimer s.time.uptime interByteMs } }

/-- A character that arrived damaged (R167): a frame in assembly is discarded, and the flag set in either case. -/
def receiveDamaged (e : CharError) (l : Link) : Link :=
  match e with
  | .framing => l.discard .framing
  | .parity => l.discard .parity

/-! ### Line settings (R165) -/

/-- The line settings put in force (R165): a frame in assembly is discarded with FRAMING. -/
def applyLine (c : LinkSettings) (l : Link) : Link :=
  if l.linePending then
    let l := { l with lineBitRate := c.bitRate, lineParity := c.parity, linePending := false }
    if l.assembly.isEmpty then l else l.discard .framing
  else l

/-! ### Replies (R168, R170) -/

/-- The bytes of a reply's body that one part carries (R170). Log entry 22. -/
def partSize : Nat := 245

/-- The number of parts of a reply's body (R170). -/
def partCount (body : List Byte) : Nat := max 1 ((body.length + (partSize - 1)) / partSize)

/-- One part of a body. -/
def partOf (n : Nat) (body : List Byte) : List Byte := (body.drop (n * partSize)).take partSize

/-- The frame of a reply's part (R170). -/
def replyFrame (r : Reply) (n : Nat) : List Byte :=
  buildFrame 0x81#8 r.tag (u8 (resultCodeCode r.code) ++ u8 n ++ u8 (partCount r.body) ++ partOf n r.body)

/-- A reply put in the reply slot (R168). -/
def putReply (tag : Byte) (code : ResultCode) (body : List Byte) (s : State) : State :=
  { s with link := { s.link with reply := some { tag := tag, code := code, body := body, begun := 0 } } }

/-- Whether the next frame may begin execution as far as the memory goes (R168): while a STORE or a meter write runs it
waits in the buffer, but that a STORE is taken during a meter write and begins its own write when that one completes
(R53, R186). Log entry 61. -/
def memoryServes (f : HostFrame) (n : NonVolatile) : Bool :=
  match n.activity with
  | .idle => true
  | .meterWrite .. => decide (f.kind = kindStore) && f.payload.isEmpty
  | .store => false

/-- Whether a frame may begin execution: the link is served, no frame is being executed, the reply slot is empty, and
the memory serves it (R168). -/
def linkFree (f : HostFrame) (s : State) : Bool :=
  s.working && s.link.executing.isNone && s.link.reply.isNone && memoryServes f s.nv

/-! ### Monitors (R176) -/

/-- The spacing of CHANGE reports. -/
def spacingMs : Nat := 100

/-- A record as its changes are judged: the running down of the resume timer is no change (R176). -/
def changeView (s : State) (o : Obj) : List (List Byte) :=
  readFields { s with prot := { s.prot with ceiling := { s.prot.ceiling with
    steps := s.prot.ceiling.steps.map (fun _ => 1) } } } o

/-- Whether a monitored record has changed between two states (R176). -/
def recordChanged (before s : State) (o : Obj) : Bool := decide (changeView before o ≠ changeView s o)

/-- A ready report added at the end of the list, once. -/
def addReady (o : Obj) (ready : List Obj) : List Obj := if ready.contains o then ready else ready ++ [o]

/-- What a change of a monitored record does to its item (R176). -/
def noteChange (l : Link) (o : Obj) : Link :=
  if l.ready.contains o then l
  else if l.monitors.any (fun m => decide (m.ref = o) && m.spacing.isSome) then
    { l with monitors := l.monitors.map (fun m => if m.ref = o then { m with changePending := true } else m) }
  else { l with ready := l.ready ++ [o] }

/-- The monitors' reaction to an event (R176). Of two reports that become ready at one event, which counts as the first
ready R176 does not say: it is that of the item added first. Log entry 80 (DESIGN CHOICE). -/
def monitorReact (before s : State) : Link :=
  s.link.monitors.foldl (fun l m => if recordChanged before s m.ref then noteChange l m.ref else l) s.link

/-- The expiry of an item's spacing timer (R176). -/
def expireSpacing (i : Fin 4) (l : Link) : Link :=
  match l.monitors[i.val]? with
  | none => l
  | some m =>
    { l with monitors := l.monitors.set i.val { m with spacing := none, changePending := false }
             ready := if m.changePending then addReady m.ref l.ready else l.ready }

/-- The start of a CHANGE report: it leaves the ready list and its item's spacing timer starts (R176). -/
def beginChange (now : Uptime) (o : Obj) (l : Link) : Link :=
  { l with
    ready := l.ready.erase o
    monitors := l.monitors.map (fun m => if m.ref = o then { m with spacing := startTimer now spacingMs } else m) }

/-- The payloads of the frames of a CHANGE report (R176): one frame when the record fits, else several, numbered as
reply parts are. Log entry 23. -/
def changePayloads (s : State) (o : Obj) : List (List Byte) :=
  let head := u8 (objectCode o) ++ u8 (objectIndex o)
  let body := recordBytes s o
  if head.length + body.length ≤ 248 then [head ++ body]
  else
    let size := 244
    let count := (body.length + (size - 1)) / size
    (List.range count).map (fun n => head ++ u8 n ++ u8 count ++ (body.drop (n * size)).take size)

/-! ### STATUS (R177) -/

/-- A channel in STATUS: its state and its engineering value, absent as 0x7FFF. -/
def statusChannel (a : AnalogChan) : List Byte := u8 (channelStateCode a.state) ++ noticeS16 a.eng

/-- A tank in STATUS: its reported volume, absent as 0xFFFF, and its state. -/
def statusTank (t : Tank) : List Byte := noticeU16 t.reported ++ u8 (tankStateCode t.state)

/-- The contents of STATUS, in the order of R177. Log entry 21. -/
def statusPayload (s : State) : List Byte :=
  u8 (driveStateCode s.pto.main.state) ++ u8 (driveStateCode s.pto.aux.state) ++ u8 (govModeCode s.gov.mode) ++
  rpmField s.engineRequest ++
  statusChannel (s.inputs.analog[(0 : Fin 10)]) ++ statusChannel (s.inputs.analog[(1 : Fin 10)]) ++
  statusChannel (s.inputs.analog[(2 : Fin 10)]) ++
  statusTank s.gauge.water ++ statusTank s.gauge.foamA ++ statusTank s.gauge.foamB ++
  u8 (actionStateCode s.lock.inhibit.state) ++ u8 (actionStateCode s.lock.rollLimit.state) ++
  u8 (actionStateCode s.lock.idleCap.state) ++ u8 (portStateCode s.chassis.port) ++
  u8 (powerStateCode s.power.state) ++ bool8 s.notices.lost

/-! ### The arbiter (R178) -/

/-- What the arbiter may send next (R178). -/
inductive TxChoice
  | replyPart (r : Reply)
  | notice (at_ : Nat) (e : Entry)
  | changePart (bytes : List Byte) (rest : List (List Byte))
  | change (o : Obj)
  | status
  deriving DecidableEq, Repr

/-- The place and contents of the oldest unsent entry that passes a test. -/
def oldestUnsent (p : NoticeClass → Bool) : Nat → List Entry → Option (Nat × Entry)
  | _, [] => none
  | n, e :: es => if !e.sending && p e.cls then some (n, e) else oldestUnsent p (n + 1) es

/-- Whether a reply has a part that has not begun. -/
def replyWaiting (l : Link) : Option Reply :=
  match l.reply with
  | some r => if r.begun < partCount r.body then some r else none
  | none => none

/-- A CHANGE frame that is ready: the rest of one begun, else the oldest ready report. -/
def changeWaiting (l : Link) : Option TxChoice :=
  match l.changeTail, l.ready with
  | b :: rest, _ => some (.changePart b rest)
  | [], o :: _ => some (.change o)
  | [], [] => none

/-- A notice that waits, of a class that passes a test. -/
def noticeWaiting (p : NoticeClass → Bool) (q : NoticeQueue) : Option TxChoice :=
  (oldestUnsent p 0 q.entries).map (fun x => .notice x.1 x.2)

/-- The arbiter's choice (R178): a reply, an ALARM, a CHANGE report, another notice, STATUS. -/
def arbiter (l : Link) (q : NoticeQueue) : Option TxChoice :=
  match replyWaiting l with
  | some r => some (.replyPart r)
  | none =>
    match noticeWaiting (fun c => decide (c = .alarm)) q with
    | some c => some c
    | none =>
      match changeWaiting l with
      | some c => some c
      | none =>
        match noticeWaiting (fun c => decide (c ≠ .alarm)) q with
        | some c => some c
        | none => if l.statusDue then some .status else none

/-- An unsolicited frame put on the line: it carries the sequence number, which then goes up by 1 (R166). -/
def sendUnsolicited (k : TxKind) (kind : Byte) (payload : List Byte) (l : Link) : Link :=
  { l with tx := some { kind := k, bytes := buildFrame kind l.seq payload }, seq := l.seq + 1#8 }

/-- The contents of a notice frame (R178). -/
def noticePayload (e : Entry) : List Byte :=
  u8 (noticeKindCode e.kind) ++ u8 (noticeClassCode e.cls) ++ u8 e.subject ++ up32 e.stamp ++ u8 e.repeats ++ e.detail

/-- The start of the chosen frame (R166, R176 to R178, R182). -/
def beginFrame (s : State) : TxChoice → State
  | .replyPart r =>
    { s with link := { s.link with tx := some { kind := .reply, bytes := replyFrame r r.begun }
                                   reply := some { r with begun := r.begun + 1 } } }
  | .notice n e =>
    { s with notices := { s.notices with entries := s.notices.entries.set n { e with sending := true } }
             link := sendUnsolicited .notice 0x82#8 (noticePayload e) s.link }
  | .changePart b rest =>
    { s with link := sendUnsolicited .change 0x84#8 b ({ s.link with changeTail := rest }) }
  | .change o =>
    let ps := changePayloads s o
    let l := { beginChange s.time.uptime o s.link with changeTail := ps.tail }
    { s with link := sendUnsolicited .change 0x84#8 (ps.headD []) l }
  | .status =>
    { s with link := sendUnsolicited .status 0x83#8 (statusPayload s) ({ s.link with statusDue := false })
             notices := { s.notices with lost := false } }

/-- The reply slot after a reply frame has ended: empty when it was the last part (R170). -/
def replyAfter (r : Reply) : Option Reply := if partCount r.body ≤ r.begun then none else some r

/-- The end of the frame on the line (R165, R170, R178, R180). -/
def endFrame (s : State) : State :=
  match s.link.tx with
  | none => s
  | some f =>
    let l := { s.link with tx := none }
    match f.kind with
    | .reply =>
      match l.reply with
      | none => { s with link := applyLine s.settings.link l }
      | some r =>
        let l := { l with reply := replyAfter r }
        { s with link := if l.reply.isNone then applyLine s.settings.link l else l }
    | .notice => { s with link := l, notices := { s.notices with entries := s.notices.entries.filter (fun e => !e.sending) } }
    | _ => { s with link := l }

/-! ### Link restart, WATCH and wake (R169, R179) -/

/-- A STORE in progress whose reply is to be discarded (R169). -/
def discardStoreReply : Option Executing → Option Executing
  | some (.store tag _) => some (.store tag true)
  | other => other

/-- The reply slot at a link restart: a reply not begun is discarded (R169). -/
def keepBegun : Option Reply → Option Reply
  | some r => if r.begun = 0 then none else some r
  | none => none

/-- The link at a link restart (R165, R169). -/
def restartLink (now : Uptime) (c : LinkSettings) (l : Link) : Link :=
  let reply := keepBegun l.reply
  let cut := { l with assembly := [], interByte := none, awaiting := none, reply := reply,
                      executing := discardStoreReply l.executing }
  let cut := if l.reply.isSome ∧ reply.isNone then applyLine c cut else cut
  { cut.clearFlags with monitors := [], ready := [], changeTail := [], seq := 0, lastHeard := now }

/-- The reply slot at entry to WATCH: only a reply whose last part is on the line stays until that frame's end. -/
def keepLastPart (l : Link) : Option Reply :=
  match l.reply, l.tx with
  | some r, some f => if f.kind = .reply ∧ partCount r.body ≤ r.begun then some r else none
  | _, _ => none

/-- The link at entry to WATCH (R165, R179), a starting point, at which the unsolicited sequence number is 0 (R166): what is
being executed goes on, a STORE without its reply (log entry 39) and a RESTART to its meter write and the restart (R189, log
entry 38). -/
def linkToWatch (c : LinkSettings) (l : Link) : Link :=
  let reply := keepLastPart l
  let cut := { l with assembly := [], interByte := none, awaiting := none, reply := reply,
                      executing := discardStoreReply l.executing, changeTail := [], statusTimer := none, seq := 0,
                      monitors := l.monitors.map (fun m => { m with spacing := none }) }
  if l.reply.isSome ∧ reply.isNone then applyLine c cut else cut

/-- The link at the end of WAKING (R179): as at power-on, but that a frame on the line finishes (R178), and that a STORE
or a RESTART being executed goes on. Log entries 38 and 50. -/
def linkAfresh (now : Uptime) (c : LinkSettings) (l : Link) : Link :=
  { linkStart now c with tx := l.tx, executing := discardStoreReply l.executing }

end Sys2Proof.Machine
end

