-- ==== Sys2Proof/Machine/Store.lean ====
section
/-! DEFINITION. The non-volatile memory (R53, R186): meter writes, STOREs, and what a loss of supply leaves; and the
millisecond of the time base with its meters (R46, R47, R51). -/

namespace Sys2Proof.Machine

/-! ### The millisecond (R46, R47, R51, R52) -/

/-- The value at which a meter saturates (R52). -/
def meterTop : Nat := 99999999

/-- The milliseconds of 0.01 h (R51). -/
def meterUnit : Nat := 36000

/-- One millisecond counted by a meter (R51, R52). -/
def tickMeter (m : Meter) : Meter :=
  if meterTop ≤ m.value then { m with remainder := 0 }
  else if meterUnit ≤ m.remainder + 1 then { m with value := m.value + 1, remainder := 0 }
  else { m with remainder := m.remainder + 1 }

/-- A meter after one millisecond, counting or not. -/
def countMeter (counts : Bool) (m : Meter) : Meter := if counts then tickMeter m else m

/-- Whether a meter has just reached its written value plus 10 (R53). -/
def meterDue (old new : Meter) : Bool := decide (new.value ≠ old.value) && decide (new.value = new.written + 10)

/-- Whether a drive's pumping meter counts (R51). -/
def driveCounts (s : State) (d : DriveId) : Bool :=
  s.working && decide ((s.pto.drive d).state = .engaged) && (s.pto.drive d).ready

/-- Whether the ROLL meter counts (R51). -/
def rollCounts (s : State) : Bool := s.working && decide (s.gov.mode = .roll)

/-- The trim remainder and the length of the next millisecond (R47). -/
def trimStep (trim remainder : Int) : Int × Nat :=
  let r := remainder + trim
  if 1000 ≤ r then (r - 1000, 1001) else if r ≤ -1000 then (r + 1000, 999) else (r, 1000)

/-- The end of a millisecond (R46, R47, R51, R53). -/
def endMillisecond (s : State) : TimeBase :=
  let t := s.time
  let m := countMeter (driveCounts s .main) t.mainPumping
  let a := countMeter (driveCounts s .aux) t.auxPumping
  let r := countMeter (rollCounts s) t.roll
  let x := trimStep s.settings.trim t.trimRemainder
  { t with
    uptime := t.uptime + 1#32, trimRemainder := x.1, step := x.2, mainPumping := m, auxPumping := a, roll := r
    writeDue := t.writeDue || meterDue t.mainPumping m || meterDue t.auxPumping a || meterDue t.roll r }

/-! ### Meter writes and STOREs (R53, R186) -/

/-- Whether a RESTART has gone on to its meter write (R189). -/
def restartProceeding (l : Link) : Bool :=
  match l.executing with
  | some (.restart true) => true
  | _ => false

/-- Whether a due meter write can begin: the memory is free and no STORE waits for it (R53). One write serves every case
for which a write is due: log entry 55 (DESIGN CHOICE). -/
def mayWriteMeters (s : State) : Bool :=
  decide (s.nv.activity = .idle) && s.time.writeDue && !s.nv.storeWaiting

/-- The start of a meter write (R53): it carries the meter values as they stand. -/
def beginMeterWrite (s : State) : State :=
  { s with
    nv := { s.nv with activity := .meterWrite s.time.mainPumping.value s.time.auxPumping.value s.time.roll.value
                        s.power.watchPending (restartProceeding s.link)
                      metersIntact := false }
    time := { s.time with writeDue := false } }

/-- The start of a STORE's write (R186): the working settings go into the stored copy, which is not valid until the
write completes. -/
def beginStore (s : State) : State :=
  { s with nv := { s.nv with activity := .store, stored := s.settings, storedIntact := false, storeWaiting := false }
           store := { s.store with copy := .writing } }

/-- A STORE taken by the memory: at once when it is free, else after the meter write in progress (R53, R186). -/
def takeStore (s : State) : State :=
  if s.nv.activity = .idle then beginStore s else { s with nv := { s.nv with storeWaiting := true } }

/-- The records after a meter write of three values (R53); a STORE that waits begins. -/
def finishMeterWrite (m a r : Nat) (s : State) : State :=
  let t := s.time
  let s' : State :=
    { s with
      nv := { s.nv with activity := .idle, meterMain := m, meterAux := a, meterRoll := r, metersIntact := true }
      time := { t with mainPumping := { t.mainPumping with written := m }, auxPumping := { t.auxPumping with written := a },
                       roll := { t.roll with written := r }, blockState := .valid, lastWrite := t.uptime } }
  if s'.nv.storeWaiting then beginStore s' else s'

/-- The end of a STORE's execution: its reply OK, or none when it has been discarded (R168, R169, R186). -/
def answerStore (s : State) : State :=
  match s.link.executing with
  | some (.store tag discarded) =>
    let s' : State := { s with link := { s.link with executing := none } }
    if discarded then s' else putReply tag .ok [] s'
  | _ => s

/-- The completion of a STORE (R186). -/
def finishStore (s : State) : State :=
  answerStore
    { s with nv := { s.nv with activity := .idle, storedIntact := true }
             store := { s.store with copy := .valid, stores := min 65535 (s.store.stores + 1) } }

/-- A meter write in progress no longer carries an entry to WATCH (R192). -/
def cancelWatchWrite (n : NonVolatile) : NonVolatile :=
  match n.activity with
  | .meterWrite m a r _ fr => { n with activity := .meterWrite m a r false fr }
  | _ => n

/-- The non-volatile memory after a loss of supply (R53, R186): a write in progress is lost, and what it was writing is
left not intact. -/
def loseWrite (n : NonVolatile) : NonVolatile := { n with activity := .idle, storeWaiting := false }

end Sys2Proof.Machine
end

