-- ==== Sys2Proof/Machine/PowerController.lean ====
section
/-! DEFINITION. The power controller (R190 to R193) and the starting points: power-on, RESTART, entry to WATCH, WAKING
and wake, each gathering what the chapters give the blocks there. -/

namespace Sys2Proof.Machine

/-! ### Power-on and RESTART (R46, R54, R179, R183, R185, R189) -/

/-- The working settings loaded at power-on and RESTART: the stored copy, or the factory defaults (R185). -/
def loadedSettings (n : NonVolatile) : Settings := if n.storedIntact then n.stored else factorySettings

/-- The notice of defaults loaded, if they were (R185). -/
def defaultsNotice (n : NonVolatile) : List Notice := if n.storedIntact then [] else [noticeSettingsDefaulted]

/-- The time base at power-on (R46, R54). -/
def timeAtPowerOn (n : NonVolatile) : TimeBase :=
  let v (x : Nat) : Meter := meterAtPowerOn (if n.metersIntact then x else 0)
  { uptime := 0, trimRemainder := 0, step := 1000, mainPumping := v n.meterMain, auxPumping := v n.meterAux,
    roll := v n.meterRoll, blockState := if n.metersIntact then .valid else .defaulted, lastWrite := 0,
    writeDue := !n.metersIntact }

/-- The settings record at power-on and RESTART (R185). -/
def storeRecordAt (n : NonVolatile) (stores : Nat) : StoreRecord :=
  { copy := if n.storedIntact then .valid else .invalid, source := if n.storedIntact then .stored else .defaults,
    stores := stores }

/-- Every block at power-on or RESTART, at an uptime and on given settings: what the two starting points share. -/
def blocksAfresh (now : Uptime) (c : Settings) (s : State) : State :=
  { s with
    settings := c
    inputs := inputsStart c
    chassis := chassisStart c
    pto := { main := driveStart now, aux := driveStart now }
    gov := governorStart now c.gov
    prot := protectionStart now c.gov
    gauge := gaugeStart now c.gauge
    lock := lockoutStart now
    notices := { entries := [], lost := false }
    power := powerStart now c.linkIdle
    outputs := outputsOff }

/-- Power-on (R46): uptime 0, the settings and meters from the non-volatile memory, every block afresh. A supply already
present is lost first: log entry 10. -/
def powerUp (s : State) : State :=
  let n := loseWrite s.nv
  let c := loadedSettings n
  ({ blocksAfresh 0 c s with
     powered := true, time := timeAtPowerOn n, nv := n, link := linkStart 0 c.link, store := storeRecordAt n 0 }
    : State).post
    (noticeLinkReady .powerOn :: defaultsNotice n ++ (if n.metersIntact then [] else [noticeMetersDefaulted]))

/-- The restart of the part (R189): uptime, trim remainder, meters and stores completed go on. So do the uptime of the last
completed meter write and the meter block state, which R189 and R54 do not name among what goes on: log entry 81 (DESIGN
CHOICE). -/
def restartPart (s : State) : State :=
  let now := s.time.uptime
  let c := loadedSettings s.nv
  ({ blocksAfresh now c s with link := { linkStart now c.link with tx := s.link.tx }
                               store := storeRecordAt s.nv s.store.stores } : State).post
    (noticeLinkReady .restart :: defaultsNotice s.nv)

/-- The loss of the supply (R53, R186): the outputs fall, and a write in progress is lost. Log entry 11. -/
def loseSupply (s : State) : State := { s with powered := false, nv := loseWrite s.nv, outputs := outputsOff }

/-! ### Entry to WATCH, WAKING, wake (R22, R45, R76, R100, R119, R145, R164, R179, R192, R193) -/

/-- The governor at entry to WATCH (R100): OFF, and its step events stop. -/
def governorToWatch (c : GovSettings) (g : Governor) : Governor :=
  { enterOff c g with governed := none, next := none }

/-- Entry to WATCH by a cause (R192): every block takes its WATCH state. -/
def enterWatch (cause : PowerCause) (s : State) : State :=
  let now := s.time.uptime
  let f := endFill now .power s.gauge
  let p := ptoToWatch (ptoEnv s) s.ptoRun
  ({ s with
     inputs := inputsToWatch s.inputs, chassis := chassisToWatch s.chassis, pto := p.pto,
     gov := governorToWatch s.settings.gov s.gov, prot := protectionToWatch s.prot, gauge := gaugeToWatch now f.1,
     lock := lockoutToWatch s.lock, link := linkToWatch s.settings.link s.link
     power := { s.power with state := .watch, entered := now, watchPending := false, rundown := none, lastWake := .none } }
    : State).post (f.2 ++ p.posts ++ [noticePowerState .watch cause])

/-- The settling period of the oscillator (R48). -/
def settlingMs : Nat := 20

/-- The start of WAKING (R193). -/
def beginWaking (wake : WakeCause) (cause : PowerCause) (s : State) : State :=
  let now := s.time.uptime
  ({ s with power := { s.power with state := .waking, entered := now, lastWake := wake,
                                    settling := startTimer now settlingMs } } : State).post
    [noticePowerState .waking cause]

/-- The power record at the end of WAKING (R190). -/
def powerAwake (now : Uptime) (linkIdle : Nat) (p : Power) : Power :=
  { powerStart now linkIdle with lastWake := p.lastWake }

/-- The end of WAKING (R193): AWAKE, and each block takes its wake state. -/
def wakePart (s : State) : State :=
  let now := s.time.uptime
  let c := s.settings
  ({ s with
     inputs := inputsStart c, chassis := chassisStart c, pto := { main := driveStart now, aux := driveStart now }
     gov := governorStart now c.gov, prot := protectionStart now c.gov, gauge := gaugeWake now s.gauge,
     lock := lockoutWake now s.lock, link := linkAfresh now c.link s.link
     power := powerAwake now c.linkIdle s.power } : State).post
    [noticePowerState .awake .settled, noticeLinkReady .wake]

/-! ### Following the ignition (R190 to R192) -/

/-- Whether D8 has had its first sample since the starting point (R190). -/
def ignitionKnown (s : State) : Bool := !(s.inputs.discrete[(8 : Fin 10)]).awaitFirst

/-- Whether the link is silent: its silence timer has expired (R190). -/
def linkSilent (s : State) : Bool := s.power.silence.isNone

/-- The conditions under which AWAKE leads toward WATCH (R190). -/
def awakeToWatch (s : State) : Bool :=
  !s.level 8 && s.drivesReleased && !s.gauge.fill.active && linkSilent s

/-- The rundown time (R191). -/
def rundownMs : Nat := 30000

/-- Entry to RUNDOWN (R191): the rundown release, and the end of a fill. -/
def enterRundown (s : State) : State :=
  let now := s.time.uptime
  let s1 : State := { s with power := { s.power with state := .rundown, entered := now, watchPending := false,
                                                     rundown := startTimer now rundownMs }
                             nv := cancelWatchWrite s.nv }
  let p := rundownRelease (ptoEnv s1) s1.ptoRun
  let f := endFill now .power s1.gauge
  ({ s1 with pto := p.pto, gauge := f.1 } : State).post (noticePowerState .rundown .ignitionOff :: p.posts ++ f.2)

/-- The return from RUNDOWN to AWAKE (R191). -/
def leaveRundown (s : State) : State :=
  ({ s with power := { s.power with state := .awake, entered := s.time.uptime, watchPending := false, rundown := none }
            nv := cancelWatchWrite s.nv } : State).post [noticePowerState .awake .ignitionOn]

/-- Proceeding toward WATCH (R192): watch pending set and a meter write due. The rundown timer is cancelled (R191). -/
def towardWatch (cause : PowerCause) (s : State) : State :=
  { s with power := { s.power with watchPending := true, watchCause := cause, rundown := none }
           time := { s.time with writeDue := true } }

/-- The power controller's reaction to an event in AWAKE or RUNDOWN (R190, R191). -/
def powerReact (s : State) : State :=
  if ignitionKnown s then
    match s.power.state with
    | .awake =>
      if !s.level 8 && !s.drivesReleased then enterRundown s
      else if awakeToWatch s && !s.power.watchPending then towardWatch .linkSilent s
      else s
    | .rundown =>
      if s.level 8 then leaveRundown s
      else if s.drivesReleased && !s.power.watchPending then towardWatch .drivesReleased s
      else s
    | _ => s
  else s

/-- The completion of the meter write that an entry to WATCH waits for (R192): from AWAKE only if its conditions still
hold, from RUNDOWN always. -/
def watchWriteDone (s : State) : State :=
  let s' : State := { s with power := { s.power with watchPending := false } }
  match s.power.state with
  | .awake => if awakeToWatch s then enterWatch s.power.watchCause s' else s'
  | .rundown => enterWatch s.power.watchCause s'
  | _ => s'

/-! ### The outputs (00_scope.md, R57, R109 to R111, R137, R143, R157) -/

/-- Whether a drive's solenoid is energised in a working part (R57). -/
def solenoidOn : DriveState → Bool
  | .shifting | .settling | .engaged | .windingDown => true
  | _ => false

/-- The outputs as the records stand. -/
def outputsOf (s : State) : Outputs :=
  if s.working then
    { o0 := solenoidOn s.pto.main.state, o1 := solenoidOn s.pto.aux.state, o2 := permit s.lock s.power.state,
      o3 := s.gauge.fill.active, o4 := dumpOpen s.prot, o5 := s.prot.recirc,
      o6 := lampLit s.settings.prot s.prot s.inputs, o7 := false }
  else { outputsOff with o7 := s.powered && s.gauge.leak.leak }

/-- The state with its outputs refreshed. -/
def refreshOutputs (s : State) : State := { s with outputs := outputsOf s }

end Sys2Proof.Machine
end

