-- ==== Sys2Proof/Machine/Settle.lean ====
section
/-! DEFINITION. What follows within an event: after a command has had its own effect, each block takes the changes of
the records it reads, at that same event, in one fixed order. Log entry 13. -/

namespace Sys2Proof.Machine

/-- The park brake agreement monitor takes the changes of its sources (R20). -/
def settleBrake (before s : State) : State := { s with inputs := { s.inputs with brake := brakeReact before s } }

/-- The fill takes the loss of its transducers or of the standing vehicle (R139). -/
def settleFill (before s : State) : State :=
  let r := fillReact before s
  ({ s with gauge := r.1 } : State).post r.2

/-- The sequencer takes the changes of its sources (R58 to R67). -/
def settlePto (before s : State) : State := s.withPto (ptoReact before s)

/-- The governor takes the changes of the drives, the vehicle and the port (R79 to R85). -/
def settleGovernor (s : State) : State :=
  let r := governorReact s
  ({ s with gov := r.1 } : State).post r.2

/-- The protection monitor takes the changes of A7, A1, the request and the governed drive (R104, R110). -/
def settleProtection (before s : State) : State := { s with prot := protReact before s }

/-- The lockout unit takes the changes of its sources (R148). -/
def settleLockout (s : State) : State :=
  let r := lockoutReact s
  ({ s with lock := r.1 } : State).post r.2

/-- T0 and T1 fall due at the changes that R37 and R38 name. -/
def settleChassis (before s : State) : State := { s with chassis := chassisReact before s }

/-- The monitored records are compared with what they were (R176). -/
def settleMonitors (before s : State) : State := { s with link := monitorReact before s }

/-- The readers of the drive records and the fill record take an event's own changes (R38, R148, R176), before the power
controller and the sequencer act on them: a drive that leaves DISENGAGED and is sent back at the same event has left
it. -/
def settleReaders (before s : State) : State := settleMonitors before (settleChassis before (settleLockout s))

/-- What the power controller, the sequencer and the readers of their records do with those changes. -/
def settleRest (before mid : State) : State :=
  let s := powerReact (settlePto before (powerReact mid))
  let s := settleChassis mid (settleLockout (settleProtection before (settleGovernor s)))
  settleMonitors mid (refreshOutputs s)

/-- Everything that follows within an event in a part that is AWAKE or in RUNDOWN. -/
def settleWorking (before s : State) : State :=
  settleRest before (settleReaders before (settleFill before (settleBrake before s)))

/-- Everything that follows within an event: in WATCH, WAKING and without supply no block takes changes, and only the
outputs follow. -/
def settle (before s : State) : State := if s.working then settleWorking before s else refreshOutputs s

/-- What an event that is no starting point comes to in a part with supply: its own effect, then what follows. -/
def event (f : State → State) (s : State) : State := if s.powered then settle s (f s) else s

/-- An event of a working part: without effect outside AWAKE and RUNDOWN. -/
def workingEvent (f : State → State) (s : State) : State := event (fun s => if s.working then f s else s) s

end Sys2Proof.Machine
end

