-- ==== Sys2Proof/Machine/Requests.lean ====
section
/-! DEFINITION. The host requests (R171): what each does and what it answers, the judging of a frame by its kind and
length, and how a request comes to execution. -/

namespace Sys2Proof.Machine

/-- What the execution of a request comes to: the state it leaves, and its reply; a STORE has none until it
completes (R168, R170). -/
structure Answer where
  state : State
  reply : Option (ResultCode × List Byte)

/-- An answer with a body. -/
def say (code : ResultCode) (body : List Byte) (s : State) : Answer := { state := s, reply := some (code, body) }

/-- An answer without a body: a refusal, or a result that carries none. -/
def plain (code : ResultCode) (s : State) : Answer := say code [] s

/-- OK, or OK_CLAMPED when the applied value is not the one given (R3). -/
def okOr (clamped : Bool) : ResultCode := if clamped then .okClamped else .ok

/-! ### PTO, governor and protection requests -/

/-- ENGAGE (R59). -/
def handleEngage (drive : Byte) (s : State) : Answer :=
  match driveOf drive with
  | none => plain .badValue s
  | some d =>
    let r := engageDrive (ptoEnv s) d s.ptoRun
    plain r.2 (s.withPto r.1)

/-- DISENGAGE (R66). -/
def handleDisengage (drive : Byte) (s : State) : Answer :=
  match driveOf drive with
  | none => plain .badValue s
  | some d =>
    let r := disengageDrive (ptoEnv s) d s.ptoRun
    plain r.2 (s.withPto r.1)

/-- FAULT_CLEAR (R74); refused on its feedback, it names no condition (R170). -/
def handleFaultClear (drive : Byte) (s : State) : Answer :=
  match driveOf drive with
  | none => plain .badValue s
  | some d =>
    let r := clearFault (ptoEnv s) d s.ptoRun
    say r.2 (if r.2 = .refusedCondition then [0xFF#8] else []) (s.withPto r.1)

/-- GOVERN PRESSURE with its setpoint (R87). -/
def handleGovernPressure (setpoint : Int) (s : State) : Answer :=
  if governAccepted s then
    let v := clampInt 200 2400 setpoint
    say (okOr (decide (v ≠ setpoint))) (s16 v)
      { s with settings := { s.settings with gov := { s.settings.gov with pressureSetpoint := v } }
               gov := governPressure s.gov }
  else plain .refusedState s

/-- GOVERN SPEED with its setpoint (R87). -/
def handleGovernSpeed (setpoint : Int) (s : State) : Answer :=
  if governAccepted s then
    let v := clampInt s.settings.gov.idleRpm s.settings.gov.govMax setpoint
    say (okOr (decide (v ≠ setpoint))) (s16 v)
      { s with settings := { s.settings with gov := { s.settings.gov with speedSetpoint := v } }
               gov := governSpeed s.gov }
  else plain .refusedState s

/-- GOVERN (R87, R171). -/
def handleGovern (mode : Byte) (setpoint : BitVec 16) (s : State) : Answer :=
  if mode = 2#8 then handleGovernPressure setpoint.toInt s
  else if mode = 3#8 then handleGovernSpeed setpoint.toInt s
  else plain .badValue s

/-- PUMP_IDLE (R89). -/
def handlePumpIdle (s : State) : Answer :=
  match s.gov.mode with
  | .pressure | .speed | .hold => plain .ok { s with gov := enterIdle s.gov }
  | .idle => plain .ok s
  | .off | .roll => plain .refusedState s

/-- The result code of RESUME (R116). -/
def resumeCode (governor : Bool) (monitor : ResumePart) : ResultCode :=
  if governor = true ∨ monitor = .accepted then .ok
  else match monitor with
    | .refused _ => .refusedCondition
    | _ => .refusedState

/-- The body of RESUME's reply: governor part, monitor part, condition (R171). Log entry 20. -/
def resumeBody (governor : Bool) (monitor : ResumePart) : List Byte :=
  u8 (if governor then 2 else 3) ++
  (match monitor with
   | .accepted => u8 2 ++ u8 0xFF
   | .refused c => u8 4 ++ u8 c.val
   | .notLatched => u8 10 ++ u8 0xFF)

/-- RESUME (R90, R116). -/
def handleResume (s : State) : Answer :=
  let g := resumeGovernor s
  let m := resumePart s
  say (resumeCode g.isSome m) (resumeBody g.isSome m)
    { s with gov := g.getD s.gov
             prot := { s.prot with ceiling := if m = .accepted then resumeCeiling s.time.uptime s.prot.ceiling
                                              else s.prot.ceiling } }

/-! ### Lockout, tank and chassis requests -/

/-- RELEASE (R155). Refused while the contributing set is empty, it names no condition and its body is empty: log entry
59 (DESIGN CHOICE). -/
def handleRelease (action : Byte) (s : State) : Answer :=
  match actionOf action with
  | none => plain .badValue s
  | some a =>
    let r := releaseAction s.time.uptime a s.lock
    say r.2.2.1 (optField (fun c => u8 c.val) r.2.2.2) (({ s with lock := r.1 } : State).post r.2.1)

/-- FORCE (R156). -/
def handleForce (value : Byte) (s : State) : Answer :=
  if value = 0#8 then plain .ok { s with lock := { s.lock with forced := false } }
  else if value = 1#8 then plain .ok { s with lock := { s.lock with forced := true } }
  else plain .badValue s

/-- FILL START (R137). -/
def handleFillStart (target : BitVec 16) (s : State) : Answer :=
  if fillAllowed s then
    let v := min target.toNat (capacityOf s.settings.gauge.water.strap)
    let r := startFill s.time.uptime s.settings.gauge v s.gauge
    say (if v = target.toNat then .accepted else .okClamped) (u16 v) (({ s with gauge := r.1 } : State).post r.2)
  else plain .refusedState s

/-- FILL STOP (R139): OK without effect when no fill is active. -/
def handleFillStop (s : State) : Answer :=
  let r := endFill s.time.uptime .stopped s.gauge
  plain .ok (({ s with gauge := r.1 } : State).post r.2)

/-- The tank a foam selection names. -/
def foamTank : FoamSel → Option TankId
  | .off => none
  | .foamA => some .foamA
  | .foamB => some .foamB

/-- The foam ratio setting of a foam tank (R121). -/
def foamRatioSetting (c : GaugeSettings) : FoamSel → Nat
  | .foamB => c.ratioB
  | _ => c.ratioA

/-- FOAM naming a tank that is fitted (R133). -/
def selectFoam (sel : FoamSel) (ratio : Option Byte) (s : State) : Answer :=
  match ratio with
  | none =>
    let v := foamRatioSetting s.settings.gauge sel
    say .ok (u8 v) { s with gauge := { s.gauge with foam := sel, ratio := v } }
  | some r =>
    let v := clampNat 1 60 r.toNat
    say (okOr (decide (v ≠ r.toNat))) (u8 v) { s with gauge := { s.gauge with foam := sel, ratio := v } }

/-- FOAM (R133). OFF leaves the ratio of the foam-use record and answers with it: log entry 41. -/
def handleFoam (selection : Byte) (ratio : Option Byte) (s : State) : Answer :=
  match foamOf selection with
  | none => plain .badValue s
  | some sel =>
    match foamTank sel with
    | none => say .ok (u8 s.gauge.ratio) { s with gauge := { s.gauge with foam := .off } }
    | some t => if (s.gauge.tank t).state = .absent then plain .refusedState s else selectFoam sel ratio s

/-- CHASSIS_RECOVER (R43). -/
def handleRecover (s : State) : Answer :=
  if s.chassis.port = .busOff then
    let r := startRecovery s.chassis
    plain .ok (({ s with chassis := r.1 } : State).post r.2)
  else plain .refusedState s

/-! ### Objects (R172 to R176) -/

/-- READ (R173): a READ of LINK clears the link flags once its reply has been built (R167). -/
def handleRead (object index : Byte) (s : State) : Answer :=
  match objectOf object.toNat index.toNat with
  | none => plain .badObject s
  | some .link => say .ok (recordBytes s .link) { s with link := s.link.clearFlags }
  | some o => say .ok (recordBytes s o) s

/-- One record of a SNAPSHOT: object code, index, 2-byte length, field entries (R175). -/
def snapshotRecord (s : State) (o : Obj) : List Byte :=
  u8 (objectCode o) ++ u8 (objectIndex o) ++ u16 (recordBytes s o).length ++ recordBytes s o

/-- The records of a SNAPSHOT in order (R175). -/
def snapshotObjects : List Obj :=
  [.drive .main, .drive .aux, .governor, .protection, .tank .water, .tank .foamA, .tank .foamB,
   .action .inhibit, .action .rollLimit, .action .idleCap,
   .quantity 0, .quantity 1, .quantity 2, .quantity 3, .quantity 4, .quantity 5]

/-- SNAPSHOT (R175). -/
def handleSnapshot (s : State) : Answer :=
  say .ok (up32 s.time.uptime ++ (snapshotObjects.map (snapshotRecord s)).flatten) s

/-- The field of a record by its number, counted from 1. -/
def fieldAt (fs : List (List Byte)) (n : Nat) : List Byte := fs.getD (n - 1) []

/-- One line of a SET's reply: the field number, its value before and its value after, each with its length. Log entry
17. -/
def changeLine (before after : List (List Byte)) (n : Nat) : List Byte :=
  u8 n ++ u8 (fieldAt before n).length ++ fieldAt before n ++ u8 (fieldAt after n).length ++ fieldAt after n

/-- The numbers of the fields that differ and were not written. -/
def furtherFields (written : List Nat) (before after : List (List Byte)) : List Nat :=
  (List.range before.length).map (· + 1) |>.filter (fun n =>
    decide (fieldAt before n ≠ fieldAt after n) && !written.contains n)

/-- Whether a field written came out other than it was written (R173). An action set is a set: neither its order nor an
action that it names twice is a difference, so such a SET is answered OK. Log entry 75 (DESIGN CHOICE). -/
def cameOutOther (o : Obj) (after : List (List Byte)) (e : FieldEntry) : Bool :=
  match o with
  | .condition _ => false
  | _ => decide (fieldAt after e.field.toNat ≠ e.value)

/-- An accepted SET (R173): the settings applied at one event, and the reply with every field written and every further
field that the event changed. -/
def acceptSet (o : Obj) (entries : List FieldEntry) (new : Settings) (s : State) : Answer :=
  let s' := applySettings new s
  let before := readFields s o
  let after := readFields (settle s s') o
  let written := entries.map (fun e => e.field.toNat)
  say (okOr (entries.any (cameOutOther o after)))
    ((written ++ furtherFields written before after).map (changeLine before after)).flatten s'

/-- SET (R173, R174): the object, the state lock, the values, then the owning block's state (R171). -/
def handleSet (object index : Byte) (entries : List FieldEntry) (s : State) : Answer :=
  match objectOf object.toNat index.toNat with
  | none => plain .badObject s
  | some o =>
    if writesLocked o entries && !s.drivesDisengaged then plain .refusedState s
    else match newSettings o entries s.settings with
      | none => plain .badValue s
      | some new =>
        if restartsFill new s then plain .refusedState s
        else match idleRefusal new s with
          | some c => say .refusedCondition (u8 c.val) s
          | none => acceptSet o entries new s

/-- The monitor list's length as a body (R171). -/
def monitorBody (l : Link) : List Byte := u8 l.monitors.length

/-- MONITOR ADD (R176). -/
def addMonitor (o : Obj) (s : State) : Answer :=
  if s.link.monitors.any (fun m => decide (m.ref = o)) then say .ok (monitorBody s.link) s
  else if 4 ≤ s.link.monitors.length then plain .busy s
  else
    let l := { s.link with monitors := s.link.monitors ++ [{ ref := o, spacing := none, changePending := false }]
                           ready := addReady o s.link.ready }
    say .ok (monitorBody l) { s with link := l }

/-- MONITOR REMOVE (R176). -/
def removeMonitor (o : Obj) (s : State) : Answer :=
  let l := { s.link with monitors := s.link.monitors.filter (fun m => decide (m.ref ≠ o)), ready := s.link.ready.erase o }
  say .ok (monitorBody l) { s with link := l }

/-- MONITOR (R176): a reference to IDENTITY is refused. -/
def handleMonitor (add : Bool) (object index : Byte) (s : State) : Answer :=
  match objectOf object.toNat index.toNat with
  | none => plain .badObject s
  | some .identity => plain .badObject s
  | some o => if add then addMonitor o s else removeMonitor o s

/-- REPORT_RATE (R177). -/
def handleReportRate (period : BitVec 16) (s : State) : Answer :=
  let v := clampPeriod period.toNat
  let l := if v = s.settings.link.reportPeriod then s.link else retunePeriod s.time.uptime v s.link
  say (okOr (decide (v ≠ period.toNat))) (u16 v)
    { s with settings := { s.settings with link := { s.settings.link with reportPeriod := v } }, link := l }

/-! ### Store, recall, identity, restart (R186 to R189) -/

/-- IDENTIFY (R188). -/
def handleIdentify (s : State) : Answer := say .ok identityBody s

/-- STORE (R186): executed until its write completes. -/
def handleStore (tag : Byte) (s : State) : Answer :=
  { state := takeStore { s with link := { s.link with executing := some (.store tag false) } }, reply := none }

/-- RECALL (R187). -/
def handleRecall (s : State) : Answer :=
  if !s.drivesDisengaged then plain .refusedState s
  else if s.store.copy ≠ .valid then plain .refusedState s
  else match idleRefusal s.nv.stored s with
    | some c => say .refusedCondition (u8 c.val) s
    | none => plain .ok (applySettings s.nv.stored s)

/-- RESTART (R189): taken, it is executed until the part restarts. -/
def handleRestart (s : State) : Answer :=
  if s.drivesDisengaged && !s.gauge.fill.active then
    plain .ok { s with link := { s.link with executing := some (.restart false) } }
  else plain .refusedState s

/-! ### Judging a frame (R171) -/

/-- A request without payload: any payload is answered BAD_LENGTH. -/
def bare (h : State → Answer) (p : List Byte) (s : State) : Answer :=
  match p with
  | [] => h s
  | _ => plain .badLength s

/-- A request with a payload of one byte. -/
def oneByte (h : Byte → State → Answer) (p : List Byte) (s : State) : Answer :=
  match p with
  | [a] => h a s
  | _ => plain .badLength s

/-- READ's payload: object, index. -/
def judgeRead (p : List Byte) (s : State) : Answer :=
  match p with
  | [o, i] => handleRead o i s
  | _ => plain .badLength s

/-- SET's payload: object, index, one or more field entries (R172, R173). Log entry 19. -/
def judgeSet (p : List Byte) (s : State) : Answer :=
  match p with
  | o :: i :: rest =>
    match parseEntries rest.length rest with
    | none => plain .badLength s
    | some [] => plain .badLength s
    | some es => handleSet o i es s
  | _ => plain .badLength s

/-- PTO's payload: drive, operation. -/
def judgePto (p : List Byte) (s : State) : Answer :=
  match p with
  | [d, op] => if op = 0#8 then handleEngage d s else if op = 1#8 then handleDisengage d s else plain .badValue s
  | _ => plain .badLength s

/-- GOVERN's payload: mode, setpoint. -/
def judgeGovern (p : List Byte) (s : State) : Answer :=
  match p with
  | [m, a, b] => handleGovern m (word16 a b) s
  | _ => plain .badLength s

/-- FILL's payload: operation, and a target with START. -/
def judgeFill (p : List Byte) (s : State) : Answer :=
  match p with
  | [op] => if op = 1#8 then handleFillStop s else if op = 0#8 then plain .badLength s else plain .badValue s
  | [op, a, b] =>
    if op = 0#8 then handleFillStart (word16 a b) s else if op = 1#8 then plain .badLength s else plain .badValue s
  | _ => plain .badLength s

/-- FOAM's payload: selection, and optionally a ratio. -/
def judgeFoam (p : List Byte) (s : State) : Answer :=
  match p with
  | [sel] => handleFoam sel none s
  | [sel, r] => handleFoam sel (some r) s
  | _ => plain .badLength s

/-- MONITOR's payload: operation, object, index. The object is judged before the operation (R171). -/
def judgeMonitor (p : List Byte) (s : State) : Answer :=
  match p with
  | [op, o, i] =>
    if op = 0#8 then handleMonitor true o i s
    else if op = 1#8 then handleMonitor false o i s
    else match objectOf o.toNat i.toNat with
      | none => plain .badObject s
      | some .identity => plain .badObject s
      | some _ => plain .badValue s
  | _ => plain .badLength s

/-- REPORT_RATE's payload: the period. -/
def judgeReportRate (p : List Byte) (s : State) : Answer :=
  match p with
  | [a, b] => handleReportRate (word16 a b) s
  | _ => plain .badLength s

/-- A frame judged by its kind, then by its payload (R171). -/
def judgeFrame (f : HostFrame) (s : State) : Answer :=
  match f.kind.toNat with
  | 0x01 => bare handleIdentify f.payload s
  | 0x02 => judgeRead f.payload s
  | 0x03 => bare handleSnapshot f.payload s
  | 0x04 => judgeSet f.payload s
  | 0x05 => bare (handleStore f.tag) f.payload s
  | 0x06 => bare handleRecall f.payload s
  | 0x07 => judgePto f.payload s
  | 0x08 => judgeGovern f.payload s
  | 0x09 => bare handleResume f.payload s
  | 0x0A => bare handlePumpIdle f.payload s
  | 0x0B => oneByte handleRelease f.payload s
  | 0x0C => oneByte handleForce f.payload s
  | 0x0D => judgeFill f.payload s
  | 0x0E => judgeFoam f.payload s
  | 0x0F => oneByte handleFaultClear f.payload s
  | 0x10 => bare handleRecover f.payload s
  | 0x11 => judgeMonitor f.payload s
  | 0x12 => judgeReportRate f.payload s
  | 0x13 => bare handleRestart f.payload s
  | _ => plain .unknownKind s

/-! ### Execution (R168) -/

/-- An answer with its reply put in the reply slot (R168, R170). -/
def deliver (tag : Byte) (a : Answer) : State :=
  match a.reply with
  | none => a.state
  | some (code, body) => putReply tag code body a.state

/-- The awaiting frame executed, when the link is free (R168). -/
def executeAwaiting (s : State) : State :=
  match s.link.awaiting with
  | none => s
  | some f =>
    if linkFree f s then deliver f.tag (judgeFrame f { s with link := { s.link with awaiting := none } }) else s

/-- Whether a request's row may execute: the link is free, and the buffer is empty or holds that very frame. Log entry
6. -/
def mayExecute (f : HostFrame) (s : State) : Bool :=
  linkFree f s && (decide (s.link.awaiting = none) || decide (s.link.awaiting = some f))

/-- The state in which a request's row executes: its frame leaves the buffer, or is received at this very event. Log
entry 6. -/
def takeRequest (s : State) : State :=
  match s.link.awaiting with
  | some _ => { s with link := { s.link with awaiting := none } }
  | none => heard s

/-- A host request as a command of its own: the execution of its frame (R168). Log entry 6. -/
def request (f : HostFrame) (h : State → Answer) (s : State) : State :=
  workingEvent (fun s => if mayExecute f s then deliver f.tag (h (takeRequest s)) else s) s

end Sys2Proof.Machine
end

