-- ==== Sys2Proof/Machine/ChassisCommands.lean ====
section
/-! DEFINITION. The commands of the chassis port (R24 to R45). -/

namespace Sys2Proof.Machine

/-- The port's record changed, with notices. -/
def putChassis (r : Chassis × List Notice) (s : State) : State := ({ s with chassis := r.1 } : State).post r.2

/-- A frame of another node received correctly (R28, R39, R41): a data frame is offered to the receive slots, a remote
frame to the answer slot. -/
def receiveFrame (f : BusFrame) (s : State) : State :=
  match f with
  | .data id bytes =>
    putChassis (receivedWell { s.chassis with rx := offerToSlots s.settings s.time.uptime id bytes s.chassis.rx }) s
  | .remote id =>
    let ch := if s.settings.chassis.autoAnswer ∧ id = txId (s.settings.tx[(3 : Fin 4)]) then fallDue s.settings 3 s.chassis
              else s.chassis
    putChassis (receivedWell ch) s

/-- RX_DATA_FRAME (R28): a port on the bus, and a frame the bus can carry. -/
def execRxDataFrame (id : CanId) (bytes : List Byte) (s : State) : Result :=
  .next <|
  workingEvent (fun s =>
    if onBus s.chassis && (BusFrame.data id bytes).wf then receiveFrame (.data id bytes) s else s) s

/-- RX_REMOTE_FRAME (R39). -/
def execRxRemoteFrame (id : CanId) (s : State) : Result :=
  .next (workingEvent (fun s => if onBus s.chassis && (BusFrame.remote id).wf then receiveFrame (.remote id) s else s) s)

/-- RECEIVE_ERROR (R41). -/
def execReceiveError (s : State) : Result :=
  .next (workingEvent (fun s => if onBus s.chassis then putChassis (receiveFailed s.chassis) s else s) s)

/-- One slot's age expired, with its notice (R32). -/
def ageSlot (slot : Fin 16) (s : State) : State :=
  let r := expireAge (s.settings.rx[slot]) slot.val (s.chassis.rx[slot])
  putChassis ({ s.chassis with rx := s.chassis.rx.set slot r.1 }, r.2) s

/-- AGE_EXPIRY (R32). -/
def execAgeExpiry (slot : Fin 16) (s : State) : Result :=
  .next (workingEvent (fun s => if due s.time.uptime (s.chassis.rx[slot]).age then ageSlot slot s else s) s)

/-- The frame that slot `i` is offered with, built now (R36, R40). -/
def builtFrame (i : Fin 4) (s : State) : OfferedFrame :=
  { slot := i, id := txId (s.settings.tx[i]), bytes := frameContent s i }

/-- The offer of the PENDING slot that goes first (R36). -/
def offerFrame (s : State) : State :=
  match offeredSlot s.settings s.chassis with
  | none => s
  | some i => { s with chassis := beginSending (builtFrame i s) s.chassis }

/-- TRANSMIT_OFFER (R36): a port on the bus that sends nothing. -/
def execTransmitOffer (s : State) : Result :=
  .next (workingEvent (fun s => if onBus s.chassis && (sendingSlot s.chassis).isNone then offerFrame s else s) s)

/-- What the end of a sending attempt does to the slot in SENDING, if there is one. -/
def endAttempt (f : Fin 4 → State → State) (s : State) : State :=
  match sendingSlot s.chassis with
  | none => s
  | some i => f i s

/-- FRAME_SENT (R36). -/
def execFrameSent (s : State) : Result :=
  .next <|
  workingEvent (fun s =>
    if onBus s.chassis then
      endAttempt (fun i s => putChassis (sentWell s.settings s.time.uptime i s.chassis) s) s
    else s) s

/-- The identifier of a frame. -/
def frameId : BusFrame → CanId
  | .data id _ => id
  | .remote id => id

/-- An arbitration lost to a frame that goes first, or to one that was not received correctly (R36). Log entry 33. -/
def loseArbitration (winner : Option BusFrame) (i : Fin 4) (s : State) : State :=
  match winner with
  | none => { s with chassis := lostTo s.settings i s.chassis }
  | some f =>
    if f.wf && precedes (frameId f) (sendingId s.settings i s.chassis) then
      receiveFrame f { s with chassis := lostTo s.settings i s.chassis }
    else s

/-- LOST_ARBITRATION (R36). -/
def execLostArbitration (winner : Option BusFrame) (s : State) : Result :=
  .next (workingEvent (fun s => if onBus s.chassis then endAttempt (loseArbitration winner) s else s) s)

/-- TRANSMIT_ERROR (R41). -/
def execTransmitError (s : State) : Result :=
  .next <|
  workingEvent (fun s =>
    if onBus s.chassis then endAttempt (fun i s => putChassis (sendFailed s.settings i s.chassis) s) s else s) s

/-- RECOVERY_COMPLETE (R43): the recessive run that makes 128. Log entry 8. -/
def execRecoveryComplete (s : State) : Result :=
  .next <|
  workingEvent (fun s =>
    if s.chassis.port = .recovering ∧ s.chassis.progress = 127 then putChassis (endRecovery s.chassis) s else s) s

/-- RECESSIVE_RUN (R43). -/
def execRecessiveRun (s : State) : Result :=
  .next (workingEvent (fun s => putChassis (recessiveRun s.chassis) s) s)

/-- BUS_JOIN (R44). -/
def execBusJoin (s : State) : Result :=
  .next <|
  workingEvent (fun s =>
    if s.chassis.port = .errorActive ∧ s.chassis.joined = false then
      { s with chassis := joinBus s.settings s.time.uptime s.chassis }
    else s) s

/-- T0_PERIOD (R37). -/
def execT0Period (s : State) : Result :=
  .next <|
  workingEvent (fun s =>
    if due s.time.uptime s.chassis.t0 then
      { s with chassis := fallDue s.settings 0 { s.chassis with t0 := nextPeriod s.time.uptime 20 s.chassis.t0 } }
    else s) s

/-- T1_PERIOD (R38). -/
def execT1Period (s : State) : Result :=
  .next <|
  workingEvent (fun s =>
    if due s.time.uptime s.chassis.t1 then
      { s with chassis := fallDue s.settings 1 { s.chassis with t1 := nextPeriod s.time.uptime 100 s.chassis.t1 } }
    else s) s

/-- T2_PERIOD (R39). -/
def execT2Period (s : State) : Result :=
  .next <|
  workingEvent (fun s =>
    if due s.time.uptime s.chassis.t2 then
      { s with chassis := fallDue s.settings 2 { s.chassis with t2 := nextPeriod s.time.uptime 1000 s.chassis.t2 } }
    else s) s

/-- CHASSIS_RECOVER (R43). -/
def execChassisRecover (tag : Byte) (s : State) : Result :=
  .next (request { kind := kindChassisRecover, tag := tag, payload := [] } handleRecover s)

end Sys2Proof.Machine
end

