-- ==== Sys2Proof/Machine/GovernorCommands.lean ====
section
/-! DEFINITION. The commands of the pump governor and the protection monitor (R83 to R116). -/

namespace Sys2Proof.Machine

/-- The governor's record changed, with notices. -/
def putGovernor (r : Governor × List Notice) (s : State) : State := ({ s with gov := r.1 } : State).post r.2

/-- The protection monitor's records changed, with notices. -/
def putProtection (r : Protection × List Notice) (s : State) : State := ({ s with prot := r.1 } : State).post r.2

/-- GOVERNOR_STEP (R91). -/
def execGovernorStep (s : State) : Result :=
  .next (workingEvent (fun s => if due s.time.uptime s.gov.next then putGovernor (governorStep s) s else s) s)

/-- GOVERNOR_HOLD_EXPIRY (R84). -/
def execGovernorHoldExpiry (s : State) : Result :=
  .next (workingEvent (fun s => if due s.time.uptime s.gov.hold then putGovernor (expireGovernorHold s.gov) s else s) s)

/-- STOP_TIMER_EXPIRY (R83). -/
def execStopTimerExpiry (s : State) : Result :=
  .next <|
  workingEvent (fun s =>
    if due s.time.uptime s.gov.stop then { s with gov := expireStop s.settings.gov s.gov } else s) s

/-- GOVERN (R87). -/
def execGovern (tag mode : Byte) (setpoint : BitVec 16) (s : State) : Result :=
  .next (request { kind := kindGovern, tag := tag, payload := mode :: bytes16 setpoint } (handleGovern mode setpoint) s)

/-- PUMP_IDLE (R89). -/
def execPumpIdle (tag : Byte) (s : State) : Result :=
  .next (request { kind := kindPumpIdle, tag := tag, payload := [] } handlePumpIdle s)

/-- RESUME (R90, R116). -/
def execResume (tag : Byte) (s : State) : Result :=
  .next (request { kind := kindResume, tag := tag, payload := [] } handleResume s)

/-- PROTECTION_STEP (R103). -/
def execProtectionStep (s : State) : Result :=
  .next (workingEvent (fun s => if due s.time.uptime s.prot.next then putProtection (protectionStep s) s else s) s)

/-- QUALIFICATION_EXPIRY (R104). -/
def execQualificationExpiry (s : State) : Result :=
  .next <|
  workingEvent (fun s =>
    if due s.time.uptime s.prot.qualification then putProtection (expireQualification s) s else s) s

/-- Whether a protection step is one at which the resume timer reaches 0 (R114). -/
def resumeEnds (s : State) : Bool :=
  decide (s.prot.ceiling.state = .waiting) && s.prot.ceiling.steps.isSome &&
  (decide ((protectionStep s).1.ceiling.state = .rising) || decide ((protectionStep s).1.ceiling.state = .free))

/-- RESUME_TIMER_EXPIRY (R114): the protection step at which the resume timer reaches 0. Log entry 8. -/
def execResumeTimerExpiry (s : State) : Result :=
  .next <|
  workingEvent (fun s =>
    if due s.time.uptime s.prot.next && resumeEnds s then putProtection (protectionStep s) s else s) s

end Sys2Proof.Machine
end

