-- ==== Sys2Proof/Machine/InputCommands.lean ====
section
/-! DEFINITION. The commands of the input scanner (R5 to R22). -/

namespace Sys2Proof.Machine

/-- Whether a leak-watch burst has A3 and A4 sampled (R22). -/
def burstSampling (s : State) : Bool := s.gauge.leak.burst.isSome

/-- Whether an analog channel is sampled: in a working part, and A3 and A4 during a burst (R22). -/
def analogSampled (s : State) (ch : Fin 10) : Bool :=
  s.working || ((decide (ch = 3) || decide (ch = 4)) && burstSampling s)

/-- One analog channel's record changed, with notices. -/
def putAnalog (ch : Fin 10) (r : AnalogChan × List Notice) (s : State) : State :=
  ({ s with inputs := { s.inputs with analog := s.inputs.analog.set ch r.1 } } : State).post r.2

/-- One analog sample taken (R5, R9). -/
def takeAnalog (ch : Fin 10) (raw : Nat) (s : State) : State :=
  let a := s.inputs.analog[ch]
  let now := s.time.uptime
  putAnalog ch
    (sampleAnalog (s.settings.analog[ch]) now ch raw { a with next := nextPeriod now (analogPeriod ch) a.next }) s

/-- ANALOG_SAMPLE (R9): an enabled channel that is sampled and whose period has passed. -/
def execAnalogSample (ch : Fin 10) (raw : BitVec 12) (s : State) : Result :=
  .next <|
  event (fun s =>
    if analogSampled s ch && decide ((s.inputs.analog[ch]).state ≠ .disabled) &&
        sampleDue s.time.uptime (s.inputs.analog[ch]).next then takeAnalog ch raw.toNat s
    else s) s

/-- HOLD_EXPIRY (R10). -/
def execHoldExpiry (ch : Fin 10) (s : State) : Result :=
  .next <|
  event (fun s =>
    if due s.time.uptime (s.inputs.analog[ch]).hold then putAnalog ch (expireHold ch (s.inputs.analog[ch])) s else s) s

/-- One interval of a pulse channel closed (R15). -/
def takePulses (ch : Fin 3) (pulses : Nat) (s : State) : State :=
  let p := s.inputs.pulse[ch]
  let q := { closeInterval (pulsesPer s.settings ch) pulses p with next := nextPeriod s.time.uptime 20 p.next }
  { s with inputs := { s.inputs with pulse := s.inputs.pulse.set ch q } }

/-- PULSE_INTERVAL (R15). -/
def execPulseInterval (ch : Fin 3) (pulses : Nat) (s : State) : Result :=
  .next <|
  workingEvent (fun s =>
    if sampleDue s.time.uptime (s.inputs.pulse[ch]).next then takePulses ch pulses s else s) s

/-- The drive whose feedback a discrete is (R55). -/
def feedbackOf (ch : Fin 10) : Option DriveId :=
  if ch = 1 then some .main else if ch = 2 then some .aux else none

/-- What an accepted change or a first sample of a discrete does of itself: the drive feedbacks (R63 to R75), the cab
pump request (R18), and the ignition in WATCH (R193). `was` is the level before. The other readers follow the record. -/
def handDiscrete (ch : Fin 10) (was : Bool) (o : SampleOutcome) (s : State) : State :=
  match o, feedbackOf ch with
  | .nothing, _ => s
  | .first, some d => s.withPto (firstFeedback (ptoEnv s) d was s.ptoRun)
  | .accepted, some d => s.withPto (feedbackChange (ptoEnv s) d s.ptoRun)
  | .first, none => s
  | .accepted, none =>
    if ch = 3 ∧ s.level 3 = true ∧ s.working = true then s.withPto (cabEngage (ptoEnv s) s.ptoRun)
    else if ch = 8 ∧ s.level 8 = true ∧ s.power.state = .watch then beginWaking .ignition .ignition s
    else s

/-- One sample of a discrete taken (R17). -/
def takeDiscrete (ch : Fin 10) (electrical : Bool) (s : State) : State :=
  let d := s.inputs.discrete[ch]
  let r := sampleDiscrete (s.settings.polarity[ch]) electrical { d with next := nextPeriod s.time.uptime 5 d.next }
  handDiscrete ch d.level r.2 { s with inputs := { s.inputs with discrete := s.inputs.discrete.set ch r.1 } }

/-- DISCRETE_SAMPLE (R17): every discrete in a working part, D8 alone in WATCH and WAKING (R22). -/
def execDiscreteSample (ch : Fin 10) (electrical : Bool) (s : State) : Result :=
  .next <|
  event (fun s =>
    if (s.working || decide (ch = 8)) && sampleDue s.time.uptime (s.inputs.discrete[ch]).next then
      takeDiscrete ch electrical s
    else s) s

/-- AGREEMENT_EXPIRY (R20). -/
def execAgreementExpiry (s : State) : Result :=
  .next <|
  workingEvent (fun s =>
    if due s.time.uptime s.inputs.brake.timer then
      { s with inputs := { s.inputs with
          brake := expireAgreement s.time.uptime (s.quantity 3) (s.level 0) s.inputs.brake } }
    else s) s

end Sys2Proof.Machine
end

