-- ==== Sys2Proof/Machine/LinkCommands.lean ====
section
/-! DEFINITION. The commands of the panel link and of the host requests that it owns (R165 to R179, R186 to R189). -/

namespace Sys2Proof.Machine

/-- RECEIVED_BYTE (R167). -/
def execReceivedByte (b : Byte) (s : State) : Result := .next (workingEvent (fun s => receiveByte b s) s)

/-- Whether a whole frame may be received now: the receiver is hunting, or the frame in assembly is its beginning. Log
entry 7. -/
def mayReceive (f : List Byte) (l : Link) : Bool := frameLayout f && l.assembly.isPrefixOf f

/-- FRAME_RECEIVED (R167): the last CRC byte of a frame has been received. -/
def execFrameReceived (f : List Byte) (s : State) : Result :=
  .next (workingEvent (fun s => if mayReceive f s.link then completeFrame f s else s) s)

/-- Whether the receiver sees such a damage: a parity error only under parity EVEN (R165). Log entry 43. -/
def damageSeen (e : CharError) (l : Link) : Bool :=
  match e with
  | .framing => true
  | .parity => decide (l.lineParity = .even)

/-- CHARACTER_ERROR (R167). -/
def execCharacterError (e : CharError) (s : State) : Result :=
  .next (workingEvent (fun s => if damageSeen e s.link then { s with link := receiveDamaged e s.link } else s) s)

/-- INTER_BYTE_TIMEOUT (R167). -/
def execInterByteTimeout (s : State) : Result :=
  .next <|
  workingEvent (fun s =>
    if due s.time.uptime s.link.interByte then { s with link := s.link.discard .framing } else s) s

/-- EXECUTION_START (R168). -/
def execExecutionStart (s : State) : Result := .next (workingEvent executeAwaiting s)

/-- A link restart (R169): the silence timer restarts with the last-heard timestamp (R190). -/
def breakLink (s : State) : State :=
  (heard { s with link := restartLink s.time.uptime s.settings.link s.link }).post [noticeLinkReady .brk]

/-- BREAK (R169, R193): a link restart in AWAKE and RUNDOWN, a wake in WATCH, nothing in WAKING. -/
def execLineBreak (s : State) : Result :=
  .next <|
  event (fun s =>
    match s.power.state with
    | .awake | .rundown => breakLink s
    | .watch => beginWaking .brk .brk s
    | .waking => s) s

/-- Whether a row may stand for a frame of unknown kind (R171). -/
def unknownFrame (tag kind : Byte) (s : State) : HostFrame :=
  match s.link.awaiting with
  | some f => if f.kind = kind ∧ f.tag = tag then f else { kind := kind, tag := tag, payload := [] }
  | none => { kind := kind, tag := tag, payload := [] }

/-- UNKNOWN_KIND (R171). -/
def execUnknownKind (tag kind : Byte) (s : State) : Result :=
  .next (if isHostKind kind then s else request (unknownFrame tag kind s) (plain .unknownKind) s)

/-- IDENTIFY (R188). -/
def execIdentify (tag : Byte) (s : State) : Result :=
  .next (request { kind := kindIdentify, tag := tag, payload := [] } handleIdentify s)

/-- READ (R173). -/
def execRead (tag object index : Byte) (s : State) : Result :=
  .next (request { kind := kindRead, tag := tag, payload := [object, index] } (handleRead object index) s)

/-- SNAPSHOT (R175). -/
def execSnapshot (tag : Byte) (s : State) : Result :=
  .next (request { kind := kindSnapshot, tag := tag, payload := [] } handleSnapshot s)

/-- SET (R173), of entries that a frame can carry: none of them is answered BAD_LENGTH. -/
def execSet (tag object index : Byte) (entries : List FieldEntry) (s : State) : Result :=
  .next <|
  if entriesLength entries ≤ 246 then
    request { kind := kindSet, tag := tag, payload := object :: index :: entriesBytes entries }
      (if entries.isEmpty then plain .badLength else handleSet object index entries) s
  else s

/-- STORE (R186). -/
def execStore (tag : Byte) (s : State) : Result :=
  .next (request { kind := kindStore, tag := tag, payload := [] } (handleStore tag) s)

/-- RECALL (R187). -/
def execRecall (tag : Byte) (s : State) : Result :=
  .next (request { kind := kindRecall, tag := tag, payload := [] } handleRecall s)

/-- MONITOR_ADD (R176). -/
def execMonitorAdd (tag object index : Byte) (s : State) : Result :=
  .next (request { kind := kindMonitor, tag := tag, payload := [0#8, object, index] } (handleMonitor true object index) s)

/-- MONITOR_REMOVE (R176). -/
def execMonitorRemove (tag object index : Byte) (s : State) : Result :=
  .next (request { kind := kindMonitor, tag := tag, payload := [1#8, object, index] } (handleMonitor false object index) s)

/-- The spacing timer of an item of the monitor list. -/
def spacingOf (i : Fin 4) (l : Link) : Timer :=
  match l.monitors[i.val]? with
  | none => none
  | some m => m.spacing

/-- SPACING_EXPIRY (R176). -/
def execSpacingExpiry (i : Fin 4) (s : State) : Result :=
  .next <|
  workingEvent (fun s =>
    if due s.time.uptime (spacingOf i s.link) then { s with link := expireSpacing i s.link } else s) s

/-- REPORT_RATE (R177). -/
def execReportRate (tag : Byte) (period : BitVec 16) (s : State) : Result :=
  .next (request { kind := kindReportRate, tag := tag, payload := bytes16 period } (handleReportRate period) s)

/-- STATUS_PERIOD (R177): STATUS falls due. -/
def execStatusPeriod (s : State) : Result :=
  .next <|
  workingEvent (fun s =>
    if due s.time.uptime s.link.statusTimer then
      { s with link := { s.link with
          statusDue := true
          statusTimer := nextPeriod s.time.uptime s.settings.link.reportPeriod s.link.statusTimer } }
    else s) s

/-- TX_FRAME_START (R178): the transmitter is free, and the arbiter has a choice. -/
def execTxFrameStart (s : State) : Result :=
  .next <|
  workingEvent (fun s =>
    if s.link.tx.isNone then
      match arbiter s.link s.notices with
      | none => s
      | some c => beginFrame s c
    else s) s

/-- TX_FRAME_END (R178): a frame on the line finishes in every power state (R179). -/
def execTxFrameEnd (s : State) : Result := .next (event endFrame s)

/-- RESTART (R189). -/
def execRestart (tag : Byte) (s : State) : Result :=
  .next (request { kind := kindRestart, tag := tag, payload := [] } handleRestart s)

end Sys2Proof.Machine
end

