-- ==== Sys2Proof/Machine/LockoutCommands.lean ====
section
/-! DEFINITION. The commands of the lockout unit (R154 to R162). -/

namespace Sys2Proof.Machine

/-- The lockout unit's records changed, with notices. -/
def putLockout (r : Lockout × List Notice) (s : State) : State := ({ s with lock := r.1 } : State).post r.2

/-- HOLD_OFF_EXPIRY (R154). -/
def execHoldOffExpiry (a : ActionId) (s : State) : Result :=
  .next <|
  workingEvent (fun s =>
    if due s.time.uptime (s.lock.action a).holdOff then putLockout (expireHoldOff s.time.uptime a s.lock) s else s) s

/-- RELEASE (R155). -/
def execRelease (tag action : Byte) (s : State) : Result :=
  .next (request { kind := kindRelease, tag := tag, payload := [action] } (handleRelease action) s)

/-- FORCE (R156). -/
def execForce (tag value : Byte) (s : State) : Result :=
  .next (request { kind := kindForce, tag := tag, payload := [value] } (handleForce value) s)

/-- The overspeed alarm, and the auto-drop of AUX when it is on (R69, R162). -/
def tripOverspeed (s : State) : State :=
  let s' := putLockout (expireOverspeed s) s
  if s.settings.lock.autoDrop then s'.withPto (autoDrop (ptoEnv s') s'.ptoRun) else s'

/-- OVERSPEED_EXPIRY (R162). -/
def execOverspeedExpiry (s : State) : Result :=
  .next <|
  workingEvent (fun s =>
    if s.lock.overspeed = .timing ∧ due s.time.uptime s.lock.overspeedTimer = true then tripOverspeed s else s) s

end Sys2Proof.Machine
end

