-- ==== Sys2Proof/Machine/PtoCommands.lean ====
section
/-! DEFINITION. The commands of the PTO sequencer (R59 to R74). -/

namespace Sys2Proof.Machine

/-- PTO_ENGAGE (R59). -/
def execPtoEngage (tag drive : Byte) (s : State) : Result :=
  .next (request { kind := kindPto, tag := tag, payload := [drive, 0#8] } (handleEngage drive) s)

/-- PTO_DISENGAGE (R66). -/
def execPtoDisengage (tag drive : Byte) (s : State) : Result :=
  .next (request { kind := kindPto, tag := tag, payload := [drive, 1#8] } (handleDisengage drive) s)

/-- FAULT_CLEAR (R74). -/
def execFaultClear (tag drive : Byte) (s : State) : Result :=
  .next (request { kind := kindFaultClear, tag := tag, payload := [drive] } (handleFaultClear drive) s)

/-- A timer event of a drive: when the timer has expired, the sequencer takes it. -/
def driveEvent (timer : Drive → Timer) (d : DriveId) (f : PtoEnv → PtoRun → PtoRun) (s : State) : State :=
  workingEvent (fun s => if due s.time.uptime (timer (s.pto.drive d)) then s.withPto (f (ptoEnv s) s.ptoRun) else s) s

/-- REQUEST_RECHECK (R62). -/
def execRequestRecheck (d : DriveId) (s : State) : Result :=
  .next (driveEvent (fun x => if x.state = .requested then x.recheck else none) d (fun e r => recheckDrive e d r) s)

/-- REQUEST_WINDOW_EXPIRY (R62). -/
def execRequestWindowExpiry (d : DriveId) (s : State) : Result :=
  .next (driveEvent Drive.window d (fun e r => expireWindow e d r) s)

/-- SHIFT_TIMEOUT (R63). -/
def execShiftTimeout (d : DriveId) (s : State) : Result :=
  .next (driveEvent Drive.shift d (fun e r => expireShift e d r) s)

/-- SETTLE_EXPIRY (R64). -/
def execSettleExpiry (d : DriveId) (s : State) : Result :=
  .next (driveEvent Drive.settle d (fun e r => expireSettle e d r) s)

/-- WIND_DOWN_RECHECK (R67). -/
def execWindDownRecheck (d : DriveId) (s : State) : Result :=
  .next (driveEvent (fun x => if x.state = .windingDown then x.recheck else none) d (fun e r => recheckDrive e d r) s)

/-- WIND_DOWN_NOTICE_EXPIRY (R67). -/
def execWindDownNoticeExpiry (d : DriveId) (s : State) : Result :=
  .next (driveEvent Drive.windDown d (fun _ r => expireWindDown d r) s)

/-- RELEASE_TIMEOUT (R68). -/
def execReleaseTimeout (d : DriveId) (s : State) : Result :=
  .next (driveEvent Drive.release d (fun e r => expireRelease e d r) s)

/-- UNCOMMANDED_EXPIRY (R72). -/
def execUncommandedExpiry (d : DriveId) (s : State) : Result :=
  .next (driveEvent Drive.uncommanded d (fun e r => expireUncommanded e d r) s)

end Sys2Proof.Machine
end

