-- ==== Sys2Proof/Machine/TankCommands.lean ====
section
/-! DEFINITION. The commands of the tank gauge (R124 to R143). -/

namespace Sys2Proof.Machine

/-- The tank gauge's records changed, with notices. -/
def putGauge (r : TankGauge × List Notice) (s : State) : State := ({ s with gauge := r.1 } : State).post r.2

/-- GAUGE_EVENT (R124). -/
def execGaugeEvent (s : State) : Result :=
  .next (workingEvent (fun s => if due s.time.uptime s.gauge.next then putGauge (gaugeEvent s) s else s) s)

/-- FILL_START (R137). -/
def execFillStart (tag : Byte) (target : BitVec 16) (s : State) : Result :=
  .next (request { kind := kindFill, tag := tag, payload := 0#8 :: bytes16 target } (handleFillStart target) s)

/-- FILL_STOP (R139). -/
def execFillStop (tag : Byte) (s : State) : Result :=
  .next (request { kind := kindFill, tag := tag, payload := [1#8] } handleFillStop s)

/-- FILL_TIMEOUT (R139). -/
def execFillTimeout (s : State) : Result :=
  .next <|
  workingEvent (fun s =>
    if due s.time.uptime s.gauge.fill.timer then putGauge (endFill s.time.uptime .timeout s.gauge) s else s) s

/-- FOAM (R133). -/
def execFoam (tag selection : Byte) (ratio : Option Byte) (s : State) : Result :=
  .next (request { kind := kindFoam, tag := tag, payload := selection :: ratio.toList } (handleFoam selection ratio) s)

/-- Whether the part is parked: in WATCH, or in WAKING, where every block stays in its WATCH state (R193). -/
def parked (p : PowerState) : Bool := decide (p = .watch) || decide (p = .waking)

/-- BURST_TIMER_EXPIRY (R142): an armed leak watch begins a burst, and the scanner samples A3 and A4 (R22). -/
def execBurstTimerExpiry (s : State) : Result :=
  .next <|
  event (fun s =>
    if parked s.power.state && s.gauge.leak.armed && due s.time.uptime s.gauge.leak.timer then
      { s with gauge := beginBurst s.time.uptime s.gauge, inputs := burstWarm s.settings s.inputs }
    else s) s

/-- A burst event, after which the scanner stops sampling when the burst has ended (R142). -/
def takeBurst (s : State) : State :=
  let r := burstEvent s
  ({ s with gauge := r.1, inputs := if r.1.leak.burst.isSome then s.inputs else burstRest s.inputs } : State).post r.2

/-- BURST_EVENT (R142). -/
def execBurstEvent (s : State) : Result :=
  .next <|
  event (fun s =>
    if parked s.power.state && s.gauge.leak.burst.isSome && due s.time.uptime s.gauge.leak.burstNext then takeBurst s else s) s

end Sys2Proof.Machine
end

