-- ==== Sys2Proof/Machine/TimeCommands.lean ====
section
/-! DEFINITION. The commands of the time base, the non-volatile memory, the supply and the power controller (R46, R47,
R53, R186, R190 to R193). -/

namespace Sys2Proof.Machine

/-- POWER_ON (R46). A supply already present is lost first: log entry 10. -/
def execPowerOn (s : State) : Result := .next (refreshOutputs (powerUp s))

/-- MILLISECOND_END (R47); an age timer's expiry is at the present moment no longer (R32). -/
def execMillisecondEnd (s : State) : Result :=
  .next (event (fun s => { s with time := endMillisecond s, chassis := nextMillisecond s.chassis }) s)

/-- METER_WRITE_START (R53): a due meter write takes the memory when it is free. -/
def execMeterWriteStart (s : State) : Result :=
  .next (event (fun s => if mayWriteMeters s then beginMeterWrite s else s) s)

/-- A meter write of three values completes, and a waiting entry to WATCH goes on (R53, R192). -/
def completeWrite (m a r : Nat) (forWatch : Bool) (s : State) : State :=
  let s' := finishMeterWrite m a r s
  if forWatch && s'.power.watchPending then watchWriteDone s' else s'

/-- A RESTART whose meter write has completed in WAKING waits for the end of the settling period, which always runs in full
(R48, R189). -/
def awaitSettling (s : State) : State := { s with link := { s.link with executing := some .restarting } }

/-- METER_WRITE_COMPLETE (R53): the written values are set; a waiting restart or entry to WATCH proceeds (R189, R192). -/
def execMeterWriteComplete (s : State) : Result :=
  .next <|
  match s.nv.activity with
  | .meterWrite m a r forWatch forRestart =>
    if s.powered && forRestart then
      if s.power.state = .waking then event (fun s => awaitSettling (finishMeterWrite m a r s)) s
      else refreshOutputs (restartPart (finishMeterWrite m a r s))
    else event (completeWrite m a r forWatch) s
  | _ => s

/-- STORE_COMPLETE (R186). -/
def execStoreComplete (s : State) : Result :=
  .next (event (fun s => if s.nv.activity = .store then finishStore s else s) s)

/-- SILENCE_EXPIRY (R190). -/
def execSilenceExpiry (s : State) : Result :=
  .next <|
  workingEvent (fun s => if due s.time.uptime s.power.silence then { s with power := { s.power with silence := none } }
    else s) s

/-- RUNDOWN_TIMEOUT (R191): the part proceeds toward WATCH whatever state the drives are in. -/
def execRundownTimeout (s : State) : Result :=
  .next <|
  workingEvent (fun s =>
    if s.power.state = .rundown ∧ due s.time.uptime s.power.rundown = true then towardWatch .rundownTimeout s else s) s

/-- The end of the settling period (R48, R193): the part wakes, and a RESTART that has waited for it restarts the part
at that event (R189). -/
def settled (s : State) : State :=
  if s.link.executing = some .restarting then restartPart (wakePart s) else wakePart s

/-- SETTLING_END (R193): the end of WAKING. -/
def execSettlingEnd (s : State) : Result :=
  .next <|
  if s.powered && decide (s.power.state = .waking) && due s.time.uptime s.power.settling then
    refreshOutputs (settled s)
  else s

/-- RESTART_PROCEED (R189): the reply has been sent or discarded, and the meter write falls due. Log entry 38. -/
def execRestartProceed (s : State) : Result :=
  .next <|
  event (fun s =>
    if s.link.executing = some (.restart false) ∧ s.link.reply = none then
      { s with link := { s.link with executing := some (.restart true) }, time := { s.time with writeDue := true } }
    else s) s

/-- LOSS_OF_SUPPLY (R53). -/
def execLossOfSupply (s : State) : Result := .next (loseSupply s)

end Sys2Proof.Machine
end

