-- ==== Sys2Proof/Machine/Dispatch.lean ====
section
/-! DEFINITION. Which meaning each command has: one arm per constructor, each one direct call. -/

namespace Sys2Proof.Machine

/-- The effect of a command on everything but the queue. -/
def exec (i : Instr) (s : State) : Host.Outcome State Fault Refusal :=
  match i with
  | .powerOn => Sys2Proof.Machine.execPowerOn s
  | .millisecondEnd => Sys2Proof.Machine.execMillisecondEnd s
  | .meterWriteStart => Sys2Proof.Machine.execMeterWriteStart s
  | .meterWriteComplete => Sys2Proof.Machine.execMeterWriteComplete s
  | .analogSample ch raw => Sys2Proof.Machine.execAnalogSample ch raw s
  | .holdExpiry ch => Sys2Proof.Machine.execHoldExpiry ch s
  | .pulseInterval ch pulses => Sys2Proof.Machine.execPulseInterval ch pulses s
  | .discreteSample ch level => Sys2Proof.Machine.execDiscreteSample ch level s
  | .agreementExpiry => Sys2Proof.Machine.execAgreementExpiry s
  | .rxDataFrame id bytes => Sys2Proof.Machine.execRxDataFrame id bytes s
  | .rxRemoteFrame id => Sys2Proof.Machine.execRxRemoteFrame id s
  | .receiveError => Sys2Proof.Machine.execReceiveError s
  | .ageExpiry slot => Sys2Proof.Machine.execAgeExpiry slot s
  | .transmitOffer => Sys2Proof.Machine.execTransmitOffer s
  | .frameSent => Sys2Proof.Machine.execFrameSent s
  | .lostArbitration winner => Sys2Proof.Machine.execLostArbitration winner s
  | .transmitError => Sys2Proof.Machine.execTransmitError s
  | .recoveryComplete => Sys2Proof.Machine.execRecoveryComplete s
  | .busJoin => Sys2Proof.Machine.execBusJoin s
  | .t0Period => Sys2Proof.Machine.execT0Period s
  | .t1Period => Sys2Proof.Machine.execT1Period s
  | .t2Period => Sys2Proof.Machine.execT2Period s
  | .chassisRecover tag => Sys2Proof.Machine.execChassisRecover tag s
  | .ptoEngage tag drive => Sys2Proof.Machine.execPtoEngage tag drive s
  | .ptoDisengage tag drive => Sys2Proof.Machine.execPtoDisengage tag drive s
  | .requestRecheck d => Sys2Proof.Machine.execRequestRecheck d s
  | .requestWindowExpiry d => Sys2Proof.Machine.execRequestWindowExpiry d s
  | .shiftTimeout d => Sys2Proof.Machine.execShiftTimeout d s
  | .settleExpiry d => Sys2Proof.Machine.execSettleExpiry d s
  | .windDownRecheck d => Sys2Proof.Machine.execWindDownRecheck d s
  | .windDownNoticeExpiry d => Sys2Proof.Machine.execWindDownNoticeExpiry d s
  | .releaseTimeout d => Sys2Proof.Machine.execReleaseTimeout d s
  | .uncommandedExpiry d => Sys2Proof.Machine.execUncommandedExpiry d s
  | .faultClear tag drive => Sys2Proof.Machine.execFaultClear tag drive s
  | .governorStep => Sys2Proof.Machine.execGovernorStep s
  | .governorHoldExpiry => Sys2Proof.Machine.execGovernorHoldExpiry s
  | .stopTimerExpiry => Sys2Proof.Machine.execStopTimerExpiry s
  | .govern tag mode setpoint => Sys2Proof.Machine.execGovern tag mode setpoint s
  | .pumpIdle tag => Sys2Proof.Machine.execPumpIdle tag s
  | .resume tag => Sys2Proof.Machine.execResume tag s
  | .protectionStep => Sys2Proof.Machine.execProtectionStep s
  | .qualificationExpiry => Sys2Proof.Machine.execQualificationExpiry s
  | .resumeTimerExpiry => Sys2Proof.Machine.execResumeTimerExpiry s
  | .gaugeEvent => Sys2Proof.Machine.execGaugeEvent s
  | .fillStart tag target => Sys2Proof.Machine.execFillStart tag target s
  | .fillStop tag => Sys2Proof.Machine.execFillStop tag s
  | .fillTimeout => Sys2Proof.Machine.execFillTimeout s
  | .foam tag selection ratio => Sys2Proof.Machine.execFoam tag selection ratio s
  | .burstTimerExpiry => Sys2Proof.Machine.execBurstTimerExpiry s
  | .burstEvent => Sys2Proof.Machine.execBurstEvent s
  | .holdOffExpiry a => Sys2Proof.Machine.execHoldOffExpiry a s
  | .release tag action => Sys2Proof.Machine.execRelease tag action s
  | .force tag value => Sys2Proof.Machine.execForce tag value s
  | .overspeedExpiry => Sys2Proof.Machine.execOverspeedExpiry s
  | .frameReceived frame => Sys2Proof.Machine.execFrameReceived frame s
  | .characterError e => Sys2Proof.Machine.execCharacterError e s
  | .interByteTimeout => Sys2Proof.Machine.execInterByteTimeout s
  | .executionStart => Sys2Proof.Machine.execExecutionStart s
  | .lineBreak => Sys2Proof.Machine.execLineBreak s
  | .unknownKind tag kind => Sys2Proof.Machine.execUnknownKind tag kind s
  | .identify tag => Sys2Proof.Machine.execIdentify tag s
  | .read tag object index => Sys2Proof.Machine.execRead tag object index s
  | .snapshot tag => Sys2Proof.Machine.execSnapshot tag s
  | .set tag object index entries => Sys2Proof.Machine.execSet tag object index entries s
  | .store tag => Sys2Proof.Machine.execStore tag s
  | .storeComplete => Sys2Proof.Machine.execStoreComplete s
  | .recall tag => Sys2Proof.Machine.execRecall tag s
  | .monitorAdd tag object index => Sys2Proof.Machine.execMonitorAdd tag object index s
  | .monitorRemove tag object index => Sys2Proof.Machine.execMonitorRemove tag object index s
  | .spacingExpiry item => Sys2Proof.Machine.execSpacingExpiry item s
  | .reportRate tag period => Sys2Proof.Machine.execReportRate tag period s
  | .statusPeriod => Sys2Proof.Machine.execStatusPeriod s
  | .txFrameStart => Sys2Proof.Machine.execTxFrameStart s
  | .txFrameEnd => Sys2Proof.Machine.execTxFrameEnd s
  | .restart tag => Sys2Proof.Machine.execRestart tag s
  | .restartProceed => Sys2Proof.Machine.execRestartProceed s
  | .silenceExpiry => Sys2Proof.Machine.execSilenceExpiry s
  | .rundownTimeout => Sys2Proof.Machine.execRundownTimeout s
  | .settlingEnd => Sys2Proof.Machine.execSettlingEnd s
  | .receivedByte b => Sys2Proof.Machine.execReceivedByte b s
  | .recessiveRun => Sys2Proof.Machine.execRecessiveRun s
  | .lossOfSupply => Sys2Proof.Machine.execLossOfSupply s

end Sys2Proof.Machine
end

