-- ==== Sys2Proof/Safety.lean ====
section
/-! DEFINITION. What counts as a sound state of the part, and the frames in which the statements are made: what no
block's reaction to an event touches, when the records already follow one another, and when a host request executes. -/

namespace Sys2Proof.Machine

/-! ### Sound states -/

/-- The outputs stand as their owners' rules say (the table before R190; R57, R109 to R111, R137, R143, R157): off
without supply and in WATCH and WAKING, but for the wake line; else by the records. -/
structure OutputsSound (s : State) : Prop where
  o0 : s.outputs.o0 = true ↔ s.working = true ∧ s.pto.main.state ∈ [.shifting, .settling, .engaged, .windingDown]
  o1 : s.outputs.o1 = true ↔ s.working = true ∧ s.pto.aux.state ∈ [.shifting, .settling, .engaged, .windingDown]
  o2 : s.outputs.o2 = true ↔ s.powered = true ∧ s.power.state = .awake ∧ s.lock.inhibit.state = .released
  o3 : s.outputs.o3 = true ↔ s.working = true ∧ s.gauge.fill.active = true
  o4 : s.outputs.o4 = true ↔ s.working = true ∧ (s.prot.conds[(3 : Fin 5)]).state = .active
  o5 : s.outputs.o5 = true ↔ s.working = true ∧ s.prot.recirc = true
  o6 : s.outputs.o6 = true ↔ s.working = true ∧
    ((∃ i : Fin 5, s.settings.prot.enabled[i] = true ∧ (s.prot.conds[i]).state = .active) ∨
     (s.inputs.analog[(0 : Fin 10)]).state = .fault ∨ (s.inputs.analog[(1 : Fin 10)]).state = .fault ∨
     (s.inputs.analog[(2 : Fin 10)]).state = .fault)
  o7 : s.outputs.o7 = true ↔ s.powered = true ∧ s.working = false ∧ s.gauge.leak.leak = true

/-- No more than one drive holds the shift: at most one is SHIFTING or RELEASING (R58). -/
def OneShift (s : State) : Prop :=
  ¬ (s.pto.main.state ∈ [.shifting, .releasing] ∧ s.pto.aux.state ∈ [.shifting, .releasing])

/-- Two entries that no queue holds side by side: both unsent, of one kind and one subject (R181). -/
def distinctUnsent (a b : Entry) : Prop :=
  ¬ (a.sending = false ∧ b.sending = false ∧ a.kind = b.kind ∧ a.subject = b.subject)

/-- The notice queue is sound (R180, R181): at most 32 entries, of the unsent ones no two of one kind and subject, and
every repeat count from 1 to 255. -/
structure QueueSound (q : NoticeQueue) : Prop where
  capacity : q.entries.length ≤ 32
  distinct : q.entries.Pairwise distinctUnsent
  repeats : ∀ e ∈ q.entries, 1 ≤ e.repeats ∧ e.repeats ≤ 255

/-- The error counts and the state of a port that is on the bus agree, and a recovery has seen fewer than 128 runs
(R25, R41, R43). -/
structure PortSound (ch : Chassis) : Prop where
  transmit : ch.txErrors ≤ 255
  receive : ch.rxErrors ≤ 255
  active : ch.port = .errorActive → ch.txErrors < 128 ∧ ch.rxErrors < 128
  passive : ch.port = .errorPassive → 128 ≤ ch.txErrors ∨ 128 ≤ ch.rxErrors
  progress : ch.progress < 128

/-- A meter is sound (R51, R52): it is saturated at 99,999,999, and its remainder is short of 0.01 h. -/
def MeterSound (m : Meter) : Prop := m.value ≤ 99999999 ∧ m.remainder < 36000

/-- The three meters are sound. -/
def MetersSound (t : TimeBase) : Prop := MeterSound t.mainPumping ∧ MeterSound t.auxPumping ∧ MeterSound t.roll

/-- The meter values that the non-volatile memory holds or is writing are within the meters' range (R52, R53). -/
def StoredMetersSound (n : NonVolatile) : Prop :=
  n.meterMain ≤ 99999999 ∧ n.meterAux ≤ 99999999 ∧ n.meterRoll ≤ 99999999 ∧
  ∀ m a r watch restart, n.activity = .meterWrite m a r watch restart → m ≤ 99999999 ∧ a ≤ 99999999 ∧ r ≤ 99999999

/-- The trim remainder stays short of a microsecond step, and a millisecond is one step long, one more or one less
(R47). -/
structure TrimSound (t : TimeBase) : Prop where
  low : -1000 < t.trimRemainder
  high : t.trimRemainder < 1000
  step : t.step = 999 ∨ t.step = 1000 ∨ t.step = 1001

/-- The limits of the settings that the governor and the protection ceiling rest on (R47, R78, R102). -/
structure LimitsSound (c : Settings) : Prop where
  idleLow : 500 ≤ c.gov.idleRpm
  idleHigh : c.gov.idleRpm ≤ 1000
  maxLow : 1200 ≤ c.gov.govMax
  maxHigh : c.gov.govMax ≤ 2600
  rise : 5 ≤ c.gov.riseLimit ∧ c.gov.riseLimit ≤ 200
  retreat : 5 ≤ c.prot.retreatStep ∧ c.prot.retreatStep ≤ 200
  roll : c.gov.idleRpm + 100 ≤ c.lock.rollRpmMax ∧ c.lock.rollRpmMax ≤ 2600
  trimRange : -400 ≤ c.trim ∧ c.trim ≤ 400

/-- The working settings and the stored copy keep those limits. -/
def SettingsSound (s : State) : Prop := LimitsSound s.settings ∧ LimitsSound s.nv.stored

/-- The protection ceiling lies from idle_rpm to gov_max (R112). -/
def CeilingSound (s : State) : Prop :=
  s.settings.gov.idleRpm ≤ s.prot.ceiling.value ∧ s.prot.ceiling.value ≤ s.settings.gov.govMax

/-! ### What follows within an event -/

/-- What a write in progress carries to the memory. -/
def writeCarried : NvActivity → NvActivity
  | .meterWrite m a r _ restart => .meterWrite m a r false restart
  | other => other

/-- The part works and the ignition is on (R190): AWAKE, with D8 at 1. -/
def IgnitionOn (s : State) : Prop := s.powered = true ∧ s.power.state = .awake ∧ s.level 8 = true

/-- The part is in RUNDOWN with the ignition off (R191). -/
def InRundown (s : State) : Prop := s.powered = true ∧ s.power.state = .rundown ∧ s.level 8 = false

/-- The kinds of notice that the blocks post as they take the changes of an event (R68, R70, R85, R139, R155, R160,
R191). -/
def reactionKinds : List NoticeKind :=
  [.fillDone, .powerState, .ptoRefused, .ptoDisengaged, .throttlePathLost, .lockout, .drivingWithCondition]

/-- What no block's reaction to an event touches. Between the state `u` in which an event's own effect leaves the part
and the state `t` after the blocks have taken the changes of the records they read, only these may differ: the brake
agreement state, an active fill with WATER, the drive records, the governor's mode and what hangs on it, the
recirculation flag and P0's qualification, the lockout records, T0 and T1 falling due, AWAKE and RUNDOWN with what
hangs on them, a meter write made due, the notices, the outputs and the marks of changed monitored records. With the
ignition on, the power controller does nothing. At most `n` notices are posted. -/
structure ReactedBy (n : Nat) (u t : State) : Prop where
  pending : t.pending = u.pending
  powered : t.powered = u.powered
  working : t.working = u.working
  settings : t.settings = u.settings
  store : t.store = u.store
  memory : t.nv = { u.nv with activity := t.nv.activity }
  writing : writeCarried t.nv.activity = writeCarried u.nv.activity
  clock : t.time = { u.time with writeDue := t.time.writeDue }
  stillDue : u.time.writeDue = true → t.time.writeDue = true
  channels : t.inputs = { u.inputs with brake := t.inputs.brake }
  port : t.chassis = { u.chassis with tx := t.chassis.tx, t0 := t.chassis.t0 }
  slot2 : t.chassis.tx[(2 : Fin 4)] = u.chassis.tx[(2 : Fin 4)]
  slot3 : t.chassis.tx[(3 : Fin 4)] = u.chassis.tx[(3 : Fin 4)]
  slots : ∀ i : Fin 4, t.chassis.tx[i] = u.chassis.tx[i] ∨ t.chassis.tx[i] = slotDue (u.chassis.tx[i])
  govCeiling : t.gov.ceiling = u.gov.ceiling
  govStep : t.gov.next = u.gov.next
  monitor : t.prot = { u.prot with recirc := t.prot.recirc, qualification := t.prot.qualification }
  tanks : t.gauge = { u.gauge with water := t.gauge.water, fill := t.gauge.fill }
  noFill : u.gauge.fill.active = false → t.gauge = u.gauge
  forced : t.lock.forced = u.lock.forced
  link : t.link = { u.link with monitors := t.link.monitors, ready := t.link.ready }
  monitored : t.link.monitors.map (fun m => (m.ref, m.spacing)) = u.link.monitors.map (fun m => (m.ref, m.spacing))
  reports : ∀ o ∈ u.link.ready, o ∈ t.link.ready
  power : t.power = { u.power with state := t.power.state, entered := t.power.entered,
                                   watchPending := t.power.watchPending, watchCause := t.power.watchCause,
                                   rundown := t.power.rundown }
  lost : u.notices.lost = true → t.notices.lost = true
  alarms : ∀ e ∈ u.notices.entries, e.sending = false → e.cls = .alarm →
    ∃ e' ∈ t.notices.entries, e'.sending = false ∧ e'.cls = .alarm ∧ e'.kind = e.kind ∧ e'.subject = e.subject
  posted : ∃ ns : List Notice, ns.length ≤ n ∧ t.notices = postAll u.time.uptime u.notices ns ∧
    (∀ x ∈ ns, x.kind ∈ reactionKinds) ∧ (IgnitionOn u → ∀ x ∈ ns, x.kind ≠ .ptoRefused ∧ x.kind ≠ .powerState)
  ignited : IgnitionOn u → t.power = u.power ∧ t.time = u.time ∧ t.nv = u.nv

/-- The reactions to one event: at most 22 notices are posted. -/
abbrev Reacted : State → State → Prop := ReactedBy 22

/-- The records already follow one another: at an event that changes nothing, the fill, the power controller, the
ready flags, the governor and the lockout unit would all stay as they are. -/
structure Steady (s : State) : Prop where
  fill : fillReact s s = (s.gauge, [])
  power : powerReact s = s
  drives : refreshReady (ptoEnv s) s.pto = s.pto
  governor : governorReact s = (s.gov, [])
  lockout : lockoutReact s = (s.lock, [])

/-- An unsent ALARM of a kind and subject waits in the queue. -/
def AlarmWaits (k : NoticeKind) (subject : Nat) (q : NoticeQueue) : Prop :=
  ∃ e ∈ q.entries, e.sending = false ∧ e.cls = .alarm ∧ e.kind = k ∧ e.subject = subject

/-- The queue has room for the notices of one event, one or two of the event's own and those of the reactions to it, so
that none of them is lost (R182). -/
def RoomLeft (q : NoticeQueue) : Prop := q.entries.length ≤ 8

/-- An unsent entry of a kind, subject and detail waits in the queue, as a WARNING or higher (R181). -/
def WarningWaits (k : NoticeKind) (subject : Nat) (detail : List Byte) (q : NoticeQueue) : Prop :=
  ∃ e ∈ q.entries, e.sending = false ∧ e.kind = k ∧ e.subject = subject ∧ e.detail = detail ∧ e.cls ≠ .info

/-- An unsent entry of a kind, subject and detail waits in the queue. -/
def NoticeWaits (k : NoticeKind) (subject : Nat) (detail : List Byte) (q : NoticeQueue) : Prop :=
  ∃ e ∈ q.entries, e.sending = false ∧ e.kind = k ∧ e.subject = subject ∧ e.detail = detail

/-- A LOCKOUT of an action waits (R155, R184): the old state, the new one and the lowest contributor of a set, 0xFF for
none (log entry 66). -/
def LockoutWaits (a : ActionId) (old new : ActionState) (set : List (Fin 11)) (q : NoticeQueue) : Prop :=
  ∀ b : Byte, b = (match set with | [] => 0xFF#8 | i :: _ => BitVec.ofNat 8 i.val) →
    WarningWaits .lockout (actionIndex a)
      [BitVec.ofNat 8 (actionStateCode old), BitVec.ofNat 8 (actionStateCode new), b] q

/-- The contributing set of an action at an evaluation within the event that leaves `t` (R148, R150), in ascending order:
the action's set, but for C0, C1, C2 and C9, which the drives and the fill may change twice at one event. -/
def EvaluatedSet (t : State) (a : ActionId) (set : List (Fin 11)) : Prop :=
  set.Pairwise (· < ·) ∧
  ∀ i : Fin 11, (i ∈ set ↔ i ∈ (t.lock.action a).contributors) ∨
    (i ∈ [(0 : Fin 11), 1, 2, 9] ∧ (t.lock.conds[i]).changed = t.time.uptime ∧ a ∈ t.settings.lock.actionSets[i])

/-- The reactions to an event, and what they leave of the notice queue: where the records of a working part already
follow one another they post nothing, so that the queue is that of the event's own effect. -/
def ReactedQuietly (s u t : State) : Prop :=
  Reacted u t ∧ ((s.working = true → Steady s) → t.notices = u.notices)

/-- A command executed in a working part that goes on working, with no starting point in it. -/
def Continues (c : Instr) (s t : State) : Prop :=
  s.working = true ∧ t.working = true ∧ exec c s = .next t ∧ c ≠ .powerOn ∧ c ≠ .meterWriteComplete

/-- D0 has changed by an accepted change between two states (R18, R19): its first sample after a starting point is none. -/
def BrakeSwitchChanged (s t : State) : Prop :=
  s.level 0 ≠ t.level 0 ∧
  (s.inputs.discrete[(0 : Fin 10)]).awaitFirst = (t.inputs.discrete[(0 : Fin 10)]).awaitFirst

/-- Every block as a restart of the part leaves it, from the state it finds (R183, R185, R189): the settings loaded as at
power-on, the uptime, the trim remainder and the stores completed going on, LINK_READY with RESTART. The meters are said
apart. -/
structure Restarted (s t : State) : Prop where
  pending : t.pending = s.pending
  settings : t.settings = if s.nv.storedIntact then s.nv.stored else factorySettings
  uptime : t.time.uptime = s.time.uptime
  remainder : t.time.trimRemainder = s.time.trimRemainder
  stores : t.store.stores = s.store.stores
  awake : t.power.state = .awake
  entered : t.power.entered = s.time.uptime
  notices : t.notices.entries.map (fun e => (e.kind, e.detail)) =
    [(.linkReady, u8 1)] ++ (if s.nv.storedIntact then [] else [(.settingsDefaulted, [])])
  drives : t.pto = { main := driveStart s.time.uptime, aux := driveStart s.time.uptime }
  inputs : t.inputs = inputsStart t.settings
  chassis : t.chassis = chassisStart t.settings
  gov : t.gov = governorStart s.time.uptime t.settings.gov
  prot : t.prot = protectionStart s.time.uptime t.settings.gov
  gauge : t.gauge = gaugeStart s.time.uptime t.settings.gauge
  lock : t.lock = lockoutStart s.time.uptime
  link : t.link = { linkStart s.time.uptime t.settings.link with tx := s.link.tx }

/-- A command that brings a restart of the part in a state: METER_WRITE_COMPLETE of a RESTART's write outside WAKING, and
SETTLING_END of a RESTART that has waited for it (R48, R189). -/
def Restarts (c : Instr) (s : State) : Prop :=
  (c = .meterWriteComplete ∧ s.power.state ≠ .waking ∧ ∃ m a r w, s.nv.activity = .meterWrite m a r w true) ∨
  (c = .settlingEnd ∧ s.link.executing = some .restarting)

/-! ### Chassis frames -/

/-- The two bytes of a number, low byte first, in two's complement (R40). -/
def twoBytes (x : Int) : List Byte := [BitVec.ofInt 8 x, BitVec.ofInt 8 (x / 256)]

/-- The bytes of an unsigned field of a chassis frame, all ones when it is absent (R40). -/
def CarriedUnsigned (v : Option Int) (b : List Byte) : Prop :=
  (v = none → b = twoBytes 0xFFFF) ∧ ∀ x, v = some x → 0 ≤ x → x ≤ 0xFFFF → b = twoBytes x

/-- The bytes of a signed field of a chassis frame, 0x7FFF when it is absent (R40). -/
def CarriedSigned (v : Option Int) (b : List Byte) : Prop :=
  (v = none → b = twoBytes 0x7FFF) ∧ ∀ x, v = some x → -0x8000 ≤ x → x ≤ 0x7FFF → b = twoBytes x

/-- A transmit slot has fallen due (R35): it is PENDING, or SENDING and due again. -/
def FallenDue (x : TxSlot) : Prop := x.state = .pending ∨ (x.state = .sending ∧ x.dueAgain = true)

/-! ### Records and reports on the panel link -/

/-- A number in `w` bytes, low byte first, in two's complement when it is negative (R172). -/
def numberBytes (w : Nat) (x : Int) : List Byte := (List.range w).map (fun i => BitVec.ofInt 8 (x / 256 ^ i))

/-- A field that may be absent, and then has length 0 (R172). -/
def presentBytes (w : Nat) (v : Option Int) : List Byte := (v.map (numberBytes w)).getD []

/-- A set or clear flag, or an on or off setting, in one byte (log entry 76). -/
def flagByte (b : Bool) : List Byte := numberBytes 1 (if b then 1 else 0)

/-- The expiry of a timer, absent when it is stopped (log entry 15). -/
def expiryBytes (t : Timer) : List Byte := presentBytes 4 (t.map (fun x => (x.toNat : Int)))

/-- The fields of a tank record (R120). -/
def tankLayout (x : Tank) : List (List Byte) :=
  [numberBytes 1 (tankStateCode x.state), presentBytes 2 (x.centre.map Int.ofNat), presentBytes 2 (x.stable.map Int.ofNat),
   presentBytes 2 (x.reported.map Int.ofNat), presentBytes 2 (x.lastStable.map Int.ofNat), numberBytes 2 x.consumed,
   numberBytes 4 x.remainder, flagByte x.partialFlag, flagByte x.low, flagByte x.empty,
   presentBytes 2 (x.remaining.map Int.ofNat), presentBytes 4 x.reconciliation, numberBytes 1 x.window.length,
   numberBytes 2 (spread x.window), presentBytes 2 (x.window.getLast?.map Int.ofNat),
   presentBytes 2 (x.window.head?.map Int.ofNat)]

/-- The fields of a CHANNEL object of an analog channel (R4, R5). -/
def analogLayout (i : Fin 10) (a : AnalogChan) (c : AnalogSettings) : List (List Byte) :=
  [numberBytes 1 i.val, numberBytes 1 0, numberBytes 1 (channelStateCode a.state), numberBytes 2 a.raw,
   presentBytes 2 a.eng, numberBytes 2 a.lastGood, presentBytes 1 (a.cause.map (fun x => (channelCauseCode x : Int))),
   numberBytes 2 a.good,
   flagByte c.enabled, numberBytes 2 c.rawLo, numberBytes 2 c.rawHi, numberBytes 2 c.engLo, numberBytes 2 c.engHi,
   numberBytes 2 c.windowLo, numberBytes 2 c.windowHi, numberBytes 2 c.rateLimit, flagByte c.acceptJumps,
   numberBytes 2 c.holdLimit, numberBytes 1 c.recoverCount, numberBytes 1 c.k]

/-- The fields of a CHANNEL object of a pulse channel (R4, R15, R172). -/
def pulseLayout (i : Fin 3) (p : PulseChan) (setting : List Byte) : List (List Byte) :=
  [numberBytes 1 (i.val + 10 : Nat), numberBytes 1 1, numberBytes 1 (channelStateCode .valid), numberBytes 2 p.raw,
   numberBytes 2 p.eng, numberBytes 2 p.eng, [], numberBytes 2 0, setting]

/-- The fields of a CHANNEL object of a discrete channel (R4, R17, R20, R172). -/
def discreteLayout (s : State) (i : Fin 10) : List (List Byte) :=
  let d := s.inputs.discrete[i]
  [numberBytes 1 (i.val + 13 : Nat), numberBytes 1 2, numberBytes 1 (channelStateCode .valid),
   numberBytes 2 (if d.raw then 1 else 0), numberBytes 2 (if d.level then 1 else 0),
   numberBytes 2 (if d.level then 1 else 0), [], numberBytes 2 d.count] ++
  (if i = 0 then [numberBytes 1 (brakeAgreementCode s.inputs.brake.state)] else []) ++
  [numberBytes 1 (polarityCode (s.settings.polarity[i]))]

/-- The fields of the PROTECTION object (R101, R102, R112). -/
def protectionLayout (s : State) : List (List Byte) :=
  let p := s.prot
  let c := s.settings.prot
  ((List.finRange 5).map (fun i => [flagByte (c.enabled[i]), numberBytes 1 (protStateCode (p.conds[i]).state),
    numberBytes 4 (p.conds[i]).activated.toNat, numberBytes 4 (p.conds[i]).entered.toNat])).flatten ++
  [flagByte s.outputs.o4, flagByte s.outputs.o5, flagByte s.outputs.o6, flagByte p.recirc, expiryBytes p.qualification,
   numberBytes 2 p.ceiling.value.toNat, numberBytes 1 (ceilStateCode p.ceiling.state),
   presentBytes 2 (p.ceiling.steps.map Int.ofNat), numberBytes 4 p.ceiling.entered.toNat,
   numberBytes 1 (autoManualCode c.resumeMode),
   numberBytes 1 c.intakeMin, numberBytes 2 c.emptyReserve, numberBytes 2 c.critical.toNat, numberBytes 2 c.warn.toNat,
   numberBytes 2 c.maxPressure.toNat, numberBytes 2 c.coolantLimit.toNat, numberBytes 1 c.retreatStep.toNat,
   numberBytes 2 c.resumeDelay, numberBytes 1 (autoManualCode c.resumeMode)] ++
  (List.finRange 5).map (fun i => flagByte (c.enabled[i]))

/-- The fields of a TANK object (R120, R121, R133, R137, R141). -/
def tankObjectLayout (s : State) : TankId → List (List Byte)
  | .water =>
    let g := s.gauge
    let c := s.settings.gauge
    tankLayout g.water ++ [numberBytes 2 g.tilt] ++
    [flagByte g.fill.active, presentBytes 2 (g.fill.target.map Int.ofNat), numberBytes 4 g.fill.start.toNat,
     expiryBytes g.fill.timer, presentBytes 1 (g.fill.endReason.map (fun r => (fillReasonCode r : Int))),
     presentBytes 2 (g.fill.finalVolume.map Int.ofNat)] ++
    [flagByte g.leak.armed, presentBytes 2 (g.leak.reference.map Int.ofNat), numberBytes 2 g.leak.bursts,
     numberBytes 1 (burstResultCode g.leak.result), presentBytes 2 (g.leak.resultVolume.map Int.ofNat),
     flagByte g.leak.leak, expiryBytes g.leak.timer] ++
    [numberBytes 2 c.spacing, numberBytes 2 c.gauging, numberBytes 1 c.floor, numberBytes 1 c.water.settleBand,
     numberBytes 2 c.water.reconcileLimit, numberBytes 1 c.water.lowPercent, numberBytes 2 c.fillMaxTime,
     numberBytes 2 c.leakLimit]
  | .foamA => foam s.gauge.foamA s.settings.gauge.foamA s.settings.gauge.ratioA
  | .foamB => foam s.gauge.foamB s.settings.gauge.foamB s.settings.gauge.ratioB
where
  /-- A foam tank: its record, the foam use, its settings. -/
  foam (x : Tank) (c : TankSettings) (ratio : Nat) : List (List Byte) :=
    tankLayout x ++ [numberBytes 1 (foamSelCode s.gauge.foam), numberBytes 1 s.gauge.ratio] ++
    [numberBytes 1 c.settleBand, numberBytes 2 c.reconcileLimit, numberBytes 1 c.lowPercent, numberBytes 1 ratio]

/-- The fields of an ACTION object (R150, R160, R161, R172). -/
def actionLayout (s : State) (a : ActionId) : List (List Byte) :=
  let x := s.lock.action a
  let c := s.settings.lock
  [numberBytes 1 (actionStateCode x.state), (x.contributors.map (fun i => numberBytes 1 i.val)).flatten,
   expiryBytes x.holdOff, numberBytes 4 x.entered.toNat] ++
  (match a with
   | .inhibit => [presentBytes 1 (s.lock.driving.map (fun i => (i.val : Int)))]
   | .rollLimit => [numberBytes 1 (overspeedStateCode s.lock.overspeed), expiryBytes s.lock.overspeedTimer]
   | .idleCap => []) ++
  [numberBytes 2 (actionSettings c a).holdOff, numberBytes 1 (autoManualCode (actionSettings c a).mode)] ++
  (match a with
   | .rollLimit => [numberBytes 2 c.rollSpeedLimit.toNat, numberBytes 2 c.rollRpmMax.toNat,
       numberBytes 1 c.overspeedTime, flagByte c.autoDrop]
   | _ => [])

/-- The fields of an object in the order in which its chapter lists them, the settings after them (R172): the numbers and
widths as log entries 15, 16, 44, 45, 63 to 65 and 76 have them. -/
def recordLayout (s : State) : Obj → List (List Byte)
  | .channel i =>
    if h : i.val < 10 then analogLayout ⟨i.val, h⟩ (s.inputs.analog[i.val]) (s.settings.analog[i.val])
    else if i.val = 10 then pulseLayout 0 (s.inputs.pulse[0]) (numberBytes 1 s.settings.pprMain)
    else if i.val = 11 then pulseLayout 1 (s.inputs.pulse[1]) (numberBytes 1 s.settings.pprAux)
    else if i.val = 12 then pulseLayout 2 (s.inputs.pulse[2]) (numberBytes 2 s.settings.ppl)
    else discreteLayout s ⟨i.val - 13, by omega⟩
  | .rxSlot i =>
    let r := s.chassis.rx[i]
    let c := s.settings.rx[i]
    [numberBytes 1 (slotStateCode r.state), numberBytes 2 r.lastRaw, presentBytes 2 r.decoded,
     numberBytes 4 r.stamp.toNat, numberBytes 2 r.accepted, numberBytes 1 r.rejections, flagByte r.short,
     expiryBytes r.age,
     flagByte c.enabled, numberBytes 4 c.ident.toNat, numberBytes 4 c.mask.toNat, flagByte c.ext,
     presentBytes 1 (c.bound.map (fun q => (q.val : Int))), numberBytes 1 c.byteOffset, numberBytes 1 c.width,
     numberBytes 1 (byteOrderCode c.order), numberBytes 1 (signednessCode c.sign), numberBytes 2 c.multiplier,
     numberBytes 2 c.divisor, numberBytes 2 c.offset, numberBytes 2 c.ageLimit, numberBytes 2 c.jumpLimit,
     flagByte c.naCheck]
  | .txSlot i =>
    let x := s.chassis.tx[i]
    let c := s.settings.tx[i]
    [numberBytes 1 (txStateCode x.state), flagByte x.dueAgain, numberBytes 4 x.lastSent.toNat,
     numberBytes 4 c.ident.toNat, flagByte c.ext, flagByte c.enabled]
  | .quantity q =>
    match boundSlot s.settings q with
    | none => [numberBytes 1 (slotStateCode .empty), [], []]
    | some i => [numberBytes 1 (slotStateCode (s.chassis.rx[i]).state), presentBytes 2 (s.chassis.rx[i]).decoded,
        numberBytes 1 i.val]
  | .drive d =>
    let x := s.pto.drive d
    let c := s.settings.pto
    [numberBytes 1 (driveStateCode x.state), presentBytes 1 (x.cause.map (fun r => (driveCauseCode r : Int))),
     flagByte x.ready, presentBytes 1 (x.reason.map (fun r => (reasonCode r : Int))), flagByte x.waiver,
     numberBytes 4 x.entered.toNat,
     numberBytes 2 c.shiftLimit, numberBytes 2 c.settleTime, numberBytes 2 c.releaseLimit,
     numberBytes 1 c.pumpGear.toNat, numberBytes 2 c.auxEngageSpeed.toNat]
  | .governor =>
    let g := s.gov
    let c := s.settings.gov
    [numberBytes 1 (govModeCode g.mode), presentBytes 1 (g.governed.map (fun d => (driveIndex d : Int))),
     presentBytes 1 (g.windDown.map (fun d => (driveIndex d : Int))), numberBytes 2 g.request.toNat,
     numberBytes 2 g.prevError, flagByte g.firstStep,
     presentBytes 1 (g.resume.map (fun r => (resumeModeCode r : Int))), numberBytes 1 (throttlePathCode g.path),
     numberBytes 2 g.ceiling.toNat, expiryBytes g.hold, expiryBytes g.stop, numberBytes 2 c.pressureSetpoint.toNat,
     numberBytes 2 c.speedSetpoint.toNat,
     numberBytes 2 c.idleRpm.toNat, numberBytes 2 c.govMax.toNat, numberBytes 1 c.ki.toNat, numberBytes 1 c.kp.toNat,
     numberBytes 1 c.deadband.toNat, numberBytes 1 c.riseLimit.toNat, numberBytes 2 c.fallLimit.toNat,
     numberBytes 2 c.fastFallBand.toNat, numberBytes 2 c.fastFallStep.toNat, numberBytes 2 c.holdLimit,
     numberBytes 2 c.pressureSetpoint.toNat, numberBytes 2 c.speedSetpoint.toNat]
  | .protection => protectionLayout s
  | .tank k => tankObjectLayout s k
  | .strap k => [((tankSettings s.settings.gauge k).strap.map
      (fun p => numberBytes 2 p.1 ++ numberBytes 2 p.2)).flatten]
  | .condition i =>
    [flagByte (s.lock.conds[i]).active,
     ((s.settings.lock.actionSets[i]).map (fun a => numberBytes 1 (actionIndex a))).flatten,
     ((fixedActions i).map (fun a => numberBytes 1 (actionIndex a))).flatten,
     numberBytes 4 (s.lock.conds[i]).changed.toNat]
  | .action a => actionLayout s a
  | .timebase =>
    [numberBytes 4 s.time.uptime.toNat, numberBytes 2 s.settings.trim, numberBytes 2 s.time.trimRemainder,
     numberBytes 1 (match s.power.state with | .awake => 0 | .rundown => 0 | .watch => 1 | .waking => 2)]
  | .meters =>
    let m := s.time
    [numberBytes 4 m.mainPumping.value, numberBytes 2 m.mainPumping.remainder, numberBytes 4 m.auxPumping.value,
     numberBytes 2 m.auxPumping.remainder, numberBytes 4 m.roll.value, numberBytes 2 m.roll.remainder,
     numberBytes 4 m.mainPumping.written, numberBytes 4 m.auxPumping.written, numberBytes 4 m.roll.written,
     numberBytes 1 (meterBlockStateCode m.blockState), numberBytes 4 m.lastWrite.toNat]
  | .link =>
    let l := s.link
    let c := s.settings.link
    [numberBytes 4 c.bitRate, numberBytes 1 (parityCode c.parity), flagByte l.framing, flagByte l.parity,
     flagByte l.checksum, flagByte l.overrun, numberBytes 4 l.lastHeard.toNat, numberBytes 2 c.reportPeriod, [l.seq],
     (l.monitors.map (fun m => numberBytes 1 (objectCode m.ref) ++ numberBytes 1 (objectIndex m.ref))).flatten,
     numberBytes 1 ((if l.assembly = [] then 0 else 1) + (if l.awaiting = none then 0 else 1))]
  | .chassis =>
    let c := s.settings.chassis
    [numberBytes 2 c.bitRate, flagByte c.autoRecovery, flagByte c.autoAnswer, numberBytes 1 (portStateCode s.chassis.port),
     numberBytes 1 s.chassis.txErrors, numberBytes 1 s.chassis.rxErrors, numberBytes 1 s.chassis.progress,
     numberBytes 2 c.standstill.toNat]
  | .power =>
    let p := s.power
    [numberBytes 1 (powerStateCode p.state), numberBytes 4 p.entered.toNat, flagByte p.watchPending,
     expiryBytes p.silence, expiryBytes p.rundown, numberBytes 1 (wakeCauseCode p.lastWake),
     numberBytes 2 s.settings.linkIdle]
  | .identity =>
    [numberBytes 2 0x4A5A, numberBytes 2 740, [Config.siliconRevision], (List.finRange 6).map Config.factorySerial,
     numberBytes 1 (copyStateCode s.store.copy), numberBytes 1 (settingsSourceCode s.store.source),
     numberBytes 2 s.store.stores]

/-- Fields as field entries (R172): the number, counted from 1, the length, the value. -/
def entriesLayout (fields : List (List Byte)) : List Byte :=
  ((fields.zipIdx 1).map (fun f => numberBytes 1 f.2 ++ numberBytes 1 f.1.length ++ f.1)).flatten

/-- The objects by their codes and indices (R172). -/
def ObjectsNumbered : Prop :=
  (∀ (code index : Nat) (o : Obj), objectOf code index = some o ↔ code = objectCode o ∧ index = objectIndex o) ∧
  (∀ i, objectCode (.channel i) = 1 ∧ objectIndex (.channel i) = i.val) ∧
  (∀ i, objectCode (.rxSlot i) = 2 ∧ objectIndex (.rxSlot i) = i.val) ∧
  (∀ i, objectCode (.txSlot i) = 3 ∧ objectIndex (.txSlot i) = i.val) ∧
  (∀ i, objectCode (.quantity i) = 4 ∧ objectIndex (.quantity i) = i.val) ∧
  (∀ d, objectCode (.drive d) = 5 ∧ objectIndex (.drive d) = if d = .main then 0 else 1) ∧
  (∀ k, objectCode (.tank k) = 8 ∧ objectCode (.strap k) = 9 ∧ objectIndex (.tank k) = objectIndex (.strap k) ∧
    objectIndex (.tank k) = match k with | .water => 0 | .foamA => 1 | .foamB => 2) ∧
  (∀ i, objectCode (.condition i) = 10 ∧ objectIndex (.condition i) = i.val) ∧
  (∀ a, objectCode (.action a) = 11 ∧
    objectIndex (.action a) = match a with | .inhibit => 0 | .rollLimit => 1 | .idleCap => 2) ∧
  ([Obj.governor, .protection, .timebase, .meters, .link, .chassis, .power, .identity].map
    (fun o => (objectCode o, objectIndex o)) = [(6, 0), (7, 0), (12, 0), (13, 0), (14, 0), (15, 0), (16, 0), (17, 0)])

/-- The named values that records, reports and notices carry are numbered from 0 in the order in which the owning chapter
lists them (R172, R177, R184); the notice kinds have the codes of R184. -/
def NamesNumbered : Prop :=
  [ChannelState.disabled, .warming, .valid, .held, .fault].map channelStateCode = List.range 5 ∧
  [ChannelCause.belowWindow, .aboveWindow, .rateJump].map channelCauseCode = List.range 3 ∧
  [SlotState.disabled, .empty, .fresh, .stale, .notAvailable].map slotStateCode = List.range 5 ∧
  [PortState.errorActive, .errorPassive, .busOff, .recovering, .off].map portStateCode = List.range 5 ∧
  [TxState.idle, .pending, .sending].map txStateCode = List.range 3 ∧
  [DriveState.disengaged, .requested, .shifting, .settling, .engaged, .windingDown, .releasing, .fault].map
    driveStateCode = List.range 8 ∧
  [DriveCause.shiftTimeout, .releaseTimeout, .dropped, .uncommanded, .settleLost, .foundEngaged].map driveCauseCode =
    List.range 6 ∧
  [Reason.notStationary, .parkBrake, .gear, .engineSpeed, .auxSpeed, .brake, .powerState, .otherShift, .windDown,
    .state].map reasonCode = List.range 10 ∧
  [GovMode.off, .idle, .pressure, .speed, .hold, .roll].map govModeCode = List.range 6 ∧
  [ProtState.inactive, .active, .unknown].map protStateCode = List.range 3 ∧
  [ProtEvent.active, .cleared, .unknown, .latched, .free, .disabled].map protEventCode = List.range 6 ∧
  [CeilState.free, .falling, .floor, .waiting, .latched, .rising].map ceilStateCode = List.range 6 ∧
  [TankState.absent, .unknown, .stable, .sloshing, .filling, .fault].map tankStateCode = List.range 6 ∧
  [FillReason.target, .full, .timeout, .stopped, .sensor, .moved, .power].map fillReasonCode = List.range 7 ∧
  [BurstResult.none, .stable, .sloshing, .noReading].map burstResultCode = List.range 4 ∧
  [ActionState.released, .asserted, .holdingOff, .latched, .pending].map actionStateCode = List.range 5 ∧
  [OverspeedState.off, .watching, .timing, .tripped].map overspeedStateCode = List.range 4 ∧
  [PowerState.awake, .rundown, .watch, .waking].map powerStateCode = List.range 4 ∧
  [PowerCause.ignitionOff, .linkSilent, .ignitionOn, .drivesReleased, .rundownTimeout, .ignition, .brk, .settled].map
    powerCauseCode = List.range 8 ∧
  [NoticeClass.alarm, .warning, .info].map noticeClassCode = List.range 3 ∧
  [NoticeKind.linkReady, .settingsDefaulted, .metersDefaulted, .powerState, .channelFault, .channelRecovered, .slotStale,
    .chassisState, .ptoEngaged, .ptoDisengaged, .ptoRefused, .ptoFault, .governorHold, .throttlePathLost, .protect,
    .tankLevel, .tankReconcile, .fillDone, .tankLeak, .lockout, .drivingWithCondition, .rollOverspeed].map
    noticeKindCode = (List.range 22).map (· + 1)

/-- A code or a count in one byte. -/
def codeByte (n : Nat) : Byte := BitVec.ofNat 8 n

/-- The payload of STATUS in the order of R177, an absent value as R184 carries one (log entries 21 and 76). -/
def StatusCarries (s : State) (p : List Byte) : Prop :=
  ∃ r e0 e1 e2 w a b,
    p = [codeByte (driveStateCode s.pto.main.state), codeByte (driveStateCode s.pto.aux.state),
        codeByte (govModeCode s.gov.mode)] ++ r ++
      [codeByte (channelStateCode (s.inputs.analog[(0 : Fin 10)]).state)] ++ e0 ++
      [codeByte (channelStateCode (s.inputs.analog[(1 : Fin 10)]).state)] ++ e1 ++
      [codeByte (channelStateCode (s.inputs.analog[(2 : Fin 10)]).state)] ++ e2 ++
      w ++ [codeByte (tankStateCode s.gauge.water.state)] ++ a ++ [codeByte (tankStateCode s.gauge.foamA.state)] ++
      b ++ [codeByte (tankStateCode s.gauge.foamB.state)] ++
      [codeByte (actionStateCode s.lock.inhibit.state), codeByte (actionStateCode s.lock.rollLimit.state),
       codeByte (actionStateCode s.lock.idleCap.state), codeByte (portStateCode s.chassis.port),
       codeByte (powerStateCode s.power.state), codeByte (if s.notices.lost then 1 else 0)] ∧
    CarriedUnsigned s.engineRequest r ∧ CarriedSigned (s.inputs.analog[(0 : Fin 10)]).eng e0 ∧
    CarriedSigned (s.inputs.analog[(1 : Fin 10)]).eng e1 ∧ CarriedSigned (s.inputs.analog[(2 : Fin 10)]).eng e2 ∧
    CarriedUnsigned (s.gauge.water.reported.map Int.ofNat) w ∧
    CarriedUnsigned (s.gauge.foamA.reported.map Int.ofNat) a ∧ CarriedUnsigned (s.gauge.foamB.reported.map Int.ofNat) b

/-- The payload of a notice frame (R178): kind, class, subject, timestamp, repeat count, detail. -/
def noticeLayout (e : Entry) : List Byte :=
  [codeByte (noticeKindCode e.kind), codeByte (noticeClassCode e.cls), codeByte e.subject] ++
  numberBytes 4 e.stamp.toNat ++ [codeByte e.repeats] ++ e.detail

/-! ### Rounding -/

/-- `r` is `num / den` rounded half away from zero (R2): no integer is nearer, and of two equally near it is the one
further from zero. -/
def RoundsHalfAway (num : Int) (den : Nat) (r : Int) : Prop :=
  2 * (num - den * r).natAbs ≤ den ∧ (2 * (num - den * r).natAbs = den → num.natAbs ≤ (den * r).natAbs)

/-! ### Drives -/

/-- The output that drives a drive's solenoid (R57). -/
def solenoid (s : State) : DriveId → Bool
  | .main => s.outputs.o0
  | .aux => s.outputs.o1

/-- The engine turns slowly enough (R60, R61, R67): ENGINE_SPEED is usable and at most idle_rpm + 200. -/
def EngineSlow (s : State) : Prop := ∃ v, s.quantity 1 = some v ∧ v ≤ s.settings.gov.idleRpm + 200

/-- A quantity is usable and set (not 0). -/
def SetQuantity (s : State) (q : Fin 6) : Prop := ∃ v, s.quantity q = some v ∧ v ≠ 0

/-- The other drive has the shift: it is SHIFTING or RELEASING (R58). -/
def OtherShifts (s : State) (d : DriveId) : Prop := (s.pto.drive (otherDrive d)).state ∈ [.shifting, .releasing]

/-- The conditions on which a drive may enter SHIFTING, in the order of R60 and R61, each with its reason code. -/
def engageConditions (s : State) : DriveId → List (Reason × Prop)
  | .main => [(.notStationary, s.vehicle = .stationary), (.parkBrake, SetQuantity s 3 ∧ s.level 0 = true),
      (.gear, s.quantity 2 = some 0), (.engineSpeed, EngineSlow s), (.powerState, s.power.state = .awake),
      (.otherShift, ¬ OtherShifts s .main)]
  | .aux => [(.auxSpeed, ∃ v, s.quantity 0 = some v ∧ v ≤ s.settings.pto.auxEngageSpeed), (.engineSpeed, EngineSlow s),
      (.brake, s.level 0 = true ∨ SetQuantity s 4), (.powerState, s.power.state = .awake),
      (.otherShift, ¬ OtherShifts s .aux)]

/-- The conditions on which a drive with the given waiver may leave WINDING_DOWN, in the order of R67. -/
def releaseConditions (s : State) (d : DriveId) (waiver : Bool) : List (Reason × Prop) :=
  [(.engineSpeed, waiver = true ∨ EngineSlow s), (.gear, waiver = true ∨ d = .aux ∨ s.quantity 2 = some 0),
   (.otherShift, ¬ OtherShifts s d)]

/-- The reason is that of the first condition not met, or absent when all are met (R62, R67). -/
def FirstUnmet : List (Reason × Prop) → Option Reason → Prop
  | [], r => r = none
  | (n, p) :: rest, r => (¬ p → r = some n) ∧ (p → FirstUnmet rest r)

/-- The drive after an ENGAGE taken in DISENGAGED (R59 to R63), by the first condition not met: with one it waits in
REQUESTED; with none it shifts, or settles at once when its feedback is on. -/
structure EngageTaken (s t : State) (d : DriveId) (r : Option Reason) : Prop where
  reason : (t.pto.drive d).reason = r
  entered : (t.pto.drive d).entered = s.time.uptime
  waiver : (t.pto.drive d).waiver = false
  waits : r ≠ none → (t.pto.drive d).state = .requested ∧ (t.pto.drive d).window = some (s.time.uptime + 2000#32) ∧
    solenoid t d = false
  driven : r = none → solenoid t d = true ∧ (t.pto.drive d).window = none ∧ (t.pto.drive d).uncommanded = none
  shifts : r = none → s.feedback d = false → (t.pto.drive d).state = .shifting ∧
    (t.pto.drive d).shift = some (s.time.uptime + BitVec.ofNat 32 s.settings.pto.shiftLimit)
  settles : r = none → s.feedback d = true → (t.pto.drive d).state = .settling

/-- A drive's pump turns under drive (R65). -/
def PumpTurns (s : State) : DriveId → Prop
  | .main => s.quantity 2 = some s.settings.pto.pumpGear ∧ 300 ≤ (s.inputs.pulse[(0 : Fin 3)]).eng
  | .aux => 300 ≤ (s.inputs.pulse[(1 : Fin 3)]).eng

/-- A drive in RELEASING with its release timer running (R68). -/
def ReleasingFrom (s : State) (x : Drive) : Prop :=
  x.state = .releasing ∧ x.release = some (s.time.uptime + BitVec.ofNat 32 s.settings.pto.releaseLimit) ∧
  x.waiver = false ∧ x.reason = none ∧ x.entered = s.time.uptime

/-- A source of the conditions of R60 and R61 has changed between two states: the vehicle's speed, the engine's, for MAIN the
gear and the parking brake, for AUX the service brake, D0, the power state, or the other drive's state. -/
def EngageSourceChanged (s t : State) (d : DriveId) : Prop :=
  s.quantity 0 ≠ t.quantity 0 ∨ s.quantity 1 ≠ t.quantity 1 ∨
  (d = .main ∧ (s.quantity 2 ≠ t.quantity 2 ∨ s.quantity 3 ≠ t.quantity 3)) ∨
  (d = .aux ∧ s.quantity 4 ≠ t.quantity 4) ∨ BrakeSwitchChanged s t ∨ s.power.state ≠ t.power.state ∨
  (s.pto.drive (otherDrive d)).state ≠ (t.pto.drive (otherDrive d)).state

/-- A source of the release conditions of R67 has changed between two states: the engine's speed, for MAIN the gear, or the
other drive's state. -/
def ReleaseSourceChanged (s t : State) (d : DriveId) : Prop :=
  s.quantity 1 ≠ t.quantity 1 ∨ (d = .main ∧ s.quantity 2 ≠ t.quantity 2) ∨
  (s.pto.drive (otherDrive d)).state ≠ (t.pto.drive (otherDrive d)).state

/-- The pending refusal reason is the first condition not met, and there is one (R62, R67). -/
def WaitsFor (conditions : List (Reason × Prop)) (reason : Option Reason) : Prop :=
  FirstUnmet conditions reason ∧ reason ≠ none

/-- Both drives are released for the power controller (R190, R191): each DISENGAGED, or in FAULT with its feedback off. -/
def DrivesReleased (s : State) : Prop :=
  ∀ d : DriveId, (s.pto.drive d).state = .disengaged ∨ ((s.pto.drive d).state = .fault ∧ s.feedback d = false)

/-- A drive keeps the shift to itself through a rundown release of both (R58, R68): it is RELEASING, or SHIFTING with its
feedback on, or it is MAIN, taken first, and its clutch is closed. -/
def KeepsShift (s : State) (d : DriveId) : Prop :=
  (s.pto.drive d).state = .releasing ∨ ((s.pto.drive d).state = .shifting ∧ s.feedback d = true) ∨
  (d = .main ∧ (s.pto.drive d).state ∈ [.settling, .engaged, .windingDown] ∧ s.feedback d = true)

/-- What the rundown release does to a drive, `s` before and `t` after the entry to RUNDOWN (R70). -/
structure RundownTaken (s t : State) (d : DriveId) : Prop where
  stays : (s.pto.drive d).state ∈ [.disengaged, .releasing, .fault] →
    (t.pto.drive d).state = (s.pto.drive d).state ∧ (t.pto.drive d).cause = (s.pto.drive d).cause
  refused : (s.pto.drive d).state = .requested → (t.pto.drive d).state = .disengaged ∧ (t.pto.drive d).window = none ∧
    (RoomLeft s.notices →
      WarningWaits .ptoRefused (driveIndex d) [BitVec.ofNat 8 (reasonCode .powerState)] t.notices)
  released : (s.pto.drive d).state = .shifting ∨ ((s.pto.drive d).state ∈ [.settling, .engaged, .windingDown] ∧
      ¬ KeepsShift s (otherDrive d)) →
    solenoid t d = false ∧ (s.feedback d = true → ReleasingFrom s (t.pto.drive d)) ∧
    (s.feedback d = false → (t.pto.drive d).state = .disengaged ∧
      (RoomLeft s.notices → NoticeWaits .ptoDisengaged (driveIndex d) [] t.notices))
  waits : (s.pto.drive d).state ∈ [.settling, .engaged, .windingDown] → KeepsShift s (otherDrive d) →
    (t.pto.drive d).state = .windingDown ∧ (t.pto.drive d).waiver = true ∧
    (t.pto.drive d).reason = some .otherShift ∧ solenoid t d = true

/-- An AWAKE or RUNDOWN part has found every drive released and proceeds toward WATCH (R191, R192): watch pending, a meter
write due, the rundown timer stopped. -/
def TowardWatch (cause : PowerCause) (t : State) : Prop :=
  t.power.watchPending = true ∧ t.power.watchCause = cause ∧ t.power.rundown = none ∧ t.time.writeDue = true

/-- No timer of a drive runs (R76). -/
def NoTimers (x : Drive) : Prop :=
  x.window = none ∧ x.shift = none ∧ x.settle = none ∧ x.release = none ∧ x.windDown = none ∧ x.uncommanded = none ∧
  x.recheck = none

/-- A drive record just entered into FAULT from another record (R73). -/
def faultedDrive (now : Uptime) (c : DriveCause) (x : Drive) : Drive :=
  { state := .fault, cause := some c, ready := false, reason := none, waiver := false, entered := now,
    shiftStart := x.shiftStart, window := none, shift := none, settle := none, release := none, windDown := none,
    uncommanded := none, recheck := none }

/-! ### Governor and protection -/

/-- The contents of the governor's record at entry to OFF (R81). -/
def EnteredOff (c : GovSettings) (g : Governor) : Prop :=
  g.mode = .off ∧ g.request = c.idleRpm ∧ g.prevError = 0 ∧ g.firstStep = false ∧ g.resume = none ∧ g.windDown = none ∧
  g.hold = none ∧ g.stop = none

/-- The contents of the governor's record at entry to ROLL, with the resume mode that R86 gives (R82). -/
def EnteredRoll (c : GovSettings) (resume : Option ResumeMode) (g : Governor) : Prop :=
  g.mode = .roll ∧ g.request = c.idleRpm ∧ g.firstStep = false ∧ g.hold = none ∧ g.stop = none ∧ g.windDown = none ∧
  g.resume = resume

/-- The ceilings in force (R91): gov_max, the protection ceiling, idle_rpm + 100 while IDLE_CAP is ASSERTED, and
roll_rpm_max while ROLL_LIMIT is ASSERTED. -/
def ceilingsInForce (s : State) : List Int :=
  [s.settings.gov.govMax, s.prot.ceiling.value] ++
  (if s.lock.idleCap.state = .asserted then [s.settings.gov.idleRpm + 100] else []) ++
  (if s.lock.rollLimit.state = .asserted then [s.settings.lock.rollRpmMax] else [])

/-- The least of the ceilings in force (R91). -/
def LeastCeiling (s : State) (c : Int) : Prop := c ∈ ceilingsInForce s ∧ ∀ x ∈ ceilingsInForce s, c ≤ x

/-- A GOVERN would be accepted (R87). -/
def GovernTaken (s : State) : Prop :=
  (s.gov.governed = some .main ∨ (s.gov.governed = some .aux ∧ s.vehicle = .stationary)) ∧
  s.gov.mode ≠ .roll ∧ s.gov.path = .available

/-- The governed discharge channel (R79): A0 for MAIN, A2 for AUX. -/
def IsDischarge (s : State) (a : AnalogChan) : Prop :=
  (s.gov.governed = some .main ∧ a = s.inputs.analog[(0 : Fin 10)]) ∨
  (s.gov.governed = some .aux ∧ a = s.inputs.analog[(2 : Fin 10)])

/-- An analog channel reads a value: it is usable, with an engineering value (R1). -/
def Reads (a : AnalogChan) (v : Int) : Prop := (a.state = .valid ∨ a.state = .held) ∧ a.eng = some v

/-- An analog channel is lost (R103, R125): FAULT or DISABLED. -/
def Lost (a : AnalogChan) : Prop := a.state = .fault ∨ a.state = .disabled

/-- A protection condition's source is lost (R104 to R108). For P3 a source without a governed drive is not judged. -/
def SourceLost (s : State) (i : Fin 5) : Prop :=
  match i with
  | 0 => Lost s.inputs.analog[(1 : Fin 10)]
  | 1 => s.gauge.water.state = .absent
  | 2 => Lost s.inputs.analog[(7 : Fin 10)]
  | 3 => ∃ a, IsDischarge s a ∧ Lost a
  | 4 => ∀ k : Fin 16, boundSlot s.settings 5 = some k →
      (s.chassis.rx[k]).state = .disabled ∨ (s.chassis.rx[k]).state = .stale ∨ (s.chassis.rx[k]).state = .notAvailable

/-- A protection condition's source is not yet known (R104 to R108). -/
def SourceNotYetKnown (s : State) (i : Fin 5) : Prop :=
  match i with
  | 0 => (s.inputs.analog[(1 : Fin 10)]).state = .warming
  | 1 => s.gauge.water.state ≠ .absent ∧ s.gauge.water.reported = none
  | 2 => (s.inputs.analog[(7 : Fin 10)]).state = .warming
  | 3 => ∃ a, IsDischarge s a ∧ a.state = .warming
  | 4 => ∃ k : Fin 16, boundSlot s.settings 5 = some k ∧ (s.chassis.rx[k]).state = .empty

/-- A protection condition is not applicable, its source being neither lost nor unknown where that goes first (R104 to
R107). -/
def SourceNotApplicable (s : State) (i : Fin 5) : Prop :=
  match i with
  | 0 => (∃ v, Reads s.inputs.analog[(1 : Fin 10)] v) ∧ s.gov.governed ≠ some .main
  | 1 => s.gauge.water.state ≠ .absent ∧ s.gauge.water.reported ≠ none ∧ s.level 5 = false
  | 3 => s.gov.governed = none
  | _ => False

/-- A protection condition's source gives a value that its tests judge (R104 to R108). -/
def SourceGives (s : State) (i : Fin 5) (v : Int) : Prop :=
  match i with
  | 0 => Reads s.inputs.analog[(1 : Fin 10)] v ∧ s.gov.governed = some .main
  | 1 => s.gauge.water.state ≠ .absent ∧ s.level 5 = true ∧ ∃ n : Nat, s.gauge.water.reported = some n ∧ v = n
  | 2 => Reads s.inputs.analog[(7 : Fin 10)] v
  | 3 => ∃ a, IsDischarge s a ∧ Reads a v
  | 4 => ∃ k : Fin 16, boundSlot s.settings 5 = some k ∧ (s.chassis.rx[k]).state = .fresh ∧
      (s.chassis.rx[k]).decoded = some v

/-- The activating test of a condition (R104 to R108); P0 has none at a step. -/
def Activating (c : ProtSettings) (i : Fin 5) (v : Int) : Prop :=
  match i with
  | 0 => False
  | 1 => v ≤ c.emptyReserve
  | 2 => c.critical ≤ v
  | 3 => c.maxPressure ≤ v
  | 4 => c.coolantLimit ≤ v

/-- The clearing test of a condition (R104 to R108). -/
def Clearing (c : ProtSettings) (i : Fin 5) (v : Int) : Prop :=
  match i with
  | 0 => c.intakeMin + 30 ≤ v
  | 1 => (c.emptyReserve : Int) + 100 < v
  | 2 => v < c.critical - 50
  | 3 => v < c.maxPressure - 150
  | 4 => v < c.coolantLimit - 30

/-- Some enabled condition is ACTIVE (R112). -/
def SomeActive (s : State) : Prop :=
  ∃ i : Fin 5, s.settings.prot.enabled[i] = true ∧ (s.prot.conds[i]).state = .active

/-- The three facts on which P0 qualifies (R104). -/
def CavitationFacts (s : State) : Prop :=
  s.gov.governed = some .main ∧ s.settings.gov.idleRpm + 300 < s.gov.request ∧
  ((s.inputs.analog[(1 : Fin 10)]).state = .valid ∨ (s.inputs.analog[(1 : Fin 10)]).state = .held) ∧
  (s.inputs.analog[(1 : Fin 10)]).eng.getD 0 < s.settings.prot.intakeMin

/-! ### Tanks -/

/-- A water transducer reads above the floor (R126). -/
def Wet (s : State) (a : AnalogChan) (v : Int) : Prop := Reads a v ∧ (s.settings.gauge.floor : Int) < v

/-- A water transducer reads at or below the floor, as a lost one counts (R126). -/
def Dry (s : State) (a : AnalogChan) : Prop := Lost a ∨ ∃ v, Reads a v ∧ v ≤ s.settings.gauge.floor

/-- The centre level of WATER from A3 in front and A4 in the rear, with the tilt difference and the partial flag (R125,
R126). None when a transducer is not yet known or both are lost. -/
def CentreLevel (s : State) (h : Nat) (tilt : Int) (part : Bool) : Prop :=
  let front := s.inputs.analog[(3 : Fin 10)]
  let rear := s.inputs.analog[(4 : Fin 10)]
  let c := s.settings.gauge
  ¬ (Lost front ∧ Lost rear) ∧
  ((∃ f b q, Wet s front f ∧ Wet s rear b ∧ RoundsHalfAway ((f - b) * c.gauging) c.spacing q ∧
      (h : Int) = max 0 (b + q) ∧ tilt = f - b ∧ part = false) ∨
   (∃ b q, Dry s front ∧ Wet s rear b ∧ RoundsHalfAway (s.gauge.tilt * c.gauging) c.spacing q ∧
      (h : Int) = max 0 (b + q) ∧ tilt = s.gauge.tilt ∧ part = true) ∨
   (∃ f q, Wet s front f ∧ Dry s rear ∧ RoundsHalfAway (s.gauge.tilt * ((c.spacing : Int) - c.gauging)) c.spacing q ∧
      (h : Int) = max 0 (f - q) ∧ tilt = s.gauge.tilt ∧ part = true) ∨
   (Dry s front ∧ Dry s rear ∧ h = 0 ∧ tilt = s.gauge.tilt ∧ part = true))

/-- The levels of a window lie within a band of one another (R129, R130). -/
def WithinBand (w : List Nat) (band : Nat) : Prop := ∀ a ∈ w, ∀ b ∈ w, a ≤ b + band

/-- `m` is `sum / n` rounded half up (R129, R138). -/
def RoundsHalfUp (sum n m : Nat) : Prop := 2 * n * m ≤ 2 * sum + n ∧ 2 * sum + n < 2 * n * (m + 1)

/-- The fill conditions of R137. -/
def FillTaken (s : State) : Prop :=
  s.gauge.water.state ≠ .absent ∧ s.gauge.water.state ≠ .fault ∧ s.vehicle = .stationary ∧ s.power.state = .awake ∧
  s.gauge.fill.active = false

/-- A tank that is not FILLING after a gauge event that computed a level (R129, R130): the level joins the window, the
newest 16; a full window within the settle band makes a STABLE result, a full one beyond it SLOSHING, or UNKNOWN without
a last stable volume; with the window not full UNKNOWN and FAULT stay, and STABLE and SLOSHING become SLOSHING (STABLE
with such a window: log entry 46). -/
def LevelJudged (c : TankSettings) (x y : Tank) (h : Nat) (part : Bool) : Prop :=
  ∀ w, w = newest 16 (x.window ++ [h]) →
    y.centre = some h ∧ y.partialFlag = part ∧ y.window = w ∧
    (w.length = 16 → WithinBand w c.settleBand → y.state = .stable ∧ y.consumed = 0 ∧ y.remainder = 0 ∧
      y.lastStable = y.reported ∧
      ∀ m, RoundsHalfUp w.sum 16 m → y.stable = some m ∧ y.reported = some (volumeOf c.strap m)) ∧
    (w.length = 16 → ¬ WithinBand w c.settleBand → y.state = if x.lastStable.isSome then .sloshing else .unknown) ∧
    (w.length < 16 → y.state = if x.state = .stable then .sloshing else x.state)

/-- A tank that is not FILLING after a gauge event that finds its transducers lost (R125, R129, R130): FAULT, the window
emptied at the entry to it. -/
def LevelLost (x y : Tank) : Prop :=
  y.state = .fault ∧ y.window = (if x.state = .fault then x.window else []) ∧ y.centre = x.centre

/-- A tank that is not FILLING after a gauge event that finds a transducer not yet known (R125, R130). -/
def LevelAwaited (x y : Tank) : Prop :=
  y.window = x.window ∧ y.centre = x.centre ∧ y.state = if x.state = .stable then .sloshing else x.state

/-- The reported volume without a STABLE result (R130): in SLOSHING and FAULT the estimate, in UNKNOWN none. -/
def VolumeEstimated (x y : Tank) : Prop :=
  (y.state = .sloshing ∨ y.state = .fault →
    y.lastStable = x.lastStable ∧ y.reported = x.lastStable.map (fun v => v - y.consumed)) ∧
  (y.state = .unknown → y.reported = none ∧ y.lastStable = x.lastStable)

/-- The LOW and EMPTY flags of a tank, `x` before and `y` after, judged on a reported volume (R136). -/
def FlagsJudged (s : State) (k : TankId) (x y : Tank) (v : Nat) : Prop :=
  ∀ (c : TankSettings) (cap low lowClear emptyAt emptyClear : Nat), c = tankSettings s.settings.gauge k →
    cap = capacityOf c.strap → RoundsHalfUp (cap * c.lowPercent) 100 low →
    RoundsHalfUp (cap * (c.lowPercent + 2)) 100 lowClear →
    (k = .water ∧ emptyAt = s.settings.prot.emptyReserve ∧ emptyClear = s.settings.prot.emptyReserve + 100) ∨
      (k ≠ .water ∧ RoundsHalfUp (cap * 5) 100 emptyAt ∧ RoundsHalfUp (cap * 7) 100 emptyClear) →
    (v ≤ low → y.low = true) ∧ (low < v → lowClear < v → y.low = false) ∧ (low < v → v ≤ lowClear → y.low = x.low) ∧
    (v ≤ emptyAt → y.empty = true) ∧ (emptyAt < v → emptyClear < v → y.empty = false) ∧
    (emptyAt < v → v ≤ emptyClear → y.empty = x.empty)

/-- A change of a tank's LOW or EMPTY flag, `x` before and `y` after, is told by TANK_LEVEL (R136, R184): the flag, SET or
CLEARED, and the reported volume; a WARNING when it is set. Of LOW and EMPTY changing at one event, the one notice that R181
leaves of the two has EMPTY's detail. -/
def FlagsTold (k : TankId) (x y : Tank) (v : Nat) (q : NoticeQueue) : Prop :=
  (y.empty ≠ x.empty →
    NoticeWaits .tankLevel (tankIndex k) ([1#8, if y.empty then 0#8 else 1#8] ++ noticeU16 (some v)) q ∧
    (y.empty = true →
      WarningWaits .tankLevel (tankIndex k) ([1#8, 0#8] ++ noticeU16 (some v)) q)) ∧
  (y.low ≠ x.low → y.empty = x.empty →
    NoticeWaits .tankLevel (tankIndex k) ([0#8, if y.low then 0#8 else 1#8] ++ noticeU16 (some v)) q ∧
    (y.low = true → WarningWaits .tankLevel (tankIndex k) ([0#8, 0#8] ++ noticeU16 (some v)) q))

/-- What stage 1 of a gauge event draws from a tank (R132, R134): the flow, what joins the remainder and by what that is
divided, and whether the tank is drawn on, a foam tank being so while it is selected. -/
def Draws (s : State) (k : TankId) (q amount unit : Nat) (drawn : Bool) : Prop :=
  (q : Int) = (s.inputs.pulse[(2 : Fin 3)]).eng ∧
  ((k = .water ∧ drawn = true ∧ amount = q * 50 ∧ unit = 60000) ∨
    (k = .foamA ∧ (drawn = true ↔ s.gauge.foam = .foamA) ∧ amount = q * s.gauge.ratio * 50 ∧ unit = 60000000) ∨
    (k = .foamB ∧ (drawn = true ↔ s.gauge.foam = .foamB) ∧ amount = q * s.gauge.ratio * 50 ∧ unit = 60000000))

/-- The consumed volume `n` and the remainder `r` that stage 1 leaves a tank `x` (R132, R134), the remainder short of the
top of its range: both stand without a draw; else the quotient is carried, up to 65535, and once consumed has saturated the
remainder accumulates alone. -/
def Accrued (x : Tank) (q amount unit : Nat) (drawn : Bool) (n r : Nat) : Prop :=
  ((drawn = false ∨ q = 0) ∧ n = x.consumed ∧ r = x.remainder) ∨
  (drawn = true ∧ 0 < q ∧ x.remainder + amount ≤ 4294967295 ∧
    ((x.consumed < 65535 ∧ n = min 65535 (x.consumed + (x.remainder + amount) / unit) ∧
        r = (x.remainder + amount) % unit) ∨
      (x.consumed = 65535 ∧ n = 65535 ∧ r = x.remainder + amount)))

/-- A tank, `x` as stage 1 of the event leaves it and `y` after the event, is reconciled when it moves to STABLE from
SLOSHING or FAULT with a last stable volume; the difference then goes to its record, and TANK_RECONCILE is posted when it
is beyond the limit (R131). -/
def Reconciled (k : TankId) (c : TankSettings) (x y : Tank) (room : Prop) (q : NoticeQueue) : Prop :=
  (∀ l v, y.state = .stable → x.state = .sloshing ∨ x.state = .fault → x.lastStable = some l → y.reported = some v →
    ∀ d : Int, d = (v : Int) - ((l - x.consumed : Nat) : Int) → y.reconciliation = some d ∧
      (room → c.reconcileLimit < d.natAbs →
        WarningWaits .tankReconcile (tankIndex k) (noticeTankReconcile k (l - x.consumed) v d).detail q)) ∧
  (y.state ≠ .stable ∨ ¬ (x.state = .sloshing ∨ x.state = .fault) ∨ x.lastStable = none →
    y.reconciliation = x.reconciliation)

/-- A fill ended with a reason and a final volume, and WATER as it leaves FILLING with a window, for a reason other than
SENSOR (R139, R140). -/
def FillEndedWith (s : State) (r : FillReason) (final : Option Nat) (window : List Nat) (g : TankGauge) : Prop :=
  g.fill = { s.gauge.fill with active := false, target := none, timer := none, endReason := some r,
                               finalVolume := final } ∧
  g.water.lastStable = final ∧ g.water.consumed = 0 ∧ g.water.remainder = 0 ∧
  g.water.window = window ∧ g.water.reported = final ∧
  g.water.state = (if final.isSome then .sloshing else .unknown)

/-- A fill ended with a reason other than SENSOR, between two gauge events. -/
def FillEnded (s : State) (r : FillReason) (g : TankGauge) : Prop :=
  FillEndedWith s r s.gauge.water.reported s.gauge.water.window g

/-- FILL_DONE waits (R139): the reason, the final volume, and the whole seconds since the start, rounded half away from
zero (R2). -/
def FillDoneWaits (s : State) (r : FillReason) (final : Option Nat) (q : NoticeQueue) : Prop :=
  ∀ n : Nat, RoundsHalfAway ((s.time.uptime - s.gauge.fill.start).toNat : Int) 1000 n →
    NoticeWaits .fillDone 0 (u8 (fillReasonCode r) ++ noticeU16 final ++ noticeU16 (some n)) q

/-- A fill ended with SENSOR between two gauge events, and WATER as it leaves FILLING (R139, R140; log entry 36 where there is
no final volume). -/
def FillEndedSensor (s : State) (g : TankGauge) : Prop :=
  g.fill = { s.gauge.fill with active := false, target := none, timer := none, endReason := some .sensor,
                               finalVolume := s.gauge.water.reported } ∧
  g.water.state = .fault ∧ g.water.window = [] ∧ g.water.consumed = 0 ∧ g.water.remainder = 0 ∧
  g.water.lastStable = s.gauge.water.reported ∧ g.water.reported = s.gauge.water.reported

/-- Both of WATER's transducers are lost (R125, R139). -/
def WaterLost (s : State) : Prop := Lost s.inputs.analog[(3 : Fin 10)] ∧ Lost s.inputs.analog[(4 : Fin 10)]

/-- The settings whose change restarts WATER (R123). -/
def waterGeometry (c : Settings) : List (Nat × Nat) × Nat × Nat × Nat :=
  (c.gauge.water.strap, c.gauge.spacing, c.gauge.gauging, c.gauge.floor)

/-- A fill is active only while the vehicle is stationary and the part is AWAKE, and WATER is then FILLING (R137, R138). -/
def FillFollows (s : State) : Prop :=
  s.gauge.fill.active = true → s.vehicle = .stationary ∧ s.power.state = .awake ∧ s.gauge.water.state = .filling

/-! ### Records that follow one another -/

/-- The governor follows the drives, the vehicle and the port (R79 to R85). -/
structure GovernorFollows (s : State) : Prop where
  pumping : s.gov.mode ∈ [.pressure, .speed, .hold] →
    s.gov.governed = some .main ∨ (s.gov.governed = some .aux ∧ s.vehicle = .stationary)
  rolling : s.gov.mode = .roll → s.gov.governed = some .aux
  rollsWithAux : s.gov.governed = some .aux → s.vehicle ≠ .stationary → s.gov.mode = .roll
  off : s.gov.mode = .off → s.gov.governed = none ∧ s.gov.windDown = none
  none : s.gov.governed = none → s.gov.mode = .off ∨ (s.gov.mode = .idle ∧ s.gov.windDown ≠ none)
  windDown : ∀ d, s.gov.windDown = some d → s.gov.governed = .none ∧ (s.pto.drive d).state = .windingDown ∧
    (d = .aux → s.vehicle = .stationary)
  stop : s.gov.stop ≠ .none ↔ s.gov.mode = .roll ∧ s.vehicle = .stationary
  path : s.gov.path = .lost ↔ s.chassis.port = .busOff ∨ s.chassis.port = .recovering
  throttle : s.gov.mode ∈ [.pressure, .speed, .hold] → s.gov.path = .available

/-- A lockout condition's sources make it active (R147). -/
def ConditionMet (s : State) (i : Fin 11) : Prop :=
  match i with
  | 0 => s.pto.main.state ≠ .disengaged
  | 1 => s.pto.aux.state ≠ .disengaged
  | 2 => s.gauge.fill.active = true ∨ s.level 9 = true
  | 3 => s.level 6 = false
  | 4 => s.level 7 = false
  | 5 => s.level 4 = true
  | 6 => s.quantity 0 = none
  | 7 => s.inputs.brake.state = .disagree
  | 8 => s.chassis.port = .busOff ∨ s.chassis.port = .recovering
  | 9 => s.pto.main.state = .fault ∨ s.pto.aux.state = .fault
  | 10 => s.lock.forced = true

/-- An action's contributing set (R150): the active conditions whose action set holds it. -/
def Contributes (s : State) (a : ActionId) (i : Fin 11) : Prop :=
  (s.lock.conds[i]).active = true ∧ a ∈ s.settings.lock.actionSets[i]

/-- In a working part the records of one block follow those it reads (R65, R79 to R85, R104, R148, R150, R151, R161). MAIN's
departure from DISENGAGED and a fill's start are taken before the first evaluation too (R148, R157). -/
structure RecordsFollow (s : State) : Prop where
  mainReady : s.pto.main.ready = true ↔ s.pto.main.state = .engaged ∧ PumpTurns s .main
  auxReady : s.pto.aux.ready = true ↔ s.pto.aux.state = .engaged ∧ PumpTurns s .aux
  governedMain : s.gov.governed = some .main ↔ s.pto.main.ready = true
  governedAux : s.gov.governed = some .aux ↔ s.pto.main.ready = false ∧ s.pto.aux.ready = true
  governor : GovernorFollows s
  qualifies : s.prot.qualification.isSome = true ↔
    s.settings.prot.enabled[(0 : Fin 5)] = true ∧ (s.prot.conds[(0 : Fin 5)]).state = .inactive ∧ CavitationFacts s
  conditions : s.lock.evaluated = true → ∀ i : Fin 11, (s.lock.conds[i]).active = true ↔ ConditionMet s i
  contributors : s.lock.evaluated = true → ∀ (a : ActionId) (i : Fin 11),
    i ∈ (s.lock.action a).contributors ↔ Contributes s a i
  handedMain : (s.lock.conds[(0 : Fin 11)]).active = true ↔ s.pto.main.state ≠ .disengaged
  handedFill : s.gauge.fill.active = true → (s.lock.conds[(2 : Fin 11)]).active = true
  withheld : ∀ i ∈ [(0 : Fin 11), 2], Contributes s .inhibit i → i ∈ s.lock.inhibit.contributors
  deferred : s.lock.inhibit.state ≠ .pending ∧ s.lock.rollLimit.state ≠ .pending
  permit : s.lock.inhibit.contributors ≠ [] → s.lock.inhibit.state = .asserted
  rollLimit : s.lock.rollLimit.contributors ≠ [] → s.lock.rollLimit.state = .asserted
  idleCap : s.lock.idleCap.contributors ≠ [] → s.lock.idleCap.state = .asserted ∨ s.lock.idleCap.state = .pending
  overspeed : s.lock.overspeed = .off ↔ s.pto.aux.state = .disengaged

/-- The fixed actions of R149 stand in the action sets: INHIBIT in those of C0 and C2. -/
def FixedActions (c : Settings) : Prop :=
  .inhibit ∈ c.lock.actionSets[(0 : Fin 11)] ∧ .inhibit ∈ c.lock.actionSets[(2 : Fin 11)]

/-- What the drive permit rests on (R157): the fixed actions, and outputs and records that follow one another. -/
structure PermitSound (s : State) : Prop where
  working : FixedActions s.settings
  stored : FixedActions s.nv.stored
  outputs : OutputsSound s
  records : s.working = true → RecordsFollow s

/-! ### Changes of settings -/

/-- What a change of settings does to an analog channel (R13): a change of scaling or window restarts it. -/
def ChannelRetuned (old new : AnalogSettings) (a b : AnalogChan) : Prop :=
  (old.enabled = true → new.enabled = false → b = analogStart false) ∧
  (old.enabled = false → new.enabled = true → b = analogStart true) ∧
  (∀ restarts : Bool, (restarts = true ↔ (old.rawLo, old.rawHi, old.engLo, old.engHi, old.windowLo, old.windowHi) ≠
      (new.rawLo, new.rawHi, new.engLo, new.engHi, new.windowLo, new.windowHi)) →
    (old.enabled = true → new.enabled = true → restarts = true →
      b = { a with state := .warming, hold := none, cause := none, eng := none, good := 0 }) ∧
    (old.enabled = new.enabled → restarts = false → b = a))

/-- What a change of settings does to a receive slot (R33): a change of the settings that decode it empties it. -/
def SlotRetuned (old new : RxSettings) (a b : RxSlot) : Prop :=
  (old.enabled = true → new.enabled = false → b = rxStart false) ∧
  (old.enabled = false → new.enabled = true → b = rxStart true) ∧
  (old.enabled = true → new.enabled = true →
    ({ old with ageLimit := new.ageLimit, jumpLimit := new.jumpLimit } ≠ new →
      b = { a with state := .empty, age := none, decoded := none, rejections := 0, short := false }) ∧
    ({ old with ageLimit := new.ageLimit, jumpLimit := new.jumpLimit } = new → b = a))

/-- What a change of gov_max and idle_rpm does to the protection ceiling (R117), `m` being its value after gov_max. -/
def CeilingRetuned (s t : State) : Prop :=
  ∀ (x y : Ceiling) (old new : GovSettings) (m : Int), x = s.prot.ceiling → y = t.prot.ceiling → old = s.settings.gov →
    new = t.settings.gov →
    (new.govMax < old.govMax → m = min x.value new.govMax) →
    (old.govMax < new.govMax → x.state = .free → ¬ SomeActive t → m = new.govMax) →
    (new.govMax = old.govMax ∨ (old.govMax < new.govMax ∧ (x.state ≠ .free ∨ SomeActive t)) → m = x.value) →
    (new.idleRpm ≤ m → y.value = m) ∧ (old.idleRpm ≤ new.idleRpm → m < new.idleRpm → y.value = new.idleRpm) ∧
    (new.idleRpm < old.idleRpm → x.state = .floor → y.state = .falling ∧ y.entered = t.time.uptime) ∧
    (old.idleRpm ≤ new.idleRpm ∨ x.state ≠ .floor → y.state = x.state ∧ y.entered = x.entered) ∧ y.steps = x.steps

/-- What a change of settings does to a protection condition (R117): one that is disabled becomes INACTIVE, which PROTECT
tells with DISABLED; one that is enabled starts INACTIVE. -/
def ConditionRetuned (s t : State) (i : Fin 5) : Prop :=
  ∀ x y : ProtCond, x = s.prot.conds[i] → y = t.prot.conds[i] →
    (s.settings.prot.enabled[i] = true → t.settings.prot.enabled[i] = false → x.state ≠ .inactive →
      y = { x with state := .inactive, entered := t.time.uptime } ∧
      (s.notices.entries = [] →
        NoticeWaits .protect i.val (BitVec.ofNat 8 (protEventCode .disabled) :: noticeS16 none) t.notices)) ∧
    (x.state = .inactive ∨ s.settings.prot.enabled[i] = t.settings.prot.enabled[i] → y = x)

/-- What a change of settings does to the port and its transmit slots (R25, R35, R43): a change of the bit rate leaves the
bus, and clears the due-again flags (log entry 84); auto-recovery turned on while BUS_OFF starts the recovery (log entry 72
for both at once); a PENDING slot that is disabled returns to IDLE, a SENDING one stays. T0 and T1 may fall due at the event. -/
def PortRetuned (s t : State) : Prop :=
  ∀ a b : Chassis, a = s.chassis → b = t.chassis →
    (s.settings.chassis.bitRate ≠ t.settings.chassis.bitRate →
      b.port = .errorActive ∧ b.txErrors = 0 ∧ b.rxErrors = 0 ∧ b.progress = 0 ∧ b.joined = false ∧ b.content = none ∧
      (a.port ≠ .errorActive → s.notices.entries = [] →
        NoticeWaits .chassisState 0 (BitVec.ofNat 8 (portStateCode .errorActive) :: [0#8, 0#8]) t.notices) ∧
      ∀ i : Fin 4, (b.tx[i]).dueAgain = false ∧ ((b.tx[i]).state = .idle ∨ (i.val < 2 ∧ (b.tx[i]).state = .pending))) ∧
    (s.settings.chassis.bitRate = t.settings.chassis.bitRate →
      b.txErrors = a.txErrors ∧ b.rxErrors = a.rxErrors ∧ b.joined = a.joined ∧ b.content = a.content ∧
      (∀ starts : Bool, (starts = true ↔ s.settings.chassis.autoRecovery = false ∧
          t.settings.chassis.autoRecovery = true ∧ a.port = .busOff) →
        (starts = true → b.port = .recovering ∧ b.progress = 0) ∧
        (starts = false → b.port = a.port ∧ b.progress = a.progress)) ∧
      ∀ i : Fin 4, ((a.tx[i]).state = .sending → (b.tx[i]).state = .sending) ∧
        ((t.settings.tx[i]).enabled = true → b.tx[i] = a.tx[i] ∨ (i.val < 2 ∧ b.tx[i] = slotDue (a.tx[i]))) ∧
        ((t.settings.tx[i]).enabled = false → (a.tx[i]).state ≠ .sending → (b.tx[i]).state = .idle))

/-- What a change from the settings of `s` to those of `t` does to the channels, the receive slots, the port, the
protection monitor and the tanks (R13, R19, R25, R33, R35, R43, R117, R123). What ends a fill is said elsewhere. -/
structure SettingsTaken (s t : State) : Prop where
  channels : ∀ ch : Fin 10,
    ChannelRetuned (s.settings.analog[ch]) (t.settings.analog[ch]) (s.inputs.analog[ch]) (t.inputs.analog[ch])
  discretes : ∀ ch : Fin 10, t.inputs.discrete[ch] =
    if s.settings.polarity[ch] = t.settings.polarity[ch] then s.inputs.discrete[ch]
    else { s.inputs.discrete[ch] with level := !(s.inputs.discrete[ch]).level, count := 0 }
  slots : ∀ i : Fin 16, SlotRetuned (s.settings.rx[i]) (t.settings.rx[i]) (s.chassis.rx[i]) (t.chassis.rx[i])
  port : PortRetuned s t
  conditions : ∀ i : Fin 5, ConditionRetuned s t i
  qualification : s.settings.prot.enabled[(0 : Fin 5)] = true → t.settings.prot.enabled[(0 : Fin 5)] = false →
    t.prot.qualification = none
  ceiling : CeilingRetuned s t
  foamA : t.gauge.foamA = if s.settings.gauge.foamA.strap = t.settings.gauge.foamA.strap then s.gauge.foamA
    else tankStart t.settings.gauge.foamA.strap
  foamB : t.gauge.foamB = if s.settings.gauge.foamB.strap = t.settings.gauge.foamB.strap then s.gauge.foamB
    else tankStart t.settings.gauge.foamB.strap
  water : ∀ geometry : Bool, (geometry = true ↔
      waterGeometry s.settings ≠ waterGeometry t.settings) →
    (geometry = true → t.gauge.water = tankStart t.settings.gauge.water.strap ∧ t.gauge.fill.active = false) ∧
    (geometry = false → s.gauge.fill.active = false → t.gauge.water = s.gauge.water)
  tilt : t.gauge.tilt = s.gauge.tilt
  stopped : s.gauge.fill.active = false → t.gauge.fill = s.gauge.fill
  selection : t.gauge.foam = match s.gauge.foam with
    | .foamA => if t.settings.gauge.foamA.strap.length < 2 then .off else .foamA
    | .foamB => if t.settings.gauge.foamB.strap.length < 2 then .off else .foamB
    | .off => .off

/-! ### The values of settings -/

/-- How the bytes of a setting are taken (R3, R172), `w` being the length of its value: a number that is limited to its
range; a structural number, refused outside its range; a value of a list, refused when it is none of them; a chassis
quantity or none; a strapping table; a set of actions, of which those given may not be left out. -/
inductive SettingForm
  | limited (w : Nat) (signed : Bool) (limit : Int → Int)
  | structural (w : Nat) (signed : Bool) (lo hi : Int)
  | oneOf (w : Nat) (values : List Int)
  | quantity
  | table
  | actions (fixed : List ActionId)

/-- The number that the bytes of a value spell (R172). -/
def spelt (signed : Bool) (bs : List Byte) : Int := if signed then leInt bs else leNat bs

/-- A number limited to a range, both ends included. -/
def within (lo hi x : Int) : Int := max lo (min hi x)

/-- An unsigned number of `w` bytes, limited to a range (R3). -/
def SettingForm.range (w : Nat) (lo hi : Int) : SettingForm := .limited w false (within lo hi)

/-- An on or off setting, or one of two named values (R172; log entry 76). -/
def SettingForm.either : SettingForm := .oneOf 1 [0, 1]

/-- The settings of an analog channel (R5, R6). -/
def analogForm : Nat → Option SettingForm
  | 9 | 17 => some .either
  | 10 | 11 | 14 | 15 => some (.structural 2 false 0 4095)
  | 12 | 13 => some (.structural 2 true (-32768) 32767)
  | 16 => some (.range 2 0 32767)
  | 18 => some (.range 2 50 2000)
  | 19 => some (.range 1 1 16)
  | 20 => some (.range 1 0 4)
  | _ => none

/-- The settings of a receive slot (R26). -/
def rxForm : Nat → Option SettingForm
  | 9 | 12 | 16 | 17 | 23 => some .either
  | 10 | 11 => some (.structural 4 false 0 0x1FFFFFFF)
  | 13 => some .quantity
  | 14 => some (.structural 1 false 0 7)
  | 15 => some (.structural 1 false 1 2)
  | 18 | 19 => some (.structural 2 false 1 65535)
  | 20 => some (.structural 2 true (-32768) 32767)
  | 21 => some (.range 2 20 5000)
  | 22 => some (.range 2 0 32767)
  | _ => none

/-- The settings of the GOVERNOR object (R78, R88, R98), with the other settings as `c` has them. The pressure setpoint is
signed, as pressures are, and so is the speed setpoint, being taken as one of GOVERN is. -/
def governorForm (c : Settings) : Nat → Option SettingForm
  | 12 | 24 => some (.limited 2 true (within 200 2400))
  | 13 | 25 => some (.limited 2 true (within c.gov.idleRpm c.gov.govMax))
  | 14 => some (.range 2 500 (min 1000 (c.lock.rollRpmMax - 100)))
  | 15 => some (.range 2 1200 2600)
  | 16 => some (.range 1 1 255)
  | 17 => some (.range 1 0 255)
  | 18 => some (.range 1 0 100)
  | 19 => some (.range 1 5 200)
  | 20 => some (.range 2 5 400)
  | 21 => some (.range 2 200 1000)
  | 22 => some (.range 2 100 600)
  | 23 => some (.range 2 500 10000)
  | _ => none

/-- The settings of the PROTECTION object (R101, R102): warn is at most critical less 5.0 °C, and the resume delay is
rounded to a multiple of 500 ms. -/
def protectionForm (c : Settings) : Nat → Option SettingForm
  | 1 | 5 | 9 | 13 | 17 | 30 | 39 | 40 | 41 | 42 | 43 | 44 => some .either
  | 31 => some (.limited 1 true (within (-100) 0))
  | 32 => some (.range 2 0 2000)
  | 33 => some (.range 2 400 1200)
  | 34 => some (.limited 2 false (fun x => min (within 300 1100 x) (c.prot.critical - 50)))
  | 35 => some (.limited 2 true (within 1000 4000))
  | 36 => some (.range 2 800 1250)
  | 37 => some (.range 1 5 200)
  | 38 => some (.limited 2 false (fun x => (within 0 10000 x + 250) / 500 * 500))
  | _ => none

/-- The settings of a TANK object (R121): the gauging offset is at most the sensor spacing. -/
def tankForm (c : Settings) : TankId → Nat → Option SettingForm
  | .water, 31 => some (.range 2 500 6000)
  | .water, 32 => some (.limited 2 false (fun x => min x c.gauge.spacing))
  | .water, 33 => some (.range 1 0 100)
  | .water, 34 | .foamA, 19 | .foamB, 19 => some (.range 1 2 100)
  | .water, 35 | .foamA, 20 | .foamB, 20 => some (.range 2 5 1000)
  | .water, 36 | .foamA, 21 | .foamB, 21 => some (.range 1 5 50)
  | .water, 37 => some (.range 2 60 1800)
  | .water, 38 => some (.range 2 10 500)
  | .foamA, 22 | .foamB, 22 => some (.range 1 1 60)
  | _, _ => none

/-- The settings of an ACTION object (R150, R158, R161, R162). -/
def actionForm (c : Settings) : ActionId → Nat → Option SettingForm
  | .inhibit, 6 | .rollLimit, 7 | .idleCap, 5 => some (.range 2 0 10000)
  | .inhibit, 7 | .rollLimit, 8 | .idleCap, 6 | .rollLimit, 12 => some .either
  | .rollLimit, 9 => some (.range 2 300 2500)
  | .rollLimit, 10 => some (.range 2 (max 600 (c.gov.idleRpm + 100)) 2600)
  | .rollLimit, 11 => some (.range 1 1 10)
  | _, _ => none

/-- Every setting of every object by its field number, with its form; the fields that are no settings, and the numbers that
the object does not have, have none (R3, R170, R172, R173; the numbers and widths: log entries 15, 63 to 65, 71, 76, 82). -/
def settingForm (c : Settings) : Obj → Nat → Option SettingForm
  | .channel i, n =>
    if i.val < 10 then analogForm n
    else if i.val < 12 then (if n = 9 then some (.structural 1 false 1 240) else none)
    else if i.val = 12 then (if n = 9 then some (.structural 2 false 1 1000) else none)
    else if n = (if i.val = 13 then 10 else 9) then some .either else none
  | .rxSlot _, n => rxForm n
  | .txSlot _, 4 => some (.structural 4 false 0 0x1FFFFFFF)
  | .txSlot _, 5 | .txSlot _, 6 => some .either
  | .drive _, 7 | .drive _, 9 => some (.range 2 200 5000)
  | .drive _, 8 => some (.range 2 0 5000)
  | .drive _, 10 => some (.range 1 1 15)
  | .drive _, 11 => some (.range 2 50 1000)
  | .governor, n => governorForm c n
  | .protection, n => protectionForm c n
  | .tank k, n => tankForm c k n
  | .strap _, 1 => some .table
  | .condition i, 2 => some (.actions (if i.val = 0 ∨ i.val = 2 then [.inhibit] else []))
  | .action a, n => actionForm c a n
  | .timebase, 2 => some (.limited 2 true (within (-400) 400))
  | .link, 1 => some (.oneOf 4 [19200, 38400, 57600, 115200])
  | .link, 2 => some .either
  | .link, 8 => some (.limited 2 false (fun x => if x = 0 then 0 else within 100 5000 x))
  | .chassis, 1 => some (.oneOf 2 [250, 500])
  | .chassis, 2 | .chassis, 3 => some .either
  | .chassis, 8 => some (.range 2 50 500)
  | .power, 7 => some (.range 2 5 600)
  | _, _ => none

/-- The bytes of a strapping table that R122 accepts: 0 to 16 points within their ranges, the levels strictly ascending and
the volumes never falling. -/
def TableAccepted (bs : List Byte) : Prop :=
  ∃ points : List (Nat × Nat), bs = (points.map (fun p => numberBytes 2 p.1 ++ numberBytes 2 p.2)).flatten ∧
    points.length ≤ 16 ∧ (∀ p ∈ points, p.1 ≤ 32767 ∧ p.2 ≤ 65535) ∧
    points.Pairwise (fun p q => p.1 < q.1 ∧ p.2 ≤ q.2)

/-- Whether a setting's own rules admit the bytes of a value; no field that is not a setting admits any (R3, R172, R173). -/
def FieldAdmits : Option SettingForm → List Byte → Prop
  | none, _ => False
  | some (.limited w _ _), bs => bs.length = w
  | some (.structural w signed lo hi), bs => bs.length = w ∧ lo ≤ spelt signed bs ∧ spelt signed bs ≤ hi
  | some (.oneOf w values), bs => bs.length = w ∧ spelt false bs ∈ values
  | some .quantity, bs => bs = [] ∨ ∃ b, bs = [b] ∧ b.toNat < 6
  | some .table, bs => TableAccepted bs
  | some (.actions fixed), bs =>
    (∀ b ∈ bs, b.toNat < 3) ∧ ∀ a ∈ fixed, ∃ b ∈ bs, b.toNat = actionIndex a

/-- The bytes that a setting reads as after a SET has written `bs` to it (R3, R173): the number limited, or the value as it
was written; the actions in ascending order without repeats (log entry 75). -/
def FieldTakes : Option SettingForm → List Byte → List Byte → Prop
  | some (.limited w signed limit), bs, after => after = numberBytes w (limit (spelt signed bs))
  | some (.actions _), bs, after => after.Pairwise (fun a b => a.toNat < b.toNat) ∧ ∀ b, b ∈ after ↔ b ∈ bs
  | _, bs, after => after = bs

/-- The number that a SET asks for in a field: that of its entry, or the present one where it has none. -/
def asked (signed : Bool) (n : Nat) : List FieldEntry → Int → Int
  | [], x => x
  | e :: es, x => asked signed n es (if e.field.toNat = n then spelt signed e.value else x)

/-- The checks over several settings of one record that a SET must pass (R6, R26, R34, R35): the raw ends and the window
ends of an analog channel ascend and its engineering ends differ; an identifier or mask that is not extended has 11 bits;
a field of a frame ends within 8 bytes; and no second slot is bound to a quantity. -/
def AskedSound (c : Settings) (es : List FieldEntry) : Obj → Prop
  | .channel i =>
    ∀ (k : Fin 10) (a : AnalogSettings), k.val = i.val → a = c.analog[k] →
      asked false 10 es a.rawLo < asked false 11 es a.rawHi ∧ asked false 14 es a.windowLo < asked false 15 es a.windowHi ∧
      asked true 12 es a.engLo ≠ asked true 13 es a.engHi
  | .rxSlot i =>
    ∀ r : RxSettings, r = c.rx[i] →
      (asked false 12 es (if r.ext then 1 else 0) = 0 →
        asked false 10 es r.ident.toNat ≤ 0x7FF ∧ asked false 11 es r.mask.toNat ≤ 0x7FF) ∧
      asked false 14 es r.byteOffset + asked false 15 es r.width ≤ 8 ∧
      ∀ (j : Fin 16) (q : Fin 6), j ≠ i → (c.rx[j]).bound = some q →
        (∀ e ∈ es, e.field.toNat = 13 → e.value ≠ [BitVec.ofNat 8 q.val]) ∧
        (r.bound = some q → ∃ e ∈ es, e.field.toNat = 13)
  | .txSlot i =>
    ∀ x : TxSettings, x = c.tx[i] → asked false 5 es (if x.ext then 1 else 0) = 0 → asked false 4 es x.ident.toNat ≤ 0x7FF
  | _ => True

/-- The state-locked settings of R174 by object and field number: the PTO settings of both drives, the strapping tables, the
bound quantity of a receive slot, the action set of a condition, and raw_lo, raw_hi, eng_lo and eng_hi of channels A0 to A6
(the numbers: log entry 15). -/
def StateLocked : Obj → Nat → Prop
  | .drive _, n => 7 ≤ n ∧ n ≤ 11
  | .strap _, n => n = 1
  | .rxSlot _, n => n = 13
  | .condition _, n => n = 2
  | .channel i, n => i.val ≤ 6 ∧ 10 ≤ n ∧ n ≤ 13
  | _, _ => False

/-- The state lock lets a SET pass (R174): both drives are DISENGAGED, or it writes no state-locked setting. -/
def LockAllows (s : State) (o : Obj) (es : List FieldEntry) : Prop :=
  (s.pto.main.state = .disengaged ∧ s.pto.aux.state = .disengaged) ∨ ∀ e ∈ es, ¬ StateLocked o e.field.toNat

/-- The pairs of field numbers that show one setting: writing both writes it twice (log entry 18). -/
def twinFields : Obj → List (Nat × Nat)
  | .governor => [(12, 24), (13, 25)]
  | .protection => [(1, 40), (5, 41), (9, 42), (13, 43), (17, 44), (30, 39)]
  | _ => []

/-- A SET whose values are in order: no field and no setting written twice, every value admitted, and the record sound
(R173). Any other SET that gets so far is answered BAD_VALUE. -/
def EntriesSound (c : Settings) (o : Obj) (es : List FieldEntry) : Prop :=
  (es.map (·.field.toNat)).Nodup ∧
  (∀ p ∈ twinFields o, ¬ (p.1 ∈ es.map (·.field.toNat) ∧ p.2 ∈ es.map (·.field.toNat))) ∧
  (∀ e ∈ es, FieldAdmits (settingForm c o e.field.toNat) e.value) ∧ AskedSound c es o

/-- What an accepted SET leaves (R3, R98, R102, R121, R173): every setting written reads as `FieldTakes` says, every other
setting of the object as before, but for those that are tied to others. -/
structure EntriesTaken (s t : State) (o : Obj) (es : List FieldEntry) : Prop where
  written : ∀ e ∈ es, ∃ after, (recordLayout t o)[e.field.toNat - 1]? = some after ∧
    FieldTakes (settingForm t.settings o e.field.toNat) e.value after
  kept : ∀ n, settingForm s.settings o n ≠ none →
    (∀ e ∈ es, n ≠ e.field.toNat ∧ (n, e.field.toNat) ∉ twinFields o ∧ (e.field.toNat, n) ∉ twinFields o) →
    (o, n) ∉ [(.governor, 13), (.governor, 25), (.protection, 34), (.tank .water, 32)] →
    (recordLayout t o)[n - 1]? = (recordLayout s o)[n - 1]?
  speed : o ≠ .governor ∨ (∀ e ∈ es, e.field.toNat ∉ [13, 25]) →
    t.settings.gov.speedSetpoint = within t.settings.gov.idleRpm t.settings.gov.govMax s.settings.gov.speedSetpoint
  gauging : o ≠ .tank .water ∨ (∀ e ∈ es, e.field.toNat ≠ 32) →
    t.settings.gauge.gauging = min s.settings.gauge.gauging t.settings.gauge.spacing
  warn : o ≠ .protection ∨ (∀ e ∈ es, e.field.toNat ≠ 34) →
    t.settings.prot.warn = min s.settings.prot.warn (t.settings.prot.critical - 50)

/-! ### Host requests -/

/-- The frame that a host request's row stands for: its kind, tag and payload (R171). The other rows stand for none. -/
def requestFrame : Instr → Option HostFrame
  | .identify tag => some { kind := 0x01#8, tag, payload := [] }
  | .read tag o i => some { kind := 0x02#8, tag, payload := [o, i] }
  | .snapshot tag => some { kind := 0x03#8, tag, payload := [] }
  | .set tag o i es => some { kind := 0x04#8, tag, payload := o :: i :: entriesBytes es }
  | .store tag => some { kind := 0x05#8, tag, payload := [] }
  | .recall tag => some { kind := 0x06#8, tag, payload := [] }
  | .ptoEngage tag d => some { kind := 0x07#8, tag, payload := [d, 0#8] }
  | .ptoDisengage tag d => some { kind := 0x07#8, tag, payload := [d, 1#8] }
  | .govern tag m v => some { kind := 0x08#8, tag, payload := m :: bytes16 v }
  | .resume tag => some { kind := 0x09#8, tag, payload := [] }
  | .pumpIdle tag => some { kind := 0x0A#8, tag, payload := [] }
  | .release tag a => some { kind := 0x0B#8, tag, payload := [a] }
  | .force tag v => some { kind := 0x0C#8, tag, payload := [v] }
  | .fillStart tag v => some { kind := 0x0D#8, tag, payload := 0#8 :: bytes16 v }
  | .fillStop tag => some { kind := 0x0D#8, tag, payload := [1#8] }
  | .foam tag sel ratio => some { kind := 0x0E#8, tag, payload := sel :: ratio.toList }
  | .faultClear tag d => some { kind := 0x0F#8, tag, payload := [d] }
  | .chassisRecover tag => some { kind := 0x10#8, tag, payload := [] }
  | .monitorAdd tag o i => some { kind := 0x11#8, tag, payload := [0#8, o, i] }
  | .monitorRemove tag o i => some { kind := 0x11#8, tag, payload := [1#8, o, i] }
  | .reportRate tag v => some { kind := 0x12#8, tag, payload := bytes16 v }
  | .restart tag => some { kind := 0x13#8, tag, payload := [] }
  | .unknownKind tag k => some { kind := k, tag, payload := [] }
  | .powerOn | .millisecondEnd | .meterWriteStart | .meterWriteComplete | .analogSample _ _ | .holdExpiry _
  | .pulseInterval _ _ | .discreteSample _ _ | .agreementExpiry | .rxDataFrame _ _ | .rxRemoteFrame _
  | .receiveError | .ageExpiry _ | .transmitOffer | .frameSent | .lostArbitration _ | .transmitError
  | .recoveryComplete | .busJoin | .t0Period | .t1Period | .t2Period | .requestRecheck _ | .requestWindowExpiry _
  | .shiftTimeout _ | .settleExpiry _ | .windDownRecheck _ | .windDownNoticeExpiry _ | .releaseTimeout _
  | .uncommandedExpiry _ | .governorStep | .governorHoldExpiry | .stopTimerExpiry | .protectionStep
  | .qualificationExpiry | .resumeTimerExpiry | .gaugeEvent | .fillTimeout | .burstTimerExpiry | .burstEvent
  | .holdOffExpiry _ | .overspeedExpiry | .frameReceived _ | .characterError _ | .interByteTimeout
  | .executionStart | .lineBreak | .storeComplete | .spacingExpiry _ | .statusPeriod | .txFrameStart | .txFrameEnd
  | .restartProceed | .silenceExpiry | .rundownTimeout | .settlingEnd | .receivedByte _ | .recessiveRun
  | .lossOfSupply =>
    none

/-- Whether the length of a frame's payload fits its kind (R171, R173): that of a SET by its field entries, which there must
be at least one of and into which its bytes must divide (log entry 19); that of a FILL by its operation. -/
def LengthFits (f : HostFrame) : Prop :=
  match f.kind.toNat with
  | 0x04 => ∃ o i es, f.payload = o :: i :: entriesBytes es ∧ es ≠ [] ∧ ∀ e ∈ es, e.value.length ≤ 255
  | 0x0D => (f.payload.length = 1 ∧ f.payload[0]? ≠ some 0#8) ∨ (f.payload.length = 3 ∧ f.payload[0]? ≠ some 1#8)
  | 0x0E => f.payload.length = 1 ∨ f.payload.length = 2
  | 0x02 | 0x07 | 0x12 => f.payload.length = 2
  | 0x08 | 0x11 => f.payload.length = 3
  | 0x0B | 0x0C | 0x0F => f.payload.length = 1
  | _ => f.payload = []

/-- The reply slot holds a reply of which nothing has been sent (R168, R170). -/
def Replied (tag : Byte) (code : ResultCode) (body : List Byte) (s : State) : Prop :=
  s.link.reply = some { tag, code, body, begun := 0 }

/-! ### Words for the statements -/

/-- The milliseconds a meter stands for (R51): 36,000 to each 0.01 h, and its remainder. -/
def meterMs (m : Meter) : Nat := m.value * 36000 + m.remainder

/-- A raw value passes the window check and the rate check against a reference (R8). -/
def Passes (c : AnalogSettings) (reference : Int) (raw : Nat) : Prop :=
  (c.windowLo ≤ raw ∧ raw ≤ c.windowHi) ∧
  (c.rateLimit = 0 ∨ c.acceptJumps = true ∨ (engineering c raw - reference).natAbs ≤ c.rateLimit)

/-- The cause for which a raw value fails the checks of R8: the window first, then the rate. -/
def FailsBy (c : AnalogSettings) (reference : Int) (raw : Nat) (cause : ChannelCause) : Prop :=
  (raw < c.windowLo ∧ cause = .belowWindow) ∨
  (c.windowLo ≤ raw ∧ c.windowHi < raw ∧ cause = .aboveWindow) ∨
  (c.windowLo ≤ raw ∧ raw ≤ c.windowHi ∧ c.rateLimit ≠ 0 ∧ c.acceptJumps = false ∧
    c.rateLimit < (engineering c raw - reference).natAbs ∧ cause = .rateJump)

/-- An analog channel that is sampled now: enabled, its period passed, in a working part, and A3 and A4 in a burst of the
leak watch (R5, R22). -/
def SampledNow (ch : Fin 10) (s : State) : Prop :=
  s.powered = true ∧ (s.working = true ∨ ((ch = 3 ∨ ch = 4) ∧ s.gauge.leak.burst ≠ none)) ∧
  (s.inputs.analog[ch]).state ≠ .disabled ∧ sampleDue s.time.uptime (s.inputs.analog[ch]).next = true

/-- The state with one analog channel's record replaced. -/
def withAnalog (ch : Fin 10) (a : AnalogChan) (s : State) : State :=
  { s with inputs := { s.inputs with analog := s.inputs.analog.set ch a } }

/-- The commands that have no effect while the part is parked: everything but the supply, the time base with the
non-volatile memory, the sampling of D8 and of a burst, the burst itself, a break, the end of a frame on the line and
the end of WAKING (R22, R45, R48, R76, R100, R119, R142, R164, R179, R192, R193). -/
def ignoredWhenParked : Instr → Bool
  | .analogSample ch _ => !(decide (ch = 3) || decide (ch = 4))
  | .discreteSample ch _ => !decide (ch = 8)
  | .powerOn | .millisecondEnd | .meterWriteStart | .meterWriteComplete | .holdExpiry _ | .burstTimerExpiry
  | .burstEvent | .lineBreak | .storeComplete | .txFrameEnd | .restartProceed | .settlingEnd | .lossOfSupply =>
    false
  | .pulseInterval _ _ | .agreementExpiry | .rxDataFrame _ _ | .rxRemoteFrame _ | .receiveError | .ageExpiry _
  | .transmitOffer | .frameSent | .lostArbitration _ | .transmitError | .recoveryComplete | .busJoin | .t0Period
  | .t1Period | .t2Period | .chassisRecover _ | .ptoEngage _ _ | .ptoDisengage _ _ | .requestRecheck _
  | .requestWindowExpiry _ | .shiftTimeout _ | .settleExpiry _ | .windDownRecheck _ | .windDownNoticeExpiry _
  | .releaseTimeout _ | .uncommandedExpiry _ | .faultClear _ _ | .governorStep | .governorHoldExpiry
  | .stopTimerExpiry | .govern _ _ _ | .pumpIdle _ | .resume _ | .protectionStep | .qualificationExpiry
  | .resumeTimerExpiry | .gaugeEvent | .fillStart _ _ | .fillStop _ | .fillTimeout | .foam _ _ _
  | .holdOffExpiry _ | .release _ _ | .force _ _ | .overspeedExpiry | .frameReceived _ | .characterError _
  | .interByteTimeout | .executionStart | .unknownKind _ _ | .identify _ | .read _ _ _ | .snapshot _
  | .set _ _ _ _ | .store _ | .recall _ | .monitorAdd _ _ _ | .monitorRemove _ _ _ | .spacingExpiry _
  | .reportRate _ _ | .statusPeriod | .txFrameStart | .restart _ | .silenceExpiry
  | .rundownTimeout | .receivedByte _ | .recessiveRun =>
    true

end Sys2Proof.Machine
end

