-- ==== Sys2Proof/Certificates/Slice0/Obligations.lean ====
section
/-! DEFINITION. The statements about the part that are to be proved. Each result is stated with `Reacted`: the state that
the command's own effect leaves, spelt out, and after it only what the blocks' reactions to that effect may touch (in the
order of log entry 13). Throughout, a timer's row is served at or after its expiry (log entry 4), and a host request's row
executes as log entry 6 says. A docstring names the log entry of any other choice of the model that it rests on. -/

open Sys2Proof Sys2Proof.Machine

/-! ### The queue, the supply, parking -/

/-- A step executes the command at the front of the queue with the queue's rest; with an empty queue it idles (log
entry 2). -/
def Obligations.StepExecutesFrontCommand : Prop :=
  (∀ (c : Instr) (rest : List Instr) (s : State), s.pending = c :: rest → step s = exec c { s with pending := rest }) ∧
  (∀ s : State, s.pending = [] → step s = .next s)

/-- Every command, in every state, is answered by a next state, and leaves the queue of commands as it is. -/
def Obligations.EveryCommandCompletesAndKeepsQueue : Prop :=
  ∀ (c : Instr) (s : State), ∃ t, exec c s = .next t ∧ t.pending = s.pending

/-- Without supply no command but POWER_ON and LOSS_OF_SUPPLY has an effect, which is the model's choice (log entries 3 and
11); in WATCH and WAKING the commands of the stopped blocks leave the whole part as it is. -/
def Obligations.StoppedBlocksIgnoreTheirCommands : Prop :=
  (∀ (c : Instr) (s : State), s.powered = false → c ≠ .powerOn → c ≠ .lossOfSupply → exec c s = .next s) ∧
  (∀ (c : Instr) (s : State), s.powered = true → s.power.state = .watch ∨ s.power.state = .waking → OutputsSound s →
    ignoredWhenParked c = true → exec c s = .next s)

/-! ### Invariants -/

/-- The state after power-on as delivered is sound in every respect. -/
def Obligations.ResetIsSound : Prop :=
  OutputsSound State.reset ∧ OneShift State.reset ∧ QueueSound State.reset.notices ∧ PortSound State.reset.chassis ∧
  MetersSound State.reset.time ∧ StoredMetersSound State.reset.nv ∧ TrimSound State.reset.time ∧
  SettingsSound State.reset ∧ CeilingSound State.reset ∧ RecordsFollow State.reset ∧
  PermitSound State.reset ∧ FillFollows State.reset

/-- Every step keeps the outputs as the records and the power state say. -/
def Obligations.StepKeepsOutputsSound : Prop :=
  ∀ s t : State, OutputsSound s → step s = .next t → OutputsSound t

/-- Every step keeps at most one drive SHIFTING or RELEASING. -/
def Obligations.StepKeepsOneShift : Prop :=
  ∀ s t : State, OneShift s → step s = .next t → OneShift t

/-- Every step keeps the notice queue sound. -/
def Obligations.StepKeepsQueueSound : Prop :=
  ∀ s t : State, QueueSound s.notices → step s = .next t → QueueSound t.notices

/-- Every step keeps the error counts and the state of the port in agreement. -/
def Obligations.StepKeepsPortSound : Prop :=
  ∀ s t : State, PortSound s.chassis → step s = .next t → PortSound t.chassis

/-- Every step keeps the limits of the governor's and the protection monitor's settings, and the protection ceiling
from idle_rpm to gov_max. -/
def Obligations.StepKeepsCeilingBetweenIdleAndMaximum : Prop :=
  ∀ s t : State, SettingsSound s → CeilingSound s → step s = .next t → SettingsSound t ∧ CeilingSound t

/-- Every step keeps the meters, the values the memory holds for them, and the trim remainder in their ranges. -/
def Obligations.StepKeepsMetersAndTrimInRange : Prop :=
  ∀ s t : State, SettingsSound s → MetersSound s.time ∧ StoredMetersSound s.nv ∧ TrimSound s.time →
    step s = .next t → MetersSound t.time ∧ StoredMetersSound t.nv ∧ TrimSound t.time

/-- Only SET, RECALL, GOVERN, REPORT_RATE, POWER_ON and a restart of the part change the working settings; only
POWER_ON and MILLISECOND_END change the uptime, the trim remainder and the meters' values; only the commands of STORE,
of the meter write and of the supply change the stored copy; only FORCE and the starting points change what FORCE last
asked. -/
def Obligations.OnlyNamedCommandsChangeSettingsTimeAndStore : Prop :=
  ∀ (c : Instr) (s t : State), exec c s = .next t →
    ((∀ tag o i es, c ≠ .set tag o i es) → (∀ tag, c ≠ .recall tag) → (∀ tag m v, c ≠ .govern tag m v) →
      (∀ tag v, c ≠ .reportRate tag v) → c ≠ .executionStart → c ≠ .powerOn → ¬ Restarts c s →
      t.settings = s.settings) ∧
    (c ≠ .powerOn → c ≠ .millisecondEnd → t.time.uptime = s.time.uptime ∧
      t.time.trimRemainder = s.time.trimRemainder ∧ t.time.mainPumping.value = s.time.mainPumping.value ∧
      t.time.auxPumping.value = s.time.auxPumping.value ∧ t.time.roll.value = s.time.roll.value) ∧
    ((∀ tag, c ≠ .store tag) → c ≠ .executionStart → c ≠ .meterWriteComplete → c ≠ .storeComplete →
      t.nv.stored = s.nv.stored ∧ t.nv.storedIntact = s.nv.storedIntact) ∧
    ((∀ tag v, c ≠ .force tag v) → c ≠ .executionStart → c ≠ .powerOn → ¬ Restarts c s →
      t.lock.forced = s.lock.forced)

/-! ### Supply, time base and non-volatile memory -/

/-- POWER_ON on a part as delivered leaves the state of reset (the starting contents of every block). LOSS_OF_SUPPLY: every
output falls, a write in progress is lost, and nothing else changes until POWER_ON. (What reset holds where the spec gives
no value: log entries 1, 27, 28 and 29; what a part without supply keeps: log entry 11.) -/
def Obligations.SupplyComesAndGoes : Prop :=
  (∀ s : State, s.nv = factoryNv → exec .powerOn s = .next { State.reset with pending := s.pending }) ∧
  (∀ s : State, exec .lossOfSupply s = .next
    { s with powered := false, outputs := outputsOff, nv := { s.nv with activity := .idle, storeWaiting := false } })

/-- POWER_ON loads the settings and the meters from the memory, or takes the factory defaults and 0 with their notices
behind LINK_READY; a supply already present is lost first (log entry 10); what the starting contents and the factory
settings hold where the spec gives no value is the model's choice (log entry 28); the uptime is 0, the part AWAKE, the
drives DISENGAGED, the governor OFF and INHIBIT ASSERTED; the memory keeps what it holds, and a write in progress is
lost. -/
def Obligations.PowerOnLoadsTheMemory : Prop :=
  ∀ s : State, ∃ t, exec .powerOn s = .next t ∧ t.pending = s.pending ∧ t.powered = true ∧
    t.settings = (if s.nv.storedIntact then s.nv.stored else factorySettings) ∧
    t.store = { copy := if s.nv.storedIntact then .valid else .invalid,
                source := if s.nv.storedIntact then .stored else .defaults, stores := 0 } ∧
    t.time.uptime = 0 ∧ t.time.trimRemainder = 0 ∧
    t.time.mainPumping = { value := if s.nv.metersIntact then s.nv.meterMain else 0, remainder := 0,
                           written := if s.nv.metersIntact then s.nv.meterMain else 0 } ∧
    t.time.auxPumping = { value := if s.nv.metersIntact then s.nv.meterAux else 0, remainder := 0,
                          written := if s.nv.metersIntact then s.nv.meterAux else 0 } ∧
    t.time.roll = { value := if s.nv.metersIntact then s.nv.meterRoll else 0, remainder := 0,
                    written := if s.nv.metersIntact then s.nv.meterRoll else 0 } ∧
    t.time.blockState = (if s.nv.metersIntact then .valid else .defaulted) ∧
    t.notices.entries.map (·.kind) = [.linkReady] ++ (if s.nv.storedIntact then [] else [.settingsDefaulted]) ++
      (if s.nv.metersIntact then [] else [.metersDefaulted]) ∧
    t.power.state = .awake ∧ t.power.lastWake = .none ∧ t.pto.main.state = .disengaged ∧ t.pto.aux.state = .disengaged ∧
    t.gov.mode = .off ∧ t.prot.ceiling.state = .free ∧ t.prot.ceiling.value = t.settings.gov.govMax ∧
    t.lock.inhibit.state = .asserted ∧ t.lock.rollLimit.state = .released ∧ t.lock.idleCap.state = .released ∧
    t.link = linkStart 0 t.settings.link ∧ t.chassis = chassisStart t.settings ∧ t.inputs = inputsStart t.settings ∧
    t.nv = { s.nv with activity := .idle, storeWaiting := false }

/-- MILLISECOND_END: the uptime goes up by 1; the trim joins the remainder, and a whole step in it makes the next
millisecond one step longer or shorter; each meter counts its millisecond exactly while its drive is ENGAGED and ready,
or the governor in ROLL, up to saturation; and a meter that reaches its written value plus 10 makes a meter write due.
No slot's age timer has expired in the new millisecond (the mark behind this is the model's own: log entry 83). -/
def Obligations.MillisecondEndCountsTimeAndMeters : Prop :=
  ∀ s : State, s.powered = true → ∃ t, exec .millisecondEnd s = .next t ∧
    Reacted { s with time := { s.time with uptime := s.time.uptime + 1#32, trimRemainder := t.time.trimRemainder,
                                           step := t.time.step, mainPumping := t.time.mainPumping,
                                           auxPumping := t.time.auxPumping, roll := t.time.roll,
                                           writeDue := t.time.writeDue }
                     chassis := { s.chassis with rx := s.chassis.rx.map (fun r => { r with expiredNow := false }) } } t ∧
    t.time.trimRemainder + 1000 * ((t.time.step : Int) - 1000) = s.time.trimRemainder + s.settings.trim ∧
    (t.time.step = 1001 ↔ 1000 ≤ s.time.trimRemainder + s.settings.trim) ∧
    (t.time.step = 999 ↔ s.time.trimRemainder + s.settings.trim ≤ -1000) ∧
    (t.time.step = 999 ∨ t.time.step = 1000 ∨ t.time.step = 1001) ∧
    (∀ (counts : Bool) (m n : Meter),
      (counts = (s.working && decide (s.pto.main.state = .engaged) && s.pto.main.ready) ∧
          m = s.time.mainPumping ∧ n = t.time.mainPumping) ∨
        (counts = (s.working && decide (s.pto.aux.state = .engaged) && s.pto.aux.ready) ∧
          m = s.time.auxPumping ∧ n = t.time.auxPumping) ∨
        (counts = (s.working && decide (s.gov.mode = .roll)) ∧ m = s.time.roll ∧ n = t.time.roll) →
      n.written = m.written ∧ (counts = false → n = m) ∧
      (counts = true → MeterSound m → MeterSound n ∧
        (m.value < 99999999 → meterMs n = meterMs m + 1) ∧
        (m.value = 99999999 → n.value = 99999999 ∧ n.remainder = 0) ∧
        (n.value ≠ m.value → n.value = m.written + 10 → t.time.writeDue = true)))

/-- METER_WRITE_START takes the memory for the three meter values as they stand, when a write is due, the memory is free
and no STORE waits for it: the meter block is not intact until the write completes. METER_WRITE_COMPLETE of a write that
neither a restart nor an entry to WATCH awaits leaves the values in the memory and in the written values. -/
def Obligations.MeterWriteCarriesTheMeters : Prop :=
  (∀ s : State, s.powered = true → s.nv.activity = .idle → s.time.writeDue = true → s.nv.storeWaiting = false →
    ∃ t w r, exec .meterWriteStart s = .next t ∧
      t.nv.activity = .meterWrite s.time.mainPumping.value s.time.auxPumping.value s.time.roll.value w r ∧
      t.nv.metersIntact = false ∧ t.nv.stored = s.nv.stored ∧ t.settings = s.settings ∧
      t.time = { s.time with writeDue := t.time.writeDue }) ∧
  (∀ (s : State) (m a r : Nat), s.powered = true → s.nv.activity = .meterWrite m a r false false →
    s.nv.storeWaiting = false →
    ∃ t, exec .meterWriteComplete s = .next t ∧
      Reacted { s with
        nv := { s.nv with activity := .idle, meterMain := m, meterAux := a, meterRoll := r, metersIntact := true }
        time := { s.time with mainPumping := { s.time.mainPumping with written := m }
                              auxPumping := { s.time.auxPumping with written := a }
                              roll := { s.time.roll with written := r }, blockState := .valid,
                              lastWrite := s.time.uptime } } t)

/-- The completion of the meter write that an entry to WATCH awaits: from RUNDOWN, and from AWAKE if D8 is still at 0,
both drives are released, no fill is active and the link is silent, the part enters WATCH: watch pending clear, the
last wake cause NONE, the outputs off, the chassis port OFF, the governor OFF, the foam selection OFF, the unsolicited
sequence number 0, the leak watch armed if WATER is fitted, no timer of a drive or an action running, a RESTART being
executed going on (log entry 38), POWER_STATE posted with the cause, a WARNING for RUNDOWN_TIMEOUT. Else, in AWAKE,
the write completes and nothing is entered: the part stays AWAKE, with watch pending clear, when D8 is at 1, a frame
has been heard or a fill is active at a standing vehicle. The completion of the meter write that a RESTART awaits
restarts the part: the settings are loaded as at power-on and every block starts afresh, LINK_READY carrying RESTART;
the uptime, the trim remainder, the meters and the count of completed STOREs go on, and so do the meter block's state
and the uptime of its last completed write (log entry 81). In WAKING the restart waits for the end of the settling
period, which runs in full. (The frame on the line goes on: log entry 50; a RESTART carried into WAKING: log entry 38;
the ceiling, the foam ratio and the other values at the start that no rule gives: log entries 9, 27 and 28.) -/
def Obligations.MeterWriteCompletionGoesOn : Prop :=
  (∀ (s : State) (m a r : Nat) (enters : Bool), s.powered = true → s.nv.activity = .meterWrite m a r true false →
    s.nv.storeWaiting = false → s.power.watchPending = true →
    (enters = true ↔ s.power.state = .rundown ∨ (s.power.state = .awake ∧ s.level 8 = false ∧ s.drivesReleased = true ∧
        s.gauge.fill.active = false ∧ s.power.silence = none)) →
    (enters = true →
      ∃ t, exec .meterWriteComplete s = .next t ∧ t.power.state = .watch ∧ t.power.entered = s.time.uptime ∧
        t.power.watchPending = false ∧ t.power.rundown = none ∧ t.power.lastWake = .none ∧
        t.outputs = outputsOff ∧ t.chassis.port = .off ∧ t.gov.mode = .off ∧
        t.link.seq = 0#8 ∧ t.gauge.fill.active = false ∧ t.gauge.foam = .off ∧ t.gauge.leak.leak = false ∧
        (t.gauge.leak.armed = true ↔ t.gauge.water.state ≠ .absent) ∧
        (t.gauge.leak.armed = true → t.gauge.leak.reference = t.gauge.water.lastStable) ∧
        NoTimers t.pto.main ∧ NoTimers t.pto.aux ∧
        t.lock.inhibit.holdOff = none ∧ t.lock.rollLimit.holdOff = none ∧ t.lock.idleCap.holdOff = none ∧
        t.settings = s.settings ∧ t.nv.stored = s.nv.stored ∧ t.nv.meterMain = m ∧ t.nv.metersIntact = true ∧
        (RoomLeft s.notices → ∀ detail, detail =
            [BitVec.ofNat 8 (powerStateCode .watch), BitVec.ofNat 8 (powerCauseCode s.power.watchCause)] →
          NoticeWaits .powerState 0 detail t.notices ∧
          (s.power.watchCause = .rundownTimeout → WarningWaits .powerState 0 detail t.notices)) ∧
        (∀ b, s.link.executing = some (.restart b) → t.link.executing = some (.restart b))) ∧
    (s.power.state = .awake → enters = false →
      ∃ t, exec .meterWriteComplete s = .next t ∧ t.power.state ≠ .watch ∧ t.nv.meterMain = m ∧
        t.nv.metersIntact = true ∧ t.nv.activity = .idle ∧ t.settings = s.settings ∧
        (s.level 8 = true ∨ (s.drivesReleased = true ∧
            (s.power.silence ≠ none ∨ (s.gauge.fill.active = true ∧ s.vehicle = .stationary))) →
          t.power.state = .awake ∧ t.power.watchPending = false))) ∧
  (∀ (s : State) (m a r : Nat) (w : Bool) (time : TimeBase), s.powered = true →
    s.nv.activity = .meterWrite m a r w true → s.nv.storeWaiting = false →
    time = { s.time with mainPumping := { s.time.mainPumping with written := m }
                         auxPumping := { s.time.auxPumping with written := a }
                         roll := { s.time.roll with written := r }, blockState := .valid, lastWrite := s.time.uptime } →
    (s.power.state ≠ .waking → ∃ t, exec .meterWriteComplete s = .next t ∧ Restarted s t ∧ t.time = time) ∧
    (s.power.state = .waking → ∃ t, exec .meterWriteComplete s = .next t ∧ t.power = s.power ∧ Reacted { s with
      time := time
      nv := { s.nv with activity := .idle, meterMain := m, meterAux := a, meterRoll := r, metersIntact := true }
      link := { s.link with executing := some .restarting } } t))

/-! ### Input scanner -/

/-- The engineering value of a raw value: eng_lo plus the scaled term rounded half away from zero, limited to a signed
16-bit integer; raw values beyond the raw ends extrapolate along the same line. -/
def Obligations.EngineeringValueRoundsHalfAway : Prop :=
  ∀ (c : AnalogSettings) (raw : Nat), c.rawLo < c.rawHi →
    ∃ r, RoundsHalfAway (((raw : Int) - c.rawLo) * (c.engHi - c.engLo)) (c.rawHi - c.rawLo) r ∧
      engineering c raw = max (-32768) (min 32767 (c.engLo + r))

/-- ANALOG_SAMPLE of a VALID or HELD channel: an accepted sample passes through the filter, which moves by the
difference over 2^k rounded half away from zero, and the channel is VALID; a rejected one leaves the value, takes a
VALID channel to HELD with its hold timer, and leaves a HELD channel's timer running. No other channel changes. (The
phase of the samples: log entry 5.) A3 and A4 are sampled in a burst of the leak watch too. ANALOG_SAMPLE of a WARMING
or FAULT channel: the first sample of a run needs the window alone and seeds the filter, later ones need the rate
check as well and pass through it; at recover_count the channel is VALID with the filter's output as its value and no
cause, which CHANNEL_RECOVERED tells of a FAULT channel, else its state and value stay; a rejected sample ends the
run, and gives a FAULT channel its cause. (The last good value, which a rejected sample of a run leaves: log entry
52.) -/
def Obligations.AnalogSamplesAreJudged : Prop :=
  (∀ (ch : Fin 10) (raw : BitVec 12) (s : State) (c : AnalogSettings) (a : AnalogChan), SampledNow ch s →
    c = s.settings.analog[ch] → a = s.inputs.analog[ch] → a.state = .valid ∨ a.state = .held →
    (Passes c a.lastGood raw.toNat → ∃ t step, exec (.analogSample ch raw) s = .next t ∧
      RoundsHalfAway (engineering c raw.toNat - a.lastGood) (2 ^ c.k) step ∧
      Reacted (withAnalog ch { a with
        state := .valid, raw := raw.toNat, eng := some (a.lastGood + step), lastGood := a.lastGood + step
        good := if a.state = .held then 1 else min 65535 (a.good + 1), hold := none
        next := nextPeriod s.time.uptime (analogPeriod ch) a.next } s) t) ∧
    (∀ cause, FailsBy c a.lastGood raw.toNat cause → ∃ t, exec (.analogSample ch raw) s = .next t ∧
      Reacted (withAnalog ch { a with
        state := .held, raw := raw.toNat, good := if a.state = .valid then 0 else a.good, lastReject := some cause
        hold := if a.state = .valid then some (s.time.uptime + BitVec.ofNat 32 c.holdLimit) else a.hold
        next := nextPeriod s.time.uptime (analogPeriod ch) a.next } s) t)) ∧
  (∀ (ch : Fin 10) (raw : BitVec 12) (s : State) (c : AnalogSettings) (a : AnalogChan), SampledNow ch s →
    c = s.settings.analog[ch] → a = s.inputs.analog[ch] → a.state = .warming ∨ a.state = .fault →
    ((if a.good = 0 then c.windowLo ≤ raw.toNat ∧ raw.toNat ≤ c.windowHi else Passes c a.lastGood raw.toNat) →
      ∃ t out x ns, exec (.analogSample ch raw) s = .next t ∧
        (if a.good = 0 then out = engineering c raw.toNat
          else RoundsHalfAway (engineering c raw.toNat - a.lastGood) (2 ^ c.k) (out - a.lastGood)) ∧
        (c.recoverCount ≤ min 65535 (a.good + 1) →
          x = { a with state := .valid, raw := raw.toNat, eng := some out, lastGood := out,
                       good := min 65535 (a.good + 1), cause := none
                       next := nextPeriod s.time.uptime (analogPeriod ch) a.next } ∧
          (a.state = .warming → ns = []) ∧
          (a.state = .fault → ns = [{ kind := .channelRecovered, cls := .info, subject := ch.val,
                                      detail := noticeS16 (some out) }] ∧
            (RoomLeft s.notices → NoticeWaits .channelRecovered ch.val (noticeS16 (some out)) t.notices))) ∧
        (min 65535 (a.good + 1) < c.recoverCount → ns = [] ∧
          x = { a with raw := raw.toNat, lastGood := out, good := min 65535 (a.good + 1)
                       next := nextPeriod s.time.uptime (analogPeriod ch) a.next }) ∧
        t.inputs.analog = s.inputs.analog.set ch x ∧ Reacted ((withAnalog ch x s).post ns) t) ∧
    (∀ cause, (if a.good = 0 then FailsBy { c with rateLimit := 0 } a.lastGood raw.toNat cause
        else FailsBy c a.lastGood raw.toNat cause) →
      ∃ t, exec (.analogSample ch raw) s = .next t ∧
        Reacted (withAnalog ch { a with
          raw := raw.toNat, good := 0, lastReject := some cause
          cause := if a.state = .fault then some cause else a.cause
          next := nextPeriod s.time.uptime (analogPeriod ch) a.next } s) t))

/-- HOLD_EXPIRY of a HELD channel: FAULT, with the cause of the latest rejected sample and its value kept; a WARNING
CHANNEL_FAULT is posted. AGREEMENT_EXPIRY in DISAGREE_TIMING judges its sources again: NOT_CHECKED without a usable
PARK_BRAKE, AGREE when it and D0 agree, else DISAGREE (the first two: log entry 78). Whatever the command, the monitor
judges its sources at a change of PARK_BRAKE or an accepted change of D0, and stays as it is otherwise: NOT_CHECKED,
AGREE, or with a disagreement DISAGREE_TIMING, whose timer runs 1000 ms, while DISAGREE_TIMING and DISAGREE go on. (A
change of polarity before D0's first sample: log entry 56.) -/
def Obligations.ScannerTimersExpire : Prop :=
  (∀ (ch : Fin 10) (s : State) (a : AnalogChan) (cause : ChannelCause), s.powered = true → a = s.inputs.analog[ch] →
    a.state = .held → due s.time.uptime a.hold = true → a.lastReject = some cause →
    ∃ t, exec (.holdExpiry ch) s = .next t ∧
      Reacted ((withAnalog ch { a with state := .fault, cause := some cause, hold := none } s).post
        [{ kind := .channelFault, cls := .warning, subject := ch.val,
           detail := u8 (channelCauseCode cause) ++ noticeU16 (some a.raw) }]) t ∧
      (RoomLeft s.notices →
        WarningWaits .channelFault ch.val (u8 (channelCauseCode cause) ++ noticeU16 (some a.raw)) t.notices)) ∧
  (∀ (s : State) (b : BrakeAgreement), s.working = true → s.inputs.brake.state = .disagreeTiming →
    due s.time.uptime s.inputs.brake.timer = true →
    (s.quantity 3 = none ∧ b = .notChecked) ∨ (∃ v, s.quantity 3 = some v ∧
      (((v ≠ 0 ↔ s.level 0 = true) ∧ b = .agree) ∨ (¬ (v ≠ 0 ↔ s.level 0 = true) ∧ b = .disagree))) →
    ∃ t, exec .agreementExpiry s = .next t ∧ t.inputs.brake = { state := b, timer := none } ∧
      Reacted { s with inputs := { s.inputs with brake := { state := b, timer := none } } } t) ∧
  (∀ (c : Instr) (s t : State) (x : BrakeMonitor), Continues c s t → c ≠ .agreementExpiry → x = s.inputs.brake →
    (s.quantity 3 = t.quantity 3 → ¬ BrakeSwitchChanged s t → t.inputs.brake = x) ∧
    (s.quantity 3 ≠ t.quantity 3 ∨ BrakeSwitchChanged s t →
      (t.quantity 3 = none → t.inputs.brake = { state := .notChecked, timer := none }) ∧
      (∀ v, t.quantity 3 = some v →
        ((v ≠ 0 ↔ t.level 0 = true) → t.inputs.brake = { state := .agree, timer := none }) ∧
        (¬ (v ≠ 0 ↔ t.level 0 = true) →
          (x.state = .notChecked ∨ x.state = .agree →
            t.inputs.brake = { state := .disagreeTiming, timer := some (t.time.uptime + 1000#32) }) ∧
          (x.state = .disagreeTiming ∨ x.state = .disagree → t.inputs.brake = x)))))

/-- PULSE_INTERVAL: the interval's count, at most 400, replaces the oldest sub-count; the raw value is the sum of the
sub-counts, and the engineering value 300 times it over the pulses per revolution or litre, rounded down and limited to
32767. DISCRETE_SAMPLE: the first sample after a starting point sets the level; later a level that differs is taken at the
fourth differing sample running, and a sample at the present level starts the count again. No other channel changes. (The
phase of the samples: log entry 5.) -/
def Obligations.PulseAndDiscreteSamples : Prop :=
  (∀ (ch : Fin 3) (pulses : Nat) (s : State) (p : PulseChan), s.working = true → p = s.inputs.pulse[ch] →
    sampleDue s.time.uptime p.next = true → p.subCounts.length = 10 →
    ∃ t, exec (.pulseInterval ch pulses) s = .next t ∧
      (t.inputs.pulse[ch]).subCounts.length = 10 ∧
      (∀ i : Fin 9, (t.inputs.pulse[ch]).subCounts[i.val]? = p.subCounts[i.val + 1]?) ∧
      (t.inputs.pulse[ch]).subCounts[9]? = some (min 400 pulses) ∧
      (t.inputs.pulse[ch]).raw = (t.inputs.pulse[ch]).subCounts.sum ∧
      (t.inputs.pulse[ch]).eng =
        ((min 32767 ((t.inputs.pulse[ch]).raw * 300 / [s.settings.pprMain, s.settings.pprAux, s.settings.ppl][ch]) : Nat)
          : Int) ∧
      Reacted { s with inputs := { s.inputs with pulse := s.inputs.pulse.set ch t.inputs.pulse[ch] } } t) ∧
  (∀ (ch : Fin 10) (electrical : Bool) (s : State) (d : DiscreteChan), s.working = true → d = s.inputs.discrete[ch] →
    sampleDue s.time.uptime d.next = true →
    ∃ t d', exec (.discreteSample ch electrical) s = .next t ∧
      t.inputs.discrete = s.inputs.discrete.set ch d' ∧ t.inputs.analog = s.inputs.analog ∧
      t.inputs.pulse = s.inputs.pulse ∧ t.settings = s.settings ∧
      d'.raw = electrical ∧ d'.awaitFirst = false ∧ d'.next = nextPeriod s.time.uptime 5 d.next ∧
      (let logical := electrical == decide (s.settings.polarity[ch] = .activeHigh)
       (d.awaitFirst = true → d'.level = logical ∧ d'.count = 0) ∧
       (d.awaitFirst = false → logical = d.level → d'.level = d.level ∧ d'.count = 0) ∧
       (d.awaitFirst = false → logical ≠ d.level → d.count < 3 → d'.level = d.level ∧ d'.count = d.count + 1) ∧
       (d.awaitFirst = false → logical ≠ d.level → 3 ≤ d.count → d'.level = logical ∧ d'.count = 0)))

/-! ### Chassis port -/

/-- RX_DATA_FRAME on a port on the bus: every matching slot takes the frame, each for itself. A field beyond the data
sets the short-frame flag alone; an all-ones field under the not-available check makes the slot NOT_AVAILABLE and
keeps its value and its age timer, but that at the moment of the timer's expiry it stays STALE with the expiry taken
first, and is left NOT_AVAILABLE, its timer stopped, with the frame taken first (log entry 83); in FRESH a value
beyond the jump limit is rejected, at most twice running; any other value is accepted: FRESH, with the offset plus the
scaled raw value rounded half away from zero. A slot that does not match is unchanged, and the receive error count
goes down by 1, not below 0. AGE_EXPIRY: a FRESH or NOT_AVAILABLE slot goes to STALE, its value kept, its age timer
stopped and marked as expired in this millisecond; a WARNING SLOT_STALE is posted. No other slot changes. -/
def Obligations.ReceiveSlotsFillAndAge : Prop :=
  (∀ (id : CanId) (data : List Byte) (s : State), s.working = true → onBus s.chassis = true →
    (BusFrame.data id data).wf = true →
    ∃ t, exec (.rxDataFrame id data) s = .next t ∧ t.settings = s.settings ∧ t.inputs.analog = s.inputs.analog ∧
      t.time.uptime = s.time.uptime ∧ t.chassis.rxErrors = s.chassis.rxErrors - 1 ∧
      t.chassis.txErrors = s.chassis.txErrors ∧
      ∀ (i : Fin 16) (c : RxSettings) (r r' : RxSlot), c = s.settings.rx[i] → r = s.chassis.rx[i] →
        r' = t.chassis.rx[i] →
        (slotMatches c id = false → r' = r) ∧
        (slotMatches c id = true → data.length < c.byteOffset + c.width → r' = { r with short := true }) ∧
        (slotMatches c id = true → c.byteOffset + c.width ≤ data.length →
          ∀ field, field = rawField c data →
            (notAvailable c field = true →
              (r.state = .stale → r.expiredNow = true →
                r' = { r with short := false, lastRaw := field, rejections := 0 }) ∧
              (r.state ≠ .stale ∨ r.expiredNow = false →
                r' = { r with short := false, lastRaw := field, state := .notAvailable, rejections := 0
                              age := if due s.time.uptime r.age = true then none else r.age })) ∧
            (notAvailable c field = false → 1 ≤ c.divisor → ∃ q, RoundsHalfAway (rawValue c field * c.multiplier) c.divisor q ∧
              ∀ v : Int, v = max (-32768) (min 32767 (c.offset + q)) →
                (r.state = .fresh ∧ c.jumpLimit ≠ 0 ∧ r.rejections < 2 ∧ c.jumpLimit < (v - r.decoded.getD 0).natAbs →
                  r' = { r with short := false, lastRaw := field, rejections := r.rejections + 1 }) ∧
                (¬ (r.state = .fresh ∧ c.jumpLimit ≠ 0 ∧ r.rejections < 2 ∧
                    c.jumpLimit < (v - r.decoded.getD 0).natAbs) →
                  r' = { r with short := false, lastRaw := field, state := .fresh, decoded := some v
                                stamp := s.time.uptime, accepted := (r.accepted + 1) % 65536, rejections := 0
                                age := some (s.time.uptime + BitVec.ofNat 32 c.ageLimit) })))) ∧
  (∀ (i : Fin 16) (s : State) (r : RxSlot), s.working = true → r = s.chassis.rx[i] →
    r.state = .fresh ∨ r.state = .notAvailable → due s.time.uptime r.age = true →
    ∃ t, exec (.ageExpiry i) s = .next t ∧
      Reacted (({ s with chassis := { s.chassis with
        rx := s.chassis.rx.set i { r with state := .stale, age := none, expiredNow := true } } } : State).post
          [noticeSlotStale i.val (s.settings.rx[i]).bound r.decoded]) t ∧
      (RoomLeft s.notices → ∀ b : Byte,
        b = (match (s.settings.rx[i]).bound with | some q => BitVec.ofNat 8 q.val | none => 0xFF#8) →
        WarningWaits .slotStale i.val (b :: noticeS16 r.decoded) t.notices))

/-- The error counts: RECEIVE_ERROR adds 1 up to 255, FRAME_SENT takes 1 off the transmit count and TRANSMIT_ERROR
adds 8. The slot that has sent is IDLE, or PENDING when it was due again, its due-again flag clear. A LOST_ARBITRATION
to a frame that the port does not receive correctly changes no count, and one to a frame whose identifier goes before
the one offered has that frame received too. The state is ERROR_PASSIVE while a count is 128 or more, and BUS_OFF,
with the count at 255 and every transmit slot IDLE, when a transmit error would take it above 255. Whatever the
command, a change of the port's state has CHASSIS_STATE posted, with the state and both counts, a WARNING for
ERROR_PASSIVE and an ALARM for BUS_OFF. Recovery from BUS_OFF: CHASSIS_RECOVER starts it and is answered OK, in any
other state of the port it is refused with nothing changed; each RECESSIVE_RUN counts 1, and at the 128th, which is
also RECOVERY_COMPLETE (log entry 8), both error counts are 0 and the port is ERROR_ACTIVE again. (A slot disabled and
enabled again while SENDING is taken as any enabled one: log entry 85.) -/
def Obligations.PortFollowsErrorsAndRecovery : Prop :=
  (∀ (c : Instr) (s t : State) (now : PortState) (detail : List Byte), Continues c s t → s.notices.entries = [] →
    now = t.chassis.port → now ≠ s.chassis.port →
    detail = [BitVec.ofNat 8 (portStateCode now), BitVec.ofNat 8 t.chassis.txErrors, BitVec.ofNat 8 t.chassis.rxErrors] →
    NoticeWaits .chassisState 0 detail t.notices ∧
    (now = .errorPassive → WarningWaits .chassisState 0 detail t.notices) ∧
    (now = .busOff ∨ (now = .recovering ∧ s.chassis.port ≠ .busOff) → AlarmWaits .chassisState 0 t.notices)) ∧
  (∀ s : State, s.working = true → onBus s.chassis = true →
    (∃ t, exec .receiveError s = .next t ∧ t.chassis.rxErrors = min 255 (s.chassis.rxErrors + 1) ∧
      t.chassis.txErrors = s.chassis.txErrors ∧ t.chassis.rx = s.chassis.rx ∧
      t.chassis.port = (if 128 ≤ t.chassis.txErrors ∨ 128 ≤ t.chassis.rxErrors then .errorPassive else .errorActive)) ∧
    (∀ i, sendingSlot s.chassis = some i →
      (∃ t, exec .frameSent s = .next t ∧ t.chassis.txErrors = s.chassis.txErrors - 1 ∧
        t.chassis.rxErrors = s.chassis.rxErrors ∧ t.chassis.rx = s.chassis.rx ∧ t.chassis.content = none ∧
        t.chassis.port = (if 128 ≤ t.chassis.txErrors ∨ 128 ≤ t.chassis.rxErrors then .errorPassive else .errorActive) ∧
        (t.chassis.tx[i]).lastSent = s.time.uptime ∧ (t.chassis.tx[i]).dueAgain = false ∧
        (Steady s → (t.chassis.tx[i]).state =
          if (s.settings.tx[i]).enabled = true ∧ (s.chassis.tx[i]).dueAgain = true then .pending else .idle)) ∧
      (s.chassis.txErrors ≤ 247 → ∃ t, exec .transmitError s = .next t ∧
        t.chassis.txErrors = s.chassis.txErrors + 8 ∧ t.chassis.rxErrors = s.chassis.rxErrors ∧
        t.chassis.rx = s.chassis.rx ∧ t.chassis.content = none ∧
        t.chassis.port = (if 128 ≤ t.chassis.txErrors ∨ 128 ≤ t.chassis.rxErrors then .errorPassive else .errorActive) ∧
        (t.chassis.tx[i]).dueAgain = false ∧
        ((s.settings.tx[i]).enabled = true → (t.chassis.tx[i]).state = .pending)) ∧
      (247 < s.chassis.txErrors → ∃ t, exec .transmitError s = .next t ∧ t.chassis.txErrors = 255 ∧
        t.chassis.port = (if s.settings.chassis.autoRecovery then .recovering else .busOff) ∧
        t.chassis.rx = s.chassis.rx ∧ t.chassis.progress = 0 ∧ t.gov.path = .lost ∧
        ∀ j : Fin 4, (t.chassis.tx[j]).state = .idle ∧ (t.chassis.tx[j]).dueAgain = false) ∧
      ∃ t, exec (.lostArbitration none) s = .next t ∧ t.chassis.txErrors = s.chassis.txErrors ∧
        t.chassis.rxErrors = s.chassis.rxErrors ∧ t.chassis.port = s.chassis.port ∧ t.chassis.rx = s.chassis.rx ∧
        t.chassis.content = none ∧ ((s.settings.tx[i]).enabled = true → (t.chassis.tx[i]).state = .pending)) ∧
    (∀ (i : Fin 4) (o : OfferedFrame) (f : BusFrame), sendingSlot s.chassis = some i → s.chassis.content = some o →
      f.wf = true → precedes (frameId f) o.id = true →
      ∃ t, exec (.lostArbitration (some f)) s = .next t ∧ t.chassis.txErrors = s.chassis.txErrors ∧
        t.chassis.rxErrors = s.chassis.rxErrors - 1 ∧ t.chassis.content = none ∧
        ((s.settings.tx[i]).enabled = true → (t.chassis.tx[i]).state = .pending) ∧
        (∀ id bytes v, f = .data id bytes → exec (.rxDataFrame id bytes) s = .next v → t.chassis.rx = v.chassis.rx) ∧
        (∀ id, f = .remote id → t.chassis.rx = s.chassis.rx))) ∧
  (∀ (tag : Byte) (s : State) (u : State), mayExecute { kind := 0x10#8, tag, payload := [] } s = true →
    u = takeRequest s →
    ∃ t, exec (.chassisRecover tag) s = .next t ∧
      (s.chassis.port = .busOff → Replied tag .ok [] t ∧ t.chassis.port = .recovering ∧ t.chassis.progress = 0 ∧
        t.chassis.rx = s.chassis.rx) ∧
      (s.chassis.port ≠ .busOff → Reacted (putReply tag .refusedState [] u) t)) ∧
  (∀ s : State, s.working = true → s.chassis.port = .recovering →
    (s.chassis.progress < 127 → ∃ t, exec .recessiveRun s = .next t ∧
      Reacted { s with chassis := { s.chassis with progress := s.chassis.progress + 1 } } t) ∧
    (s.chassis.progress = 127 → ∃ t, exec .recessiveRun s = .next t ∧ exec .recoveryComplete s = .next t ∧
      t.chassis.port = .errorActive ∧ t.chassis.txErrors = 0 ∧ t.chassis.rxErrors = 0 ∧ onBus t.chassis = true ∧
      t.chassis.rx = s.chassis.rx ∧
      ((s.settings.tx[(1 : Fin 4)]).enabled = true → (s.chassis.tx[(1 : Fin 4)]).state = .idle →
        (t.chassis.tx[(1 : Fin 4)]).state = .pending)))

/-- TRANSMIT_OFFER on a port on the bus that sends nothing: the PENDING slot whose identifier goes first on the bus is
put in SENDING, with its identifier and with its content built from the records as they stand. (Of two slots with one
identifier either may be the one: log entry 54.) -/
def Obligations.OfferTakesTheFirstIdentifier : Prop :=
  ∀ s : State, s.working = true → onBus s.chassis = true → sendingSlot s.chassis = none →
    (∃ j : Fin 4, (s.chassis.tx[j]).state = .pending) →
    ∃ (t : State) (i : Fin 4), exec .transmitOffer s = .next t ∧ (s.chassis.tx[i]).state = .pending ∧
      (∀ j : Fin 4, (s.chassis.tx[j]).state = .pending →
        precedes (txId (s.settings.tx[j])) (txId (s.settings.tx[i])) = false) ∧
      Reacted { s with chassis := { s.chassis with
        tx := s.chassis.tx.set i { s.chassis.tx[i] with state := .sending }
        content := some { slot := i, id := { ext := (s.settings.tx[i]).ext, num := (s.settings.tx[i]).ident },
                          bytes := frameContent s i } } } t ∧
      (t.chassis.tx[i]).state = .sending

/-- Falling due: T0 to T2 at the ends of their periods, T1 when the port joins the bus, and T3 at a remote frame of
its own identifier while auto-answer is on, two of which before the answer goes out bring one answer, another remote
frame leaving T3 as it is. An enabled IDLE slot goes to PENDING, a PENDING one stays so, a SENDING one notes that it
is due again; the periods run on from their last expiry. Whatever the command, T0 falls due as the governor's mode
leaves OFF, its period starting then, and as it becomes OFF, its period stopping; and T1 at a change of what it
carries. -/
def Obligations.SlotsFallDue : Prop :=
  (∀ (c : Instr) (s t : State), Continues c s t → t.chassis.port = .errorActive ∨ t.chassis.port = .errorPassive →
    (s.gov.mode = .off → t.gov.mode ≠ .off → t.chassis.t0 = some (t.time.uptime + 20#32) ∧
      ((t.settings.tx[(0 : Fin 4)]).enabled = true → FallenDue (t.chassis.tx[(0 : Fin 4)]))) ∧
    (s.gov.mode ≠ .off → t.gov.mode = .off → t.chassis.t0 = none ∧
      ((t.settings.tx[(0 : Fin 4)]).enabled = true → FallenDue (t.chassis.tx[(0 : Fin 4)]))) ∧
    (frameContent s 1 ≠ frameContent t 1 → (t.settings.tx[(1 : Fin 4)]).enabled = true →
      FallenDue (t.chassis.tx[(1 : Fin 4)]))) ∧
  (∀ s : State, s.working = true →
    (∀ (i : Fin 3) (period : Nat) (timer : Timer) (c : Instr),
      (i = 0 ∧ period = 20 ∧ timer = s.chassis.t0 ∧ c = .t0Period) ∨
        (i = 1 ∧ period = 100 ∧ timer = s.chassis.t1 ∧ c = .t1Period) ∨
        (i = 2 ∧ period = 1000 ∧ timer = s.chassis.t2 ∧ c = .t2Period) →
      due s.time.uptime timer = true → s.chassis.port = .errorActive ∨ s.chassis.port = .errorPassive →
      ∀ k : Fin 4, k.val = i.val → (s.settings.tx[k]).enabled = true →
      ∃ t, exec c s = .next t ∧ t.chassis.rx = s.chassis.rx ∧ t.settings = s.settings ∧
        ((s.chassis.tx[k]).state ≠ .sending → (t.chassis.tx[k]).state = .pending) ∧
        ((s.chassis.tx[k]).state = .sending → (t.chassis.tx[k]).state = .sending ∧ (t.chassis.tx[k]).dueAgain = true) ∧
        (i = 1 → t.chassis.t1 = s.chassis.t1.map (· + 100#32)) ∧
        (i = 2 → t.chassis.t2 = s.chassis.t2.map (· + 1000#32)) ∧
        (i = 0 → s.gov.mode ≠ .off → t.gov.mode ≠ .off → t.chassis.t0 = s.chassis.t0.map (· + 20#32))) ∧
    (s.chassis.port = .errorActive → s.chassis.joined = false → (s.settings.tx[(1 : Fin 4)]).enabled = true →
      (s.chassis.tx[(1 : Fin 4)]).state = .idle →
      ∃ t, exec .busJoin s = .next t ∧ t.chassis.joined = true ∧ t.chassis.port = .errorActive ∧
        t.chassis.t1 = some (s.time.uptime + 100#32) ∧ t.chassis.t2 = some (s.time.uptime + 1000#32) ∧
        (t.chassis.tx[(1 : Fin 4)]).state = .pending ∧ t.chassis.rx = s.chassis.rx) ∧
    (∀ id, onBus s.chassis = true → (BusFrame.remote id).wf = true →
      ∃ t, exec (.rxRemoteFrame id) s = .next t ∧ t.chassis.rx = s.chassis.rx ∧
        t.chassis.rxErrors = s.chassis.rxErrors - 1 ∧
        (s.settings.chassis.autoAnswer = true ∧ (s.settings.tx[(3 : Fin 4)]).enabled = true ∧
            id = { ext := (s.settings.tx[(3 : Fin 4)]).ext, num := (s.settings.tx[(3 : Fin 4)]).ident } →
          ((s.chassis.tx[(3 : Fin 4)]).state = .idle → (t.chassis.tx[(3 : Fin 4)]).state = .pending) ∧
          ((s.chassis.tx[(3 : Fin 4)]).state = .pending → t.chassis.tx[(3 : Fin 4)] = s.chassis.tx[(3 : Fin 4)]) ∧
          ((s.chassis.tx[(3 : Fin 4)]).state = .sending → (t.chassis.tx[(3 : Fin 4)]).state = .sending ∧
            (t.chassis.tx[(3 : Fin 4)]).dueAgain = true)) ∧
        (s.settings.chassis.autoAnswer = false ∨
            id ≠ { ext := (s.settings.tx[(3 : Fin 4)]).ext, num := (s.settings.tx[(3 : Fin 4)]).ident } →
          t.chassis.tx[(3 : Fin 4)] = s.chassis.tx[(3 : Fin 4)])))

/-! ### PTO sequencer -/

/-- ENGAGE by the state of the drive. DISENGAGED: ACCEPTED, and the drive is checked at once: it waits in REQUESTED with
the first unmet condition as its pending reason, or shifts, energising the solenoid; a feedback already on takes it on
to SETTLING at once. In RUNDOWN it waits, the power state being no less a condition than another. WINDING_DOWN without a
waiver: OK, ENGAGED again, and in RUNDOWN sent out again at that event. Any other state: REFUSED_STATE. A drive byte of
no drive: BAD_VALUE. The cab pump request, D3 accepted at 1, is an ENGAGE of MAIN without a reply: refused, it posts
PTO_REFUSED with reason STATE; D3 found at 1 by its first sample is none. (For DISENGAGED, the other drive waits for no
check.) -/
def Obligations.EngageIsAnsweredByTheDriveState : Prop :=
  (∀ (tag byte : Byte) (s u : State), mayExecute { kind := 0x07#8, tag, payload := [byte, 0#8] } s = true →
    u = takeRequest s →
    (2 ≤ byte.toNat → ∃ t, exec (.ptoEngage tag byte) s = .next t ∧ Reacted (putReply tag .badValue [] u) t) ∧
    ∀ (d : DriveId) (x : Drive), byte.toNat = driveIndex d → x = s.pto.drive d →
      (x.state ∈ [.requested, .shifting, .settling, .engaged, .releasing, .fault] ∨
          (x.state = .windingDown ∧ x.waiver = true) →
        ∃ t, exec (.ptoEngage tag byte) s = .next t ∧ Reacted (putReply tag .refusedState [] u) t ∧
          (IgnitionOn s → (t.pto.drive d).state = x.state)) ∧
      (x.state = .windingDown → x.waiver = false → IgnitionOn s →
        ∃ t, exec (.ptoEngage tag byte) s = .next t ∧ Reacted (putReply tag .ok [] u) t ∧
          (t.pto.drive d).state = .engaged ∧ ((t.pto.drive d).ready = true ↔ PumpTurns s d) ∧
          (t.pto.drive d).windDown = none ∧ (t.pto.drive d).entered = s.time.uptime ∧ solenoid t d = true) ∧
      (x.state = .windingDown → x.waiver = false → InRundown s →
        ∃ t, exec (.ptoEngage tag byte) s = .next t ∧ Reacted (putReply tag .ok [] u) t ∧
          (OtherShifts s d → (t.pto.drive d).state = .windingDown ∧ (t.pto.drive d).waiver = true ∧
            (t.pto.drive d).reason = some .otherShift ∧ solenoid t d = true) ∧
          (¬ OtherShifts s d → s.feedback d = true → ReleasingFrom s (t.pto.drive d) ∧ solenoid t d = false) ∧
          (¬ OtherShifts s d → s.feedback d = false → (t.pto.drive d).state = .disengaged ∧ solenoid t d = false ∧
            (RoomLeft s.notices → NoticeWaits .ptoDisengaged (driveIndex d) [] t.notices))) ∧
      (x.state = .disengaged → IgnitionOn s ∨ InRundown s →
        (s.pto.drive (otherDrive d)).state ∉ [.requested, .windingDown] →
        ∀ r, FirstUnmet (engageConditions s d) r →
        ∃ t, exec (.ptoEngage tag byte) s = .next t ∧ Reacted (putReply tag .accepted [] u) t ∧ EngageTaken s t d r)) ∧
  (∀ (electrical : Bool) (s : State) (d : DiscreteChan) (x : Drive), IgnitionOn s ∨ InRundown s →
    d = s.inputs.discrete[(3 : Fin 10)] →
    x = s.pto.main → sampleDue s.time.uptime d.next = true →
    electrical = decide (s.settings.polarity[(3 : Fin 10)] = .activeHigh) →
    (d.awaitFirst = true → x.state = .disengaged → ∃ t, exec (.discreteSample 3 electrical) s = .next t ∧
      t.level 3 = true ∧ t.pto.main.state = .disengaged ∧ t.link.reply = s.link.reply) ∧
    (d.awaitFirst = false → d.level = false → d.count = 3 →
      (x.state ∈ [.requested, .shifting, .settling, .engaged, .releasing, .fault] ∨
          (x.state = .windingDown ∧ x.waiver = true) →
        ∃ t, exec (.discreteSample 3 electrical) s = .next t ∧ t.pto.main.state = x.state ∧
          t.link.reply = s.link.reply ∧
          (RoomLeft s.notices → WarningWaits .ptoRefused 0 [BitVec.ofNat 8 (reasonCode .state)] t.notices)) ∧
      (x.state = .windingDown → x.waiver = false → IgnitionOn s → ∃ t, exec (.discreteSample 3 electrical) s = .next t ∧
        t.pto.main.state = .engaged ∧ (t.pto.main.ready = true ↔ PumpTurns s .main) ∧ t.link.reply = s.link.reply) ∧
      (x.state = .disengaged → s.pto.aux.state ∉ [.requested, .windingDown] →
        ∀ r, FirstUnmet (engageConditions s .main) r → ∃ t, exec (.discreteSample 3 electrical) s = .next t ∧
          EngageTaken s t .main r ∧ t.link.reply = s.link.reply)))

/-- A drive in REQUESTED. At a periodic check it keeps waiting with the first unmet condition as its reason, or shifts; in
RUNDOWN it waits, for the power state at least. At the end of its window it returns to DISENGAGED, and PTO_REFUSED carries
the reason held. Whatever the command, a drive that is REQUESTED after it and has entered REQUESTED, or has seen a source of
its conditions change, has been checked: its reason is the first condition not met, and there is one, so that with every
condition met it does not wait. And whatever the command, a drive comes to SHIFTING or SETTLING only with its own
conditions met, and to SHIFTING only while the other drive is neither SHIFTING nor RELEASING. -/
def Obligations.RequestedDriveShiftsOrGivesUp : Prop :=
  (∀ (c : Instr) (s t : State) (d : DriveId), Continues c s t →
    ((t.pto.drive d).state = .requested → (s.pto.drive d).state ≠ .requested ∨ EngageSourceChanged s t d →
      WaitsFor (engageConditions t d) (t.pto.drive d).reason) ∧
    ((s.pto.drive d).state ∉ [.shifting, .settling] → (t.pto.drive d).state ∈ [.shifting, .settling] →
      (∀ p ∈ (engageConditions t d).dropLast, p.2) ∧ solenoid t d = true ∧
      ((t.pto.drive d).state = .shifting → ¬ OtherShifts t d))) ∧
  ∀ (d : DriveId) (s : State) (x : Drive), x = s.pto.drive d → x.state = .requested →
    (IgnitionOn s ∨ InRundown s → due s.time.uptime x.recheck = true → ∀ r, FirstUnmet (engageConditions s d) r →
      ∃ t, exec (.requestRecheck d) s = .next t ∧ Reacted s t ∧ (t.pto.drive d).reason = r ∧
        (r ≠ none → (t.pto.drive d).state = .requested ∧ (t.pto.drive d).window = x.window ∧
          (t.pto.drive d).recheck = x.recheck.map (· + 10#32)) ∧
        (r = none → solenoid t d = true ∧ (t.pto.drive d).window = none ∧
          (t.pto.drive d).state = if s.feedback d then .settling else .shifting)) ∧
    (s.working = true → due s.time.uptime x.window = true →
      ∃ t, exec (.requestWindowExpiry d) s = .next t ∧ Reacted (s.post [noticePtoRefused d x.reason]) t ∧
        (t.pto.drive d).state = .disengaged ∧ (t.pto.drive d).window = none ∧ (t.pto.drive d).reason = none ∧
        (t.pto.drive d).entered = s.time.uptime ∧
        (IgnitionOn s ∨ InRundown s → RoomLeft s.notices →
          ∀ b : Byte, b = (match x.reason with | some r => BitVec.ofNat 8 (reasonCode r) | none => 0xFF#8) →
          WarningWaits .ptoRefused (driveIndex d) [b] t.notices))

/-- A drive in WINDING_DOWN, with the ignition on and in RUNDOWN. At a periodic check it keeps waiting with the first unmet
release condition as its reason, or is released: RELEASING, or DISENGAGED with PTO_DISENGAGED when its feedback is off; at
the notice time PTO_REFUSED tells of it, and the drive stays. Whatever the command, a drive that is in WINDING_DOWN after it
and has entered WINDING_DOWN, has had its waiver set, or has seen a source of the release conditions change, has been
checked: its reason is the first condition not met, and there is one. And in AWAKE a drive without a waiver leaves
WINDING_DOWN for RELEASING or DISENGAGED only with the engine slow and, for MAIN, in neutral, whatever the command, but for
the overspeed timer's, which drops AUX. -/
def Obligations.WindingDownDriveIsReleased : Prop :=
  (∀ (c : Instr) (s t : State) (d : DriveId), Continues c s t →
    ((t.pto.drive d).state = .windingDown →
      (s.pto.drive d).state ≠ .windingDown ∨ (s.pto.drive d).waiver ≠ (t.pto.drive d).waiver ∨
        ReleaseSourceChanged s t d →
      WaitsFor (releaseConditions t d (t.pto.drive d).waiver) (t.pto.drive d).reason) ∧
    ((s.pto.drive d).state = .windingDown → (s.pto.drive d).waiver = false → s.power.state = .awake →
      t.power.state = .awake →
      (t.pto.drive d).state ∈ [.releasing, .disengaged] → d = .main ∨ c ≠ .overspeedExpiry →
      EngineSlow t ∧ (d = .main → t.quantity 2 = some 0) ∧ solenoid t d = false)) ∧
  ∀ (d : DriveId) (s : State) (x : Drive), x = s.pto.drive d → x.state = .windingDown → IgnitionOn s ∨ InRundown s →
    (due s.time.uptime x.recheck = true → ∀ r, FirstUnmet (releaseConditions s d x.waiver) r →
      ∃ t, exec (.windDownRecheck d) s = .next t ∧ Reacted s t ∧
        (r ≠ none → (t.pto.drive d).state = .windingDown ∧ (t.pto.drive d).reason = r ∧
          (t.pto.drive d).waiver = x.waiver ∧ (t.pto.drive d).windDown = x.windDown ∧ solenoid t d = true) ∧
        (r = none → s.feedback d = true → ReleasingFrom s (t.pto.drive d) ∧ solenoid t d = false) ∧
        (r = none → s.feedback d = false → (t.pto.drive d).state = .disengaged ∧ solenoid t d = false ∧
          (RoomLeft s.notices → NoticeWaits .ptoDisengaged (driveIndex d) [] t.notices))) ∧
    (due s.time.uptime x.windDown = true →
      ∃ t, exec (.windDownNoticeExpiry d) s = .next t ∧
        Reacted (s.post [noticePtoRefused d (some .windDown)]) t ∧ (t.pto.drive d).state = .windingDown ∧
        (t.pto.drive d).windDown = none ∧ (t.pto.drive d).reason = x.reason ∧ (t.pto.drive d).waiver = x.waiver ∧
        (t.pto.drive d).recheck = x.recheck ∧ solenoid t d = true ∧
        (RoomLeft s.notices →
          WarningWaits .ptoRefused (driveIndex d) [BitVec.ofNat 8 (reasonCode .windDown)] t.notices))

/-- The shift, release and uncommanded-feedback timers end in FAULT: the cause set, every timer of the drive cancelled,
the solenoid off, the ALARM PTO_FAULT posted. The settle timer ends in ENGAGED, the ready flag computed at once. -/
def Obligations.DriveTimersEndTheirStates : Prop :=
  ∀ (d : DriveId) (s : State) (x : Drive), s.working = true → x = s.pto.drive d →
    (∀ (c : Instr) (cause : DriveCause),
      (c = .shiftTimeout d ∧ cause = .shiftTimeout ∧ x.state = .shifting ∧ due s.time.uptime x.shift = true) ∨
        (c = .releaseTimeout d ∧ cause = .releaseTimeout ∧ x.state = .releasing ∧ due s.time.uptime x.release = true) ∨
        (c = .uncommandedExpiry d ∧ cause = .uncommanded ∧ x.state ∈ [.disengaged, .requested] ∧
          due s.time.uptime x.uncommanded = true) →
      ∃ t, exec c s = .next t ∧ Reacted (s.post [noticePtoFault d cause x.state]) t ∧
        t.pto.drive d = faultedDrive s.time.uptime cause x ∧
        solenoid t d = false ∧
        (s.notices.entries.length < 32 → AlarmWaits .ptoFault (driveIndex d) t.notices)) ∧
    (IgnitionOn s → x.state = .settling → due s.time.uptime x.settle = true →
      ∃ t, exec (.settleExpiry d) s = .next t ∧
        Reacted (s.post [noticePtoEngaged d (s.time.uptime - x.shiftStart).toNat]) t ∧
        (t.pto.drive d).state = .engaged ∧ ((t.pto.drive d).ready = true ↔ PumpTurns s d) ∧
        (t.pto.drive d).settle = none ∧ (t.pto.drive d).entered = s.time.uptime ∧ solenoid t d = true)

/-- DISENGAGE by the state of the drive, with the ignition on and in RUNDOWN, where no drive stays ENGAGED or
SETTLING. ENGAGED: ACCEPTED, WINDING_DOWN, and released at once when every release condition is met. REQUESTED: OK,
DISENGAGED. SHIFTING: ACCEPTED, RELEASING. SETTLING: ACCEPTED, RELEASING, or WINDING_DOWN with the waiver set while
the other drive shifts. A release with the feedback off goes on to DISENGAGED, and PTO_DISENGAGED is posted. Any other
state: OK and the state stays; where the records already follow one another nothing of the drive's record changes, its
waiver neither. (With the ignition on, for ENGAGED, SHIFTING and SETTLING, the other drive waits for no check.) -/
def Obligations.DisengageIsAnsweredByTheDriveState : Prop :=
  ∀ (tag byte : Byte) (s u : State), mayExecute { kind := 0x07#8, tag, payload := [byte, 1#8] } s = true →
    u = takeRequest s →
    (2 ≤ byte.toNat → ∃ t, exec (.ptoDisengage tag byte) s = .next t ∧ Reacted (putReply tag .badValue [] u) t) ∧
    ∀ (d : DriveId) (x : Drive), byte.toNat = driveIndex d → x = s.pto.drive d → IgnitionOn s ∨ InRundown s →
      (x.state ∈ [.disengaged, .windingDown, .releasing, .fault] →
        ∃ t, exec (.ptoDisengage tag byte) s = .next t ∧ Reacted (putReply tag .ok [] u) t ∧
          (t.pto.drive d).state = x.state ∧ (Steady s → t.pto.drive d = x)) ∧
      (x.state = .requested →
        ∃ t, exec (.ptoDisengage tag byte) s = .next t ∧ Reacted (putReply tag .ok [] u) t ∧
          (t.pto.drive d).state = .disengaged ∧ (t.pto.drive d).window = none) ∧
      (InRundown s → x.state = .shifting →
        ∃ t, exec (.ptoDisengage tag byte) s = .next t ∧ Reacted (putReply tag .accepted [] u) t ∧
          (s.feedback d = true → ReleasingFrom s (t.pto.drive d)) ∧
          (s.feedback d = false → (t.pto.drive d).state = .disengaged ∧
            (RoomLeft s.notices → NoticeWaits .ptoDisengaged (driveIndex d) [] t.notices)) ∧ solenoid t d = false) ∧
      (IgnitionOn s → (s.pto.drive (otherDrive d)).state ∉ [.requested, .windingDown] →
        (x.state = .engaged → ∀ r, FirstUnmet (releaseConditions s d false) r →
          ∃ t, exec (.ptoDisengage tag byte) s = .next t ∧ Reacted (putReply tag .accepted [] u) t ∧
            (r ≠ none → (t.pto.drive d).state = .windingDown ∧ (t.pto.drive d).reason = r ∧
              (t.pto.drive d).waiver = false ∧ (t.pto.drive d).windDown = some (s.time.uptime + 5000#32) ∧
              solenoid t d = true) ∧
            (r = none → s.feedback d = true → ReleasingFrom s (t.pto.drive d) ∧ solenoid t d = false) ∧
            (r = none → s.feedback d = false → (t.pto.drive d).state = .disengaged ∧ solenoid t d = false ∧
              (RoomLeft s.notices → NoticeWaits .ptoDisengaged (driveIndex d) [] t.notices))) ∧
        (x.state = .shifting ∨ (x.state = .settling ∧ ¬ OtherShifts s d) →
          ∃ t, exec (.ptoDisengage tag byte) s = .next t ∧ Reacted (putReply tag .accepted [] u) t ∧
            (s.feedback d = true → ReleasingFrom s (t.pto.drive d)) ∧
            (s.feedback d = false → (t.pto.drive d).state = .disengaged ∧
              (RoomLeft s.notices → NoticeWaits .ptoDisengaged (driveIndex d) [] t.notices)) ∧ solenoid t d = false) ∧
        (x.state = .settling → OtherShifts s d →
          ∃ t, exec (.ptoDisengage tag byte) s = .next t ∧ Reacted (putReply tag .accepted [] u) t ∧
            (t.pto.drive d).state = .windingDown ∧ (t.pto.drive d).waiver = true ∧
            (t.pto.drive d).reason = some .otherShift ∧ solenoid t d = true))

/-- FAULT_CLEAR: OK, and DISENGAGED, for a drive in FAULT with its feedback off; REFUSED_CONDITION naming no condition with
the feedback on; REFUSED_STATE in any other state. -/
def Obligations.FaultClearNeedsTheFeedbackOff : Prop :=
  ∀ (tag byte : Byte) (s u : State), mayExecute { kind := 0x0F#8, tag, payload := [byte] } s = true →
    u = takeRequest s →
    (2 ≤ byte.toNat → ∃ t, exec (.faultClear tag byte) s = .next t ∧ Reacted (putReply tag .badValue [] u) t) ∧
    ∀ (d : DriveId) (x : Drive), byte.toNat = driveIndex d → x = s.pto.drive d →
      (x.state = .fault → s.feedback d = false →
        ∃ t, exec (.faultClear tag byte) s = .next t ∧ Reacted (putReply tag .ok [] u) t ∧
          (t.pto.drive d).state = .disengaged ∧ (t.pto.drive d).cause = none ∧
          (t.pto.drive d).entered = s.time.uptime) ∧
      (x.state = .fault → s.feedback d = true →
        ∃ t, exec (.faultClear tag byte) s = .next t ∧ Reacted (putReply tag .refusedCondition [0xFF#8] u) t ∧
          (t.pto.drive d).state = .fault ∧ (t.pto.drive d).cause = x.cause) ∧
      (x.state ≠ .fault →
        ∃ t, exec (.faultClear tag byte) s = .next t ∧ Reacted (putReply tag .refusedState [] u) t)

/-- An accepted change of a drive's feedback (D1 for MAIN, D2 for AUX). On: SHIFTING goes to SETTLING with the settle
timer running, and in DISENGAGED and REQUESTED the uncommanded-feedback timer starts. Off: SETTLING goes to FAULT
SETTLE_LOST, ENGAGED and WINDING_DOWN to FAULT DROPPED, RELEASING to DISENGAGED, and so does a FAULT FOUND_ENGAGED,
each with PTO_DISENGAGED; another FAULT stays. The first sample after a starting point that finds a DISENGAGED drive's
feedback on takes it to FAULT FOUND_ENGAGED, with the ALARM PTO_FAULT. All this with the ignition on and in RUNDOWN, but
that in RUNDOWN a drive whose feedback comes on in SHIFTING is released at that event: RELEASING, or WINDING_DOWN with the
waiver set while the other drive has the shift. -/
def Obligations.FeedbackMovesTheDrive : Prop :=
  ∀ (d : DriveId) (ch : Fin 10) (level electrical : Bool) (s : State) (x : Drive) (c : DiscreteChan),
    IgnitionOn s ∨ InRundown s →
    ch.val = driveIndex d + 1 → x = s.pto.drive d → c = s.inputs.discrete[ch] → sampleDue s.time.uptime c.next = true →
    electrical = (if s.settings.polarity[ch] = .activeHigh then level else !level) →
    (c.awaitFirst = true → c.level = false → x.state = .disengaged →
      ∃ t, exec (.discreteSample ch electrical) s = .next t ∧ (t.inputs.discrete[ch]).level = level ∧
        (level = true → t.pto.drive d = faultedDrive s.time.uptime .foundEngaged x ∧
          (s.notices.entries.length < 32 → AlarmWaits .ptoFault (driveIndex d) t.notices)) ∧
        (level = false → (t.pto.drive d).state = .disengaged ∧ (t.pto.drive d).uncommanded = x.uncommanded)) ∧
    (c.awaitFirst = false → c.level = !level → c.count = 3 →
    ∃ t, exec (.discreteSample ch electrical) s = .next t ∧ (t.inputs.discrete[ch]).level = level ∧
      (level = true →
        (x.state = .shifting → InRundown s →
          (¬ OtherShifts s d → ReleasingFrom s (t.pto.drive d) ∧ solenoid t d = false) ∧
          (OtherShifts s d → (t.pto.drive d).state = .windingDown ∧ (t.pto.drive d).waiver = true ∧
            (t.pto.drive d).reason = some .otherShift ∧ solenoid t d = true)) ∧
        (x.state = .shifting → IgnitionOn s → (t.pto.drive d).state = .settling ∧ (t.pto.drive d).shift = none ∧
          (s.settings.pto.settleTime ≠ 0 →
            (t.pto.drive d).settle = some (s.time.uptime + BitVec.ofNat 32 s.settings.pto.settleTime)) ∧
          (s.settings.pto.settleTime = 0 → (t.pto.drive d).settle = some (s.time.uptime + 10#32))) ∧
        (x.state = .disengaged ∨ x.state = .requested → (t.pto.drive d).state = x.state ∧
          (t.pto.drive d).uncommanded = some (s.time.uptime + 500#32))) ∧
      (level = false →
        (x.state = .settling → t.pto.drive d = faultedDrive s.time.uptime .settleLost x) ∧
        (x.state = .engaged ∨ x.state = .windingDown → t.pto.drive d = faultedDrive s.time.uptime .dropped x) ∧
        (x.state = .releasing → (t.pto.drive d).state = .disengaged ∧ (t.pto.drive d).release = none ∧
          (RoomLeft s.notices → NoticeWaits .ptoDisengaged (driveIndex d) [] t.notices)) ∧
        (x.state = .disengaged ∨ x.state = .requested → (t.pto.drive d).state = x.state ∧
          (t.pto.drive d).uncommanded = none) ∧
        (x.state = .fault → x.cause = some .foundEngaged →
          (t.pto.drive d).state = .disengaged ∧ (t.pto.drive d).cause = none ∧
          (RoomLeft s.notices → NoticeWaits .ptoDisengaged (driveIndex d) [] t.notices)) ∧
        (x.state = .fault → x.cause ≠ some .foundEngaged →
          (t.pto.drive d).state = .fault ∧ (t.pto.drive d).cause = x.cause)))

/-! ### Pump governor -/

/-- Every step keeps the records that follow one another in a working part: the ready flags the drives and the shafts, the
governed drive the ready flags, the governor's mode, stop timer and throttle path the governed drive, the vehicle and the
port, P0's qualification timer its three facts, the lockout conditions their sources, the contributing sets the conditions,
and an action with a contributor stays ASSERTED (IDLE_CAP: or PENDING). Before the first evaluation MAIN's departure from
DISENGAGED and an active fill already withhold the permit (log entry 51). (No stop timer outside ROLL: log entry 57.) -/
def Obligations.StepKeepsRecordsFollowing : Prop :=
  ∀ s t : State, (s.working = true → RecordsFollow s) → step s = .next t → (t.working = true → RecordsFollow t)

/-- GOVERNOR_STEP: the ceiling stored is the least in force (not in OFF), and the request moves by the mode, limited to the
range from idle_rpm to it: IDLE falls toward idle_rpm, SPEED moves toward the setpoint, HOLD stands, ROLL is at idle_rpm,
and PRESSURE moves by the error term, the change-of-error term, the rate limits and fast-fall. A HELD channel marks time;
one that is not usable leads to HOLD, and one that is VALID again from HOLD to PRESSURE with a first step, GOVERNOR_HOLD
telling of each. -/
def Obligations.GovernorStepMovesTheRequest : Prop :=
  ∀ (s : State) (g : Governor) (c : GovSettings) (ceil : Int) (limited : Int → Int), s.working = true → Steady s →
    g = s.gov → c = s.settings.gov → due s.time.uptime g.next = true → LeastCeiling s ceil →
    (∀ r, limited r = max c.idleRpm (min ceil r)) → 0 ≤ c.deadband →
    ∃ t ns, exec .governorStep s = .next t ∧
      Reacted (({ s with gov := { g with ceiling := t.gov.ceiling, next := t.gov.next } } : State).post ns) t ∧
      (g.mode ∉ [.pressure, .hold] → ns = []) ∧
      t.gov.next = g.next.map (· + 20#32) ∧ t.gov.governed = g.governed ∧ t.gov.path = g.path ∧
      t.gov.resume = g.resume ∧
      t.gov.ceiling = (if g.mode = .off then g.ceiling else ceil) ∧
      (g.mode = .off → t.gov.mode = .off ∧ t.gov.request = g.request) ∧
      (g.mode = .idle → t.gov.mode = .idle ∧
        t.gov.request = limited (if c.idleRpm < g.request then max c.idleRpm (g.request - c.fallLimit) else g.request)) ∧
      (g.mode = .speed → t.gov.mode = .speed ∧ t.gov.prevError = g.prevError ∧
        t.gov.request = limited (if g.request < c.speedSetpoint then min c.speedSetpoint (g.request + c.riseLimit)
          else max c.speedSetpoint (g.request - c.fallLimit))) ∧
      (g.mode = .roll → t.gov.mode = .roll ∧ t.gov.request = c.idleRpm) ∧
      (∀ a, IsDischarge s a →
        (a.state ≠ .valid ∧ a.state ≠ .held → ns = if g.mode = .pressure
          then [noticeGovernorHold g.governed .entered g.request] else []) ∧
        (a.state = .valid ∨ a.state = .held → ns = if g.mode = .hold
          then [noticeGovernorHold g.governed .recovered g.request] else []) ∧
        (g.mode = .hold → a.state ≠ .valid ∧ a.state ≠ .held → t.gov.mode = .hold ∧ t.gov.hold = g.hold ∧
          t.gov.request = limited g.request ∧ t.gov.prevError = g.prevError) ∧
        (g.mode = .pressure → a.state ≠ .valid ∧ a.state ≠ .held → t.gov.mode = .hold ∧
          t.gov.request = g.request ∧ t.gov.prevError = g.prevError ∧
          t.gov.hold = some (s.time.uptime + BitVec.ofNat 32 c.holdLimit)) ∧
        (g.mode = .pressure → a.state = .held → t.gov.mode = .pressure ∧ t.gov.request = g.request ∧
          t.gov.prevError = g.prevError ∧ t.gov.firstStep = g.firstStep) ∧
        (g.mode = .hold → a.state = .held → t.gov.mode = .pressure ∧ t.gov.request = g.request ∧
          t.gov.firstStep = true ∧ t.gov.hold = none) ∧
        (g.mode = .pressure ∨ g.mode = .hold → a.state = .valid → ∀ v, a.eng = some v →
          ∃ raw : Int, ∀ p e ePrev change : Int, p = max 0 v → e = max (-2000) (min 2000 (c.pressureSetpoint - p)) →
            ePrev = (if g.mode = .hold ∨ g.firstStep = true then e else g.prevError) →
            change = max (-c.fallLimit) (min c.riseLimit raw) →
            t.gov.mode = .pressure ∧ t.gov.firstStep = false ∧ t.gov.prevError = e ∧
            ((e.natAbs : Int) ≤ c.deadband → raw = 0) ∧
            (c.deadband < e.natAbs → RoundsHalfAway (c.ki * e + c.kp * (e - ePrev)) 256 raw) ∧
            t.gov.request = limited (g.request +
              (if c.pressureSetpoint + c.fastFallBand < p then min change (-c.fastFallStep) else change))))

/-- The request that T0, T3 and STATUS carry lies from idle_rpm to every ceiling in force, and is absent in OFF and
ROLL. The frames T0 to T3 carry their fields in the order and the widths of R40, each as the records stand: T0 the
control kind, the request and the limit; T1 the permit, the roll speed limit, the drive states and the pumping flag; T2
the volumes and the states of the tanks; T3 the mode, the governed discharge and the request. -/
def Obligations.EngineRequestWithinTheCeilings : Prop :=
  ∀ s : State, SettingsSound s → CeilingSound s →
    (s.engineRequest = none ↔ s.gov.mode = .off ∨ s.gov.mode = .roll) ∧
    (∀ r, s.engineRequest = some r → s.settings.gov.idleRpm ≤ r ∧ ∀ x ∈ ceilingsInForce s, r ≤ x) ∧
    (∀ c, LeastCeiling s c → s.gov.mode ≠ .off → s.gov.mode ≠ .roll → s.settings.gov.idleRpm ≤ s.gov.request →
      s.gov.request ≤ c → s.engineRequest = some s.gov.request) ∧
    (∀ (c : Int) (request limit discharge : Option Int), LeastCeiling s c →
      request = (if s.gov.mode = .off ∨ s.gov.mode = .roll then none
        else some (max s.settings.gov.idleRpm (min c s.gov.request))) →
      limit = (if s.gov.mode = .off then none else some c) →
      (s.gov.governed = none → discharge = none) →
      (∀ a, IsDischarge s a → discharge = if a.state = .valid ∨ a.state = .held then a.eng else none) →
      s.engineRequest = request ∧
      (∃ kind r l, frameContent s 0 = kind :: r ++ l ∧ CarriedUnsigned request r ∧ CarriedUnsigned limit l ∧
        kind = (if s.gov.mode = .off then 0#8 else if s.gov.mode = .roll then 2#8 else 1#8)) ∧
      (∃ p l m a f, frameContent s 1 = p :: l ++ [m, a, f] ∧
        p = (if s.lock.inhibit.state = .released ∧ s.power.state = .awake then 1#8 else 0#8) ∧
        CarriedUnsigned (if s.lock.rollLimit.state = .asserted then some s.settings.lock.rollSpeedLimit else none) l ∧
        m.toNat = driveStateCode s.pto.main.state ∧ a.toNat = driveStateCode s.pto.aux.state ∧
        f = (if (s.pto.main.state = .engaged ∧ s.pto.main.ready = true) ∨
          (s.pto.aux.state = .engaged ∧ s.pto.aux.ready = true) then 1#8 else 0#8)) ∧
      (∃ w a b x y, frameContent s 2 = w ++ a ++ b ++ [x, y] ∧
        CarriedUnsigned (s.gauge.water.reported.map Int.ofNat) w ∧
        CarriedUnsigned (s.gauge.foamA.reported.map Int.ofNat) a ∧
        CarriedUnsigned (s.gauge.foamB.reported.map Int.ofNat) b ∧
        x.toNat = tankStateCode s.gauge.water.state + 16 * tankStateCode s.gauge.foamA.state ∧
        y.toNat = tankStateCode s.gauge.foamB.state) ∧
      (∃ m d r, frameContent s 3 = m :: d ++ r ∧ m.toNat = govModeCode s.gov.mode ∧ CarriedSigned discharge d ∧
        CarriedUnsigned request r))

/-- The ways to IDLE: the hold timer from HOLD, with resume mode PRESSURE; the stop timer from ROLL, the resume mode
kept and the request idle_rpm, also where idle_rpm has changed in ROLL (log entry 73); PUMP_IDLE from PRESSURE and HOLD
with resume mode PRESSURE and from SPEED with SPEED, answered OK as it is in IDLE without effect, and refused in OFF and
ROLL. The hold timer and PUMP_IDLE keep the request. And whatever the command, where the power controller has nothing left
to do: a governed drive that appears brings IDLE, or ROLL for an AUX while the vehicle is not stationary, and from OFF the
request is then idle_rpm and the frame asks for it, also where idle_rpm has changed while OFF (log entry 73), while from
wind-down IDLE it is kept; a change from one drive to the other does as much, with resume mode none and the request kept;
a governed drive lost brings wind-down IDLE or OFF, which the loss of the wind-down drive brings too; an AUX in a vehicle
that ceases to be stationary brings ROLL, where the stop timer follows the vehicle; and BUS_OFF brings IDLE from PRESSURE,
SPEED and HOLD, with the ALARM THROTTLE_PATH_LOST unless in OFF. -/
def Obligations.GovernorReturnsToIdle : Prop :=
  (∀ s : State, s.working = true → Steady s → s.gov.mode = .hold → due s.time.uptime s.gov.hold = true →
    ∃ t, exec .governorHoldExpiry s = .next t ∧
      Reacted (s.post [noticeGovernorHold s.gov.governed .expired s.gov.request]) t ∧
      t.gov = { s.gov with mode := .idle, resume := some .pressure, hold := none, stop := none }) ∧
  (∀ s : State, s.working = true → Steady s → s.gov.mode = .roll → due s.time.uptime s.gov.stop = true →
    ∃ t, exec .stopTimerExpiry s = .next t ∧ Reacted s t ∧
      t.gov = { s.gov with mode := .idle, request := s.settings.gov.idleRpm, stop := none }) ∧
  (∀ (tag : Byte) (s u : State), mayExecute { kind := 0x0A#8, tag, payload := [] } s = true → Steady s →
    u = takeRequest s →
    (s.gov.mode = .pressure ∨ s.gov.mode = .hold → ∃ t, exec (.pumpIdle tag) s = .next t ∧
      Reacted (putReply tag .ok [] u) t ∧
      t.gov = { s.gov with mode := .idle, resume := some .pressure, hold := none, stop := none }) ∧
    (s.gov.mode = .speed → ∃ t, exec (.pumpIdle tag) s = .next t ∧ Reacted (putReply tag .ok [] u) t ∧
      t.gov = { s.gov with mode := .idle, resume := some .speed, hold := none, stop := none }) ∧
    (s.gov.mode = .idle → ∃ t, exec (.pumpIdle tag) s = .next t ∧ Reacted (putReply tag .ok [] u) t ∧ t.gov = s.gov) ∧
    (s.gov.mode = .off ∨ s.gov.mode = .roll → ∃ t, exec (.pumpIdle tag) s = .next t ∧
      Reacted (putReply tag .refusedState [] u) t ∧ t.gov = s.gov)) ∧
  (∀ (c : Instr) (s t : State) (g h : Governor) (resume : Option ResumeMode), Continues c s t → RecordsFollow s →
    powerReact s = s → g = s.gov → h = t.gov →
    resume = (if g.mode = .pressure ∨ g.mode = .hold then some .pressure else if g.mode = .speed then some .speed
      else g.resume) →
    (∀ d, g.governed = none → h.governed = some d →
      (d = .main ∨ t.vehicle = .stationary → h.mode = .idle ∧ h.windDown = none ∧
        h.request = (if g.mode = .off then t.settings.gov.idleRpm else g.request) ∧
        (g.mode = .off → (∀ x ∈ ceilingsInForce t, t.settings.gov.idleRpm ≤ x) →
          t.engineRequest = some t.settings.gov.idleRpm) ∧
        h.resume = if g.windDown = some d then g.resume else none) ∧
      (d = .aux → t.vehicle ≠ .stationary →
        EnteredRoll t.settings.gov (if g.windDown = some d then g.resume else none) h)) ∧
    (∀ d e, g.governed = some d → h.governed = some e → d ≠ e →
      (e = .main ∨ t.vehicle = .stationary → h.mode = .idle ∧ h.windDown = none ∧ h.resume = none ∧ h.hold = none ∧
        h.stop = none ∧ h.request = g.request) ∧
      (e = .aux → t.vehicle ≠ .stationary → EnteredRoll t.settings.gov none h)) ∧
    (∀ d, g.governed = some d → h.governed = none →
      ((t.pto.drive d).state = .windingDown → d = .main ∨ t.vehicle = .stationary →
        h.mode = .idle ∧ h.windDown = some d ∧ h.resume = resume ∧ h.hold = none) ∧
      (¬ ((t.pto.drive d).state = .windingDown ∧ (d = .main ∨ t.vehicle = .stationary)) →
        EnteredOff t.settings.gov h)) ∧
    (∀ d, g.windDown = some d → h.governed = none →
      (t.pto.drive d).state ≠ .windingDown ∨ (d = .aux ∧ t.vehicle ≠ .stationary) → EnteredOff t.settings.gov h) ∧
    (g.governed = some .aux → h.governed = some .aux → s.vehicle = .stationary → t.vehicle ≠ .stationary →
      g.mode ≠ .roll → EnteredRoll t.settings.gov resume h) ∧
    (g.mode = .roll → h.mode = .roll →
      (s.vehicle ≠ .stationary → t.vehicle = .stationary → h.stop = some (t.time.uptime + 2000#32)) ∧
      (s.vehicle = .stationary → t.vehicle = .stationary → h.stop = g.stop) ∧
      (t.vehicle ≠ .stationary → h.stop = none)) ∧
    (g.path = .available → h.path = .lost →
      (g.mode ∈ [.pressure, .speed, .hold] → h.mode = .idle ∧ h.resume = resume ∧ h.hold = none) ∧
      (g.mode ∈ [.off, .idle, .roll] → h.mode = g.mode) ∧
      (g.mode ≠ .off → RoomLeft s.notices → AlarmWaits .throttlePathLost (driveOrNone g.governed) t.notices)))

/-- GOVERN is taken with a governed drive, outside ROLL, with MAIN governed or the vehicle stationary, and with the
throttle path AVAILABLE: the setpoint is clamped, written and answered, and the mode follows R87's table. Otherwise it is
refused, and a mode byte of neither mode is BAD_VALUE. -/
def Obligations.GovernSetsModeAndSetpoint : Prop :=
  ∀ (tag mode : Byte) (v : BitVec 16) (s u : State),
    mayExecute { kind := 0x08#8, tag, payload := mode :: bytes16 v } s = true → Steady s → u = takeRequest s →
    (mode ≠ 2#8 → mode ≠ 3#8 → ∃ t, exec (.govern tag mode v) s = .next t ∧
      Reacted (putReply tag .badValue [] u) t ∧ t.gov = s.gov) ∧
    (¬ GovernTaken s → mode = 2#8 ∨ mode = 3#8 → ∃ t, exec (.govern tag mode v) s = .next t ∧
      Reacted (putReply tag .refusedState [] u) t ∧ t.gov = s.gov) ∧
    (GovernTaken s → mode = 2#8 → ∀ p, p = max 200 (min 2400 v.toInt) → ∃ t, exec (.govern tag mode v) s = .next t ∧
      Reacted (putReply tag (if p = v.toInt then .ok else .okClamped) (s16 p)
        { u with settings := { u.settings with gov := { u.settings.gov with pressureSetpoint := p } } }) t ∧
      t.gov = (if s.gov.mode = .hold then s.gov else if s.gov.mode = .pressure then { s.gov with firstStep := true }
        else { s.gov with mode := .pressure, firstStep := true, resume := none })) ∧
    (GovernTaken s → mode = 3#8 → ∀ p, p = max s.settings.gov.idleRpm (min s.settings.gov.govMax v.toInt) →
      ∃ t, exec (.govern tag mode v) s = .next t ∧
      Reacted (putReply tag (if p = v.toInt then .ok else .okClamped) (s16 p)
        { u with settings := { u.settings with gov := { u.settings.gov with speedSetpoint := p } } }) t ∧
      t.gov = (if s.gov.mode = .speed then s.gov
        else { s.gov with mode := .speed, resume := none, hold := none }))

/-- RESUME. The governor's part is accepted in IDLE with a resume mode for which a GOVERN would be taken, and puts it in
that mode; the monitor's part when the ceiling is LATCHED and no enabled condition is ACTIVE, and takes the ceiling to
RISING. Either acceptance is answered OK; else a LATCHED ceiling refuses with REFUSED_CONDITION, and any other state with
REFUSED_STATE. The body names both parts (log entry 20). What a RESUME then finds: the expiry of the hold timer and
PUMP_IDLE leave the mode they end as the resume mode and take nothing from what a GOVERN needs; the stop timer's expiry
leaves the resume mode as it was. -/
def Obligations.ResumeCombinesGovernorAndMonitor : Prop :=
  (∀ (tag : Byte) (s u : State) (gOk mOk : Bool), mayExecute { kind := 0x09#8, tag, payload := [] } s = true → Steady s →
    u = takeRequest s → (gOk = true ↔ s.gov.mode = .idle ∧ s.gov.resume ≠ none ∧ GovernTaken s) →
    (mOk = true ↔ s.prot.ceiling.state = .latched ∧ ¬ SomeActive s) →
    ∃ t code body, exec (.resume tag) s = .next t ∧
      Reacted (putReply tag code body { u with prot := { u.prot with ceiling := t.prot.ceiling } }) t ∧
      (code = .ok ↔ gOk = true ∨ mOk = true) ∧
      (code = .refusedCondition ↔ gOk = false ∧ mOk = false ∧ s.prot.ceiling.state = .latched) ∧
      (code = .refusedState ↔ gOk = false ∧ mOk = false ∧ s.prot.ceiling.state ≠ .latched) ∧
      body[0]? = some (if gOk then 2#8 else 3#8) ∧
      (mOk = true → body.drop 1 = [2#8, 0xFF#8] ∧
        t.prot.ceiling = { value := s.prot.ceiling.value, state := .rising, steps := none, entered := s.time.uptime }) ∧
      (mOk = false → t.prot.ceiling = s.prot.ceiling) ∧
      (s.prot.ceiling.state ≠ .latched → body.drop 1 = [10#8, 0xFF#8]) ∧
      (s.prot.ceiling.state = .latched → ∀ i : Fin 5, s.settings.prot.enabled[i] = true →
        (s.prot.conds[i]).state = .active →
        (∀ j : Fin 5, j < i → ¬ (s.settings.prot.enabled[j] = true ∧ (s.prot.conds[j]).state = .active)) →
        body.drop 1 = [4#8, BitVec.ofNat 8 i.val]) ∧
      (gOk = false → t.gov = s.gov) ∧
      (gOk = true → s.gov.resume = some .pressure →
        t.gov = { s.gov with mode := .pressure, firstStep := true, resume := none }) ∧
      (gOk = true → s.gov.resume = some .speed → t.gov = { s.gov with mode := .speed, resume := none })) ∧
  (∀ (tag : Byte) (s : State), Steady s →
    (s.working = true → s.gov.mode = .hold → due s.time.uptime s.gov.hold = true →
      ∃ t, exec .governorHoldExpiry s = .next t ∧ t.gov.mode = .idle ∧ t.gov.resume = some .pressure ∧
        (GovernTaken t ↔ GovernTaken s)) ∧
    (s.working = true → s.gov.mode = .roll → due s.time.uptime s.gov.stop = true →
      ∃ t, exec .stopTimerExpiry s = .next t ∧ t.gov.mode = .idle ∧ t.gov.resume = s.gov.resume) ∧
    (mayExecute { kind := 0x0A#8, tag, payload := [] } s = true →
      ∃ t, exec (.pumpIdle tag) s = .next t ∧
        (s.gov.mode ∈ [.pressure, .hold, .speed] → t.gov.mode = .idle ∧ (GovernTaken t ↔ GovernTaken s) ∧
          t.gov.resume = if s.gov.mode = .speed then some .speed else some .pressure)))

/-! ### Protection monitor -/

/-- PROTECTION_STEP takes each condition through the tests of R103, and QUALIFICATION_EXPIRY makes an INACTIVE P0 ACTIVE. A
condition that changes has its timestamps set and its PROTECT posted: ACTIVE with the value, an ALARM; CLEARED with the
value, or none when it is not applicable; UNKNOWN without a value, a WARNING. Whatever the command, the recirculation flag
is judged on A7 at a change of its state or value, and stays as it is otherwise. -/
def Obligations.ProtectionConditionsAreTested : Prop :=
  (∀ s : State, s.working = true → due s.time.uptime s.prot.next = true →
    ∃ t, exec .protectionStep s = .next t ∧ t.prot.next = s.prot.next.map (· + 20#32) ∧ t.settings = s.settings ∧
      t.inputs.analog = s.inputs.analog ∧ t.chassis.rx = s.chassis.rx ∧
      ∀ (i : Fin 5) (x y : ProtCond), x = s.prot.conds[i] → y = t.prot.conds[i] →
        (s.settings.prot.enabled[i] = false → y.state = .inactive) ∧
        (s.settings.prot.enabled[i] = true →
          (SourceLost s i → y.state = .unknown) ∧
          (SourceNotYetKnown s i → y.state = x.state) ∧
          (SourceNotApplicable s i → y.state = .inactive) ∧
          (∀ v, SourceGives s i v →
            (x.state = .active → (Clearing s.settings.prot i v → y.state = .inactive) ∧
              (¬ Clearing s.settings.prot i v → y.state = .active)) ∧
            (x.state ≠ .active → (Activating s.settings.prot i v → y.state = .active) ∧
              (¬ Activating s.settings.prot i v → y.state = .inactive)))) ∧
        (y.state = x.state → y = x) ∧
        (y.state ≠ x.state → y.entered = s.time.uptime ∧ (y.state ≠ .active → y.activated = x.activated) ∧
          (y.state = .active → y.activated = s.time.uptime ∧
            (s.notices.entries.length ≤ 26 → AlarmWaits .protect i.val t.notices)) ∧
          (s.notices.entries.length ≤ 4 → s.settings.prot.enabled[i] = true →
            (y.state = .unknown →
              WarningWaits .protect i.val (BitVec.ofNat 8 (protEventCode .unknown) :: noticeS16 none) t.notices) ∧
            (SourceNotApplicable s i →
              NoticeWaits .protect i.val (BitVec.ofNat 8 (protEventCode .cleared) :: noticeS16 none) t.notices) ∧
            (∀ v, SourceGives s i v →
              (y.state = .active →
                WarningWaits .protect i.val (BitVec.ofNat 8 (protEventCode .active) :: noticeS16 (some v)) t.notices) ∧
              (y.state = .inactive →
                NoticeWaits .protect i.val (BitVec.ofNat 8 (protEventCode .cleared) :: noticeS16 (some v)) t.notices))))) ∧
  (∀ s : State, s.working = true → due s.time.uptime s.prot.qualification = true →
    (s.prot.conds[(0 : Fin 5)]).state = .inactive →
    ∃ t, exec .qualificationExpiry s = .next t ∧ Reacted (({ s with prot := { s.prot with conds := t.prot.conds } }
        : State).post [noticeProtect 0 .alarm .active (some ((s.inputs.analog[(1 : Fin 10)]).eng.getD 0))]) t ∧
      t.prot.conds = s.prot.conds.set 0 { state := .active, activated := s.time.uptime, entered := s.time.uptime } ∧
      t.prot.qualification = none ∧
      (s.notices.entries.length < 32 → AlarmWaits .protect 0 t.notices)) ∧
  (∀ (c : Instr) (s t : State) (a b : AnalogChan) (warn : Int), Continues c s t → a = s.inputs.analog[(7 : Fin 10)] →
    b = t.inputs.analog[(7 : Fin 10)] → warn = t.settings.prot.warn →
    (a.state = b.state → a.eng = b.eng → t.prot.recirc = s.prot.recirc) ∧
    (a.state ≠ b.state ∨ a.eng ≠ b.eng →
      (∀ v, Reads b v → (warn ≤ v → t.prot.recirc = true) ∧ (v < warn - 50 → t.prot.recirc = false) ∧
        (warn - 50 ≤ v → v < warn → t.prot.recirc = s.prot.recirc)) ∧
      (b.state = .fault → t.prot.recirc = true) ∧ (b.state = .disabled → t.prot.recirc = false) ∧
      (b.state = .warming → t.prot.recirc = s.prot.recirc)))

/-- The ceiling at a protection step, by whether an enabled condition is ACTIVE after its tests. With one: from FREE
it falls to the stored request, in OFF and ROLL to idle_rpm, then by the retreat step to idle_rpm; from WAITING,
LATCHED and RISING it falls from where it stands. With none: FREE is at gov_max, and from below it waits for the
resume delay, or latches, then rises by rise_limit to gov_max, where it is FREE; PROTECT of subject 5 tells of
LATCHED, a WARNING, and of FREE, with the value. RESUME_TIMER_EXPIRY is the step at which the resume timer reaches 0
(log entry 8; for FREE, OFF and ROLL see log entry 47). -/
def Obligations.CeilingFallsAndRises : Prop :=
  ∀ (s : State) (x : Ceiling) (c : Settings) (request : Int), s.working = true → due s.time.uptime s.prot.next = true →
    x = s.prot.ceiling → c = s.settings →
    request = (if s.gov.mode = .off ∨ s.gov.mode = .roll then c.gov.idleRpm else s.gov.request) →
    ∃ t y, exec .protectionStep s = .next t ∧ y = t.prot.ceiling ∧ t.settings = c ∧
      (y.state = x.state → y.entered = x.entered) ∧ (y.state ≠ x.state → y.entered = s.time.uptime) ∧
      (y.state ≠ x.state → s.notices.entries.length ≤ 4 →
        (y.state = .latched →
          WarningWaits .protect 5 (BitVec.ofNat 8 (protEventCode .latched) :: noticeS16 (some y.value)) t.notices) ∧
        (y.state = .free →
          NoticeWaits .protect 5 (BitVec.ofNat 8 (protEventCode .free) :: noticeS16 (some y.value)) t.notices)) ∧
      (SomeActive t →
        (x.state = .free → y.value = max c.gov.idleRpm (min request c.gov.govMax)) ∧
        (x.state = .falling → y.value = max c.gov.idleRpm (x.value - c.prot.retreatStep)) ∧
        (x.state ∈ [.waiting, .latched, .rising] → y.value = x.value) ∧
        (x.state = .floor → y = x) ∧
        (x.state ≠ .floor → y.steps = none ∧ (y.value ≤ c.gov.idleRpm → y.state = .floor) ∧
          (c.gov.idleRpm < y.value → y.state = .falling))) ∧
      (¬ SomeActive t →
        (x.state = .free → y = { x with value := c.gov.govMax }) ∧ (x.state = .latched → y = x) ∧
        (x.state = .falling ∨ x.state = .floor → y.value = x.value ∧
          (c.prot.resumeMode = .auto → y.state = .waiting ∧ y.steps = some (max 1 (c.prot.resumeDelay / 20))) ∧
          (c.prot.resumeMode = .manual → y.state = .latched ∧ y.steps = none)) ∧
        (∀ n, x.state = .waiting → x.steps = some (n + 2) → y = { x with steps := some (n + 1) }) ∧
        (x.state = .rising ∨ (x.state = .waiting ∧ x.steps = some 1) →
          y.value = min c.gov.govMax (x.value + c.gov.riseLimit) ∧ y.steps = none ∧
          (y.state = .free ↔ c.gov.govMax ≤ x.value + c.gov.riseLimit) ∧
          (y.state = .rising ↔ x.value + c.gov.riseLimit < c.gov.govMax)) ∧
        (x.state = .waiting → x.steps = some 1 → exec .resumeTimerExpiry s = .next t))

/-! ### Tank gauge -/

/-- A sound strapping table converts levels to volumes: each point to its own volume, a level below the first to the first
volume, one beyond the last to the capacity, one between two points to the share of the rise rounded half up; a higher
level never to a lower volume. -/
def Obligations.VolumeFollowsTheStrappingTable : Prop :=
  ∀ strap : List (Nat × Nat), strapAscends strap = true → strap ≠ [] →
    (∀ p ∈ strap, volumeOf strap p.1 = p.2) ∧
    (∀ h, (∀ p ∈ strap, p.1 ≤ h) → volumeOf strap h = capacityOf strap) ∧
    (∀ h, (∀ p ∈ strap, h ≤ p.1) → some (volumeOf strap h) = strap.head?.map Prod.snd) ∧
    (∀ (i h : Nat) (p q : Nat × Nat), strap[i]? = some p → strap[i + 1]? = some q → p.1 ≤ h → h < q.1 →
      p.2 ≤ volumeOf strap h ∧ RoundsHalfUp ((h - p.1) * (q.2 - p.2)) (q.1 - p.1) (volumeOf strap h - p.2)) ∧
    (∀ h k, h ≤ k → volumeOf strap h ≤ volumeOf strap k)

/-- GAUGE_EVENT: without a fill the levels of WATER by the four cases, and of the foam tanks from A5 and A6 always. A level
joins the window, the newest 16; a full window within the settle band makes a STABLE result, a full one beyond it
SLOSHING, or UNKNOWN without a last stable volume; with the window not full, UNKNOWN and FAULT stay, and STABLE and
SLOSHING become SLOSHING (a STABLE tank whose window is not full: log entry 46, the model's choice). Its transducers
lost, a tank is in FAULT, the window emptied at the entry; one not yet known: no level. In SLOSHING and FAULT the
reported volume is the last stable volume less what has been consumed. A tank that moves to STABLE from SLOSHING or
FAULT is reconciled, its estimate being the one after what is drawn at the event itself. -/
def Obligations.GaugeEventGaugesTheWater : Prop :=
  ∀ (s : State) (c : GaugeSettings), s.working = true → due s.time.uptime s.gauge.next = true →
    c = s.settings.gauge →
    ∃ t, exec .gaugeEvent s = .next t ∧ t.gauge.next = s.gauge.next.map (· + 50#32) ∧
      (s.gauge.fill.active = false → t.gauge.fill = s.gauge.fill) ∧ t.gauge.leak = s.gauge.leak ∧
      t.settings = s.settings ∧
      (∀ x y, s.gauge.fill.active = false → x = s.gauge.water → y = t.gauge.water → x.state ≠ .absent → x.state ≠ .filling → 0 < c.spacing →
        (∀ h tilt part, CentreLevel s h tilt part → t.gauge.tilt = tilt ∧ LevelJudged c.water x y h part) ∧
        (Lost s.inputs.analog[(3 : Fin 10)] → Lost s.inputs.analog[(4 : Fin 10)] →
          LevelLost x y ∧ t.gauge.tilt = s.gauge.tilt) ∧
        ((s.inputs.analog[(3 : Fin 10)]).state = .warming ∨ (s.inputs.analog[(4 : Fin 10)]).state = .warming →
          LevelAwaited x y ∧ t.gauge.tilt = s.gauge.tilt)) ∧
      (∀ (k : TankId) (a : AnalogChan) (x y : Tank), (k = .foamA ∧ a = s.inputs.analog[(5 : Fin 10)]) ∨
          (k = .foamB ∧ a = s.inputs.analog[(6 : Fin 10)]) →
        x = s.gauge.tank k → y = t.gauge.tank k → x.state ≠ .absent → x.state ≠ .filling →
        (∀ (v : Int) (h : Nat), Reads a v → (h : Int) = max 0 v → LevelJudged (tankSettings c k) x y h false) ∧
        (Lost a → LevelLost x y) ∧ (a.state = .warming → LevelAwaited x y)) ∧
      (∀ (k : TankId) (x y : Tank), k ≠ .water ∨ s.gauge.fill.active = false → x = s.gauge.tank k → y = t.gauge.tank k →
        (x.state = .absent → y = x) ∧
        (x.state ≠ .absent → x.state ≠ .filling → VolumeEstimated x y ∧
          (∀ q amount unit drawn n r, Draws s k q amount unit drawn → Accrued x q amount unit drawn n r →
            Reconciled k (tankSettings c k) { x with consumed := n } y (s.notices.entries = []) t.notices)))

/-- GAUGE_EVENT counts what is drawn, during a fill too: WATER by the flow, and the selected foam tank by the flow and the
ratio, a remainder being kept of what fills no whole litre, up to the saturation of consumed; a tank not drawn on keeps
both. (A STABLE result, and the end of a fill, set them to 0.) The time remaining is the reported volume over the
flow, at most 5999 s. LOW is set at its percentage of the capacity and cleared above 2 points more; EMPTY of WATER is set at
the empty reserve and cleared above 100 L more, EMPTY of a foam tank at 5 % of the capacity and above 7 %. TANK_LEVEL tells
of each change of a flag, with the flag, the change and the reported volume. -/
def Obligations.GaugeEventCountsTheDraw : Prop :=
  ∀ s : State, s.working = true → due s.time.uptime s.gauge.next = true →
    ∃ t, exec .gaugeEvent s = .next t ∧ t.gauge.foam = s.gauge.foam ∧ t.gauge.ratio = s.gauge.ratio ∧
      ∀ (k : TankId) (x y : Tank) (q amount unit : Nat) (drawn : Bool),
        x = s.gauge.tank k → y = t.gauge.tank k → x.state ≠ .absent → Draws s k q amount unit drawn →
        (∀ n r, Accrued x q amount unit drawn n r → y.state ≠ .stable →
          k ≠ .water ∨ t.gauge.fill.active = s.gauge.fill.active → y.consumed = n ∧ y.remainder = r) ∧
        (k = .water → ∀ v, y.reported = some v → y.remaining =
          if s.level 5 = true ∧ 0 < q then some (min 5999 (v * 60 / q)) else none) ∧
        (k ≠ .water → ∀ v, y.reported = some v → y.remaining =
          if drawn = true ∧ 0 < q then some (min 5999 (v * 60000 / (q * s.gauge.ratio))) else none) ∧
        (y.reported = none → y.remaining = none ∧ y.low = x.low ∧ y.empty = x.empty) ∧
        (∀ v, y.reported = some v → FlagsJudged s k x y v ∧
          (s.notices.entries = [] → FlagsTold k x y v t.notices))

/-- FILL START: taken for a standing vehicle in AWAKE, WATER neither ABSENT nor FAULT and no fill active. The target is
limited to the capacity. A target already reached ends at once with TARGET; else the fill is active, its timer running,
WATER FILLING and the fill valve open. Otherwise it is refused. GAUGE_EVENT during a fill: the level joins the window, and
the reported volume is that of the mean of its newest four levels. The ends of an active fill: the gauge event that reaches
the target, or the last level of the table, with TARGET or FULL; FILL STOP, answered OK, with STOPPED; the fill timer's
expiry with TIMEOUT; and whatever the command, the loss of both water transducers with SENSOR, the vehicle's ceasing to be
stationary, by a frame or by the loss of its speed, with MOVED, and the entry to RUNDOWN with POWER. Three of these are said
to complete: the second transducer's HOLD_EXPIRY, the speed's AGE_EXPIRY, and D8 at 0 with a drive not released. The valve
shuts, FILL_DONE tells the reason, the final volume and the whole seconds, the final volume becomes the last stable volume,
and WATER enters SLOSHING, or UNKNOWN without one, or FAULT with SENSOR (log entry 36 where there is none with SENSOR). A
FILL STOP without a fill is answered OK without effect. (SENSOR before MOVED at one event: log entry 74; STOPPED by RECALL
is another statement's.) -/
def Obligations.FillsOpenAndShutTheValve : Prop :=
  (∀ (tag : Byte) (v : BitVec 16) (s u : State) (w : Nat),
    mayExecute { kind := 0x0D#8, tag, payload := 0#8 :: bytes16 v } s = true → u = takeRequest s →
    w = min v.toNat (capacityOf s.settings.gauge.water.strap) →
    (¬ FillTaken s → ∃ t, exec (.fillStart tag v) s = .next t ∧ Reacted (putReply tag .refusedState [] u) t) ∧
    (FillTaken s → IgnitionOn s → (∀ r, s.gauge.water.reported = some r → r < w) → ∃ t, exec (.fillStart tag v) s = .next t ∧
      Reacted (putReply tag (if w = v.toNat then .accepted else .okClamped) (u16 w) { u with gauge := t.gauge }) t ∧
      t.gauge = { s.gauge with
        fill := { s.gauge.fill with
          active := true, target := some w, start := s.time.uptime
          timer := some (s.time.uptime + BitVec.ofNat 32 (s.settings.gauge.fillMaxTime * 1000)) }
        water := { s.gauge.water with state := .filling } } ∧ t.outputs.o3 = true) ∧
    (FillTaken s → IgnitionOn s → ∀ r, s.gauge.water.reported = some r → w ≤ r → ∃ t, exec (.fillStart tag v) s = .next t ∧
      Reacted (putReply tag (if w = v.toNat then .accepted else .okClamped) (u16 w) { u with gauge := t.gauge }) t ∧
      t.gauge = { s.gauge with
        fill := { s.gauge.fill with endReason := some .target, finalVolume := some r } } ∧ t.outputs.o3 = false)) ∧
  (∀ (tag : Byte) (s u : State), mayExecute { kind := 0x0D#8, tag, payload := [1#8] } s = true → u = takeRequest s →
    (s.gauge.fill.active = true → ∃ t, exec (.fillStop tag) s = .next t ∧
      Reacted (putReply tag .ok [] { u with gauge := t.gauge }) t ∧ FillEnded s .stopped t.gauge ∧
      t.outputs.o3 = false ∧ (RoomLeft s.notices → FillDoneWaits s .stopped s.gauge.water.reported t.notices)) ∧
    (s.gauge.fill.active = false → ∃ t, exec (.fillStop tag) s = .next t ∧ Reacted (putReply tag .ok [] u) t)) ∧
  (∀ s : State, s.working = true → s.gauge.fill.active = true → due s.time.uptime s.gauge.fill.timer = true →
    ∃ t, exec .fillTimeout s = .next t ∧ Reacted { s with gauge := t.gauge } t ∧ FillEnded s .timeout t.gauge ∧
      t.outputs.o3 = false ∧ (RoomLeft s.notices → FillDoneWaits s .timeout s.gauge.water.reported t.notices)) ∧
  (∀ (s : State) (c : GaugeSettings), IgnitionOn s → due s.time.uptime s.gauge.next = true → c = s.settings.gauge →
    0 < c.spacing → s.gauge.fill.active = true → s.gauge.water.state = .filling → s.vehicle = .stationary →
    (∀ h tilt part w m v (top target : Nat), CentreLevel s h tilt part → w = newest 16 (s.gauge.water.window ++ [h]) →
      RoundsHalfUp (newest 4 w).sum (newest 4 w).length m → v = volumeOf c.water.strap m →
      c.water.strap.getLast?.map Prod.fst = some top → s.gauge.fill.target = some target →
      ∃ t, exec .gaugeEvent s = .next t ∧ t.gauge.water.window = w ∧ t.gauge.water.reported = some v ∧
        t.gauge.water.centre = some h ∧ t.gauge.tilt = tilt ∧
        (v < target → h < top → t.gauge.fill = s.gauge.fill ∧ t.gauge.water.state = .filling ∧ t.outputs.o3 = true) ∧
        (∀ r, (target ≤ v ∧ r = .target) ∨ (v < target ∧ top ≤ h ∧ r = .full) →
          FillEndedWith s r (some v) w t.gauge ∧ t.gauge.water.stable = some m ∧ t.outputs.o3 = false ∧
          (s.notices.entries = [] → FillDoneWaits s r (some v) t.notices))) ∧
    ((s.inputs.analog[(3 : Fin 10)]).state = .warming ∨ (s.inputs.analog[(4 : Fin 10)]).state = .warming →
      ∃ t, exec .gaugeEvent s = .next t ∧ t.gauge.water.window = s.gauge.water.window ∧
        t.gauge.water.centre = s.gauge.water.centre)) ∧
  (∀ (s : State) (ch other : Fin 10) (a : AnalogChan) (cause : ChannelCause), s.working = true →
    s.gauge.fill.active = true → (ch = 3 ∧ other = 4) ∨ (ch = 4 ∧ other = 3) → a = s.inputs.analog[ch] →
    a.state = .held → due s.time.uptime a.hold = true → a.lastReject = some cause → Lost s.inputs.analog[other] →
    ∃ t, exec (.holdExpiry ch) s = .next t ∧ t.outputs.o3 = false ∧ FillEndedSensor s t.gauge ∧
      (RoomLeft s.notices → FillDoneWaits s .sensor s.gauge.water.reported t.notices)) ∧
  (∀ (s : State) (i : Fin 16), s.working = true → s.gauge.fill.active = true → boundSlot s.settings 0 = some i →
    (s.chassis.rx[i]).state = .fresh ∨ (s.chassis.rx[i]).state = .notAvailable →
    due s.time.uptime (s.chassis.rx[i]).age = true →
    ∃ t, exec (.ageExpiry i) s = .next t ∧ FillEnded s .moved t.gauge ∧ t.outputs.o3 = false ∧
      (RoomLeft s.notices → FillDoneWaits s .moved s.gauge.water.reported t.notices)) ∧
  (∀ (s : State) (d : DiscreteChan) (electrical : Bool), s.powered = true → s.power.state = .awake →
    s.gauge.fill.active = true → s.vehicle = .stationary → ¬ DrivesReleased s →
    d = s.inputs.discrete[(8 : Fin 10)] → electrical = decide (s.settings.polarity[(8 : Fin 10)] = .activeLow) →
    sampleDue s.time.uptime d.next = true → d.awaitFirst = true ∨ (d.level = true ∧ d.count = 3) →
    ∃ t, exec (.discreteSample 8 electrical) s = .next t ∧ FillEnded s .power t.gauge ∧ t.outputs.o3 = false ∧
      (RoomLeft s.notices → FillDoneWaits s .power s.gauge.water.reported t.notices)) ∧
  (∀ (c : Instr) (s t : State), Continues c s t → s.gauge.fill.active = true →
    (s.vehicle = .stationary → t.vehicle ≠ .stationary → t.settings = s.settings →
      FillEnded s .moved t.gauge ∧ t.outputs.o3 = false ∧
      (RoomLeft s.notices → FillDoneWaits s .moved s.gauge.water.reported t.notices)) ∧
    (¬ WaterLost s → WaterLost t → waterGeometry t.settings = waterGeometry s.settings →
      FillEndedSensor s t.gauge ∧ t.outputs.o3 = false ∧
      (s.notices.entries = [] → FillDoneWaits s .sensor s.gauge.water.reported t.notices)) ∧
    (s.power.state = .awake → t.power.state = .rundown → t.vehicle = .stationary → ¬ WaterLost t →
      waterGeometry t.settings = waterGeometry s.settings → c ≠ .gaugeEvent → c ≠ .fillTimeout →
      (∀ tag, c ≠ .fillStop tag) → c ≠ .executionStart →
      FillEnded s .power t.gauge ∧ t.outputs.o3 = false ∧
      (s.notices.entries = [] → FillDoneWaits s .power s.gauge.water.reported t.notices)))

/-- FOAM: OFF clears the selection; a tank that is fitted is selected with the ratio given, limited to 1 to 60, or with
that tank's ratio setting, and answered with the ratio applied; an ABSENT tank is refused, and another byte is BAD_VALUE.
(The body of OFF's reply is the model's choice, log entry 41.) -/
def Obligations.FoamSelectsATank : Prop :=
  ∀ (tag sel : Byte) (ratio : Option Byte) (s u : State),
    mayExecute { kind := 0x0E#8, tag, payload := sel :: ratio.toList } s = true → u = takeRequest s →
    (sel = 0#8 → ∃ t, exec (.foam tag sel ratio) s = .next t ∧
      Reacted (putReply tag .ok (u8 s.gauge.ratio) { u with gauge := { u.gauge with foam := .off } }) t) ∧
    (3 ≤ sel.toNat → ∃ t, exec (.foam tag sel ratio) s = .next t ∧ Reacted (putReply tag .badValue [] u) t) ∧
    (∀ (f : FoamSel) (k : TankId) (setting r : Nat), (sel = 1#8 ∧ f = .foamA ∧ k = .foamA ∧ setting = s.settings.gauge.ratioA) ∨
        (sel = 2#8 ∧ f = .foamB ∧ k = .foamB ∧ setting = s.settings.gauge.ratioB) →
      ((s.gauge.tank k).state = .absent → ∃ t, exec (.foam tag sel ratio) s = .next t ∧
        Reacted (putReply tag .refusedState [] u) t) ∧
      ((s.gauge.tank k).state ≠ .absent →
        (ratio = none → ∃ t, exec (.foam tag sel ratio) s = .next t ∧
          Reacted (putReply tag .ok (u8 setting) { u with gauge := { u.gauge with foam := f, ratio := setting } }) t) ∧
        (∀ b, ratio = some b → r = max 1 (min 60 b.toNat) → ∃ t, exec (.foam tag sel ratio) s = .next t ∧
          Reacted (putReply tag (if r = b.toNat then .ok else .okClamped) (u8 r)
            { u with gauge := { u.gauge with foam := f, ratio := r } }) t)))

/-- The leak watch of a parked part. BURST_TIMER_EXPIRY empties WATER's window, runs the burst timer again and has A3
and A4 sampled afresh. BURST_EVENT: with either transducer lost the burst ends with NO_READING, as it does when the
window is not full at the 40th event, and one not yet known adds no level; a full window beyond the band ends it with
SLOSHING; one within it is a STABLE result, reconciled and judged for LOW and EMPTY as one of a gauge event,
TANK_LEVEL telling of a flag that changes, whose volume becomes the reference if there is none, and is a leak when it
is below the reference by more than the leak limit: the leak flag and the wake line are set, the watch is disarmed and
the ALARM posted. (A burst's levels leave the centre level and the partial flag: log entry 48.) -/
def Obligations.LeakWatchTakesBursts : Prop :=
  ∀ (s : State) (l : LeakWatch) (c : GaugeSettings), s.powered = true →
    s.power.state = .watch ∨ s.power.state = .waking → l = s.gauge.leak → c = s.settings.gauge →
    (l.armed = true → due s.time.uptime l.timer = true → ∃ t, exec .burstTimerExpiry s = .next t ∧
      t.gauge = { s.gauge with
        water := { s.gauge.water with window := [] }
        leak := { l with timer := some (s.time.uptime + 60000#32), burst := some 0,
                         burstNext := some (s.time.uptime + 50#32) } } ∧
      (∀ ch : Fin 10, ch = 3 ∨ ch = 4 → (s.settings.analog[ch]).enabled = true →
        (t.inputs.analog[ch]).state = .warming) ∧
      t.settings = s.settings ∧ t.notices = s.notices ∧ t.power = s.power) ∧
    (∀ n, l.burst = some n → due s.time.uptime l.burstNext = true → 0 < c.spacing →
      ∃ t, exec .burstEvent s = .next t ∧ t.settings = s.settings ∧ t.power = s.power ∧
        t.gauge.fill = s.gauge.fill ∧ t.gauge.foamA = s.gauge.foamA ∧ t.gauge.foamB = s.gauge.foamB ∧
        (t.outputs.o7 = true ↔ t.gauge.leak.leak = true) ∧
        (Lost s.inputs.analog[(3 : Fin 10)] ∨ Lost s.inputs.analog[(4 : Fin 10)] →
          t.gauge.leak = { l with bursts := min 65535 (l.bursts + 1), result := .noReading, resultVolume := none,
                                  burst := none, burstNext := none } ∧ t.gauge.water = s.gauge.water) ∧
        (¬ Lost s.inputs.analog[(3 : Fin 10)] → ¬ Lost s.inputs.analog[(4 : Fin 10)] →
          (s.inputs.analog[(3 : Fin 10)]).state = .warming ∨ (s.inputs.analog[(4 : Fin 10)]).state = .warming →
          t.gauge.water = s.gauge.water ∧ t.gauge.tilt = s.gauge.tilt ∧ t.notices = s.notices ∧
          (n + 1 < 40 → t.gauge.leak = { l with burst := some (n + 1), burstNext := l.burstNext.map (· + 50#32) }) ∧
          (40 ≤ n + 1 → t.gauge.leak = { l with bursts := min 65535 (l.bursts + 1), result := .noReading,
                                                resultVolume := none, burst := none, burstNext := none })) ∧
        (∀ h tilt part w, CentreLevel s h tilt part → w = newest 16 (s.gauge.water.window ++ [h]) →
          ¬ Lost s.inputs.analog[(3 : Fin 10)] → ¬ Lost s.inputs.analog[(4 : Fin 10)] →
          t.gauge.water.window = w ∧ t.gauge.tilt = tilt ∧
          (w.length < 16 → n + 1 < 40 → t.gauge.leak.burst = some (n + 1) ∧ t.gauge.leak.bursts = l.bursts ∧
            t.gauge.leak.burstNext = l.burstNext.map (· + 50#32) ∧ t.gauge.leak.result = l.result) ∧
          (w.length < 16 → 40 ≤ n + 1 → t.gauge.leak.burst = none ∧ t.gauge.leak.result = .noReading ∧
            t.gauge.leak.bursts = min 65535 (l.bursts + 1)) ∧
          (w.length = 16 → ¬ WithinBand w c.water.settleBand →
            t.gauge.leak = { l with bursts := min 65535 (l.bursts + 1), result := .sloshing, resultVolume := none,
                                    burst := none, burstNext := none } ∧
            t.gauge.water = { s.gauge.water with window := w }) ∧
          (w.length = 16 → WithinBand w c.water.settleBand → ∀ m v, RoundsHalfUp w.sum 16 m →
            v = volumeOf c.water.strap m →
            t.gauge.water.state = .stable ∧ t.gauge.water.reported = some v ∧ t.gauge.water.lastStable = some v ∧
            t.gauge.water.stable = some m ∧ t.gauge.water.consumed = 0 ∧ t.gauge.water.remainder = 0 ∧
            t.gauge.water.centre = s.gauge.water.centre ∧ t.gauge.water.partialFlag = s.gauge.water.partialFlag ∧
            Reconciled .water c.water s.gauge.water t.gauge.water (s.notices.entries.length ≤ 28) t.notices ∧
            FlagsJudged s .water s.gauge.water t.gauge.water v ∧
            (s.notices.entries.length ≤ 28 → FlagsTold .water s.gauge.water t.gauge.water v t.notices) ∧
            t.gauge.leak.result = .stable ∧ t.gauge.leak.resultVolume = some v ∧ t.gauge.leak.burst = none ∧
            t.gauge.leak.bursts = min 65535 (l.bursts + 1) ∧
            (l.reference = none → t.gauge.leak.reference = some v ∧ t.gauge.leak.leak = l.leak ∧
              t.gauge.leak.armed = l.armed) ∧
            (∀ v0, l.reference = some v0 → t.gauge.leak.reference = some v0 ∧
              (v0 ≤ v + c.leakLimit → t.gauge.leak.leak = l.leak ∧ t.gauge.leak.armed = l.armed) ∧
              (v + c.leakLimit < v0 → t.gauge.leak.leak = true ∧ t.gauge.leak.armed = false ∧
                t.gauge.leak.timer = none ∧
                (s.notices.entries.length ≤ 28 → AlarmWaits .tankLeak 0 t.notices))))))

/-! ### Lockout unit -/

/-- Every step keeps what the drive permit rests on; so the permit output is energised only with INHIBIT RELEASED and the
part AWAKE, MAIN DISENGAGED and no fill active. And every step keeps a fill active only while the vehicle is stationary and
the part AWAKE, WATER FILLING; so the fill valve is open only then. (Before the first evaluation: log entry 51.) -/
def Obligations.PermitOnlyWithMainDisengaged : Prop :=
  (∀ s t : State, OutputsSound s → (s.working = true → FillFollows s) → step s = .next t →
    (t.working = true → FillFollows t) ∧
    (t.outputs.o3 = true → t.gauge.fill.active = true ∧ t.vehicle = .stationary ∧ t.power.state = .awake ∧
      t.gauge.water.state = .filling)) ∧
  ∀ s t : State, PermitSound s → step s = .next t → PermitSound t ∧
    (t.outputs.o2 = true → t.lock.inhibit.state = .released ∧ t.power.state = .awake ∧
      t.pto.main.state = .disengaged ∧ t.gauge.fill.active = false ∧ t.outputs.o0 = false ∧ t.outputs.o3 = false)

/-- What the actions do with their contributing sets. A LATCHED action leaves LATCHED only by a RELEASE, a new
contributor (a condition of its set that changes at the event, or one newly in its set), a power-on or a restart. An
ASSERTED action whose set becomes empty holds off with release mode AUTO, and latches with MANUAL; an INHIBIT whose set
is found empty first since the starting point holds off in either mode; a PENDING IDLE_CAP is released. A new
contributor asserts an action, but IDLE_CAP, while the vehicle is not stationary, becomes PENDING, and with a
contributor is ASSERTED once the vehicle is stationary. The driving-with-condition field names the lowest of C2 to C5,
C9 and C10 among the contributors of an ASSERTED INHIBIT while the vehicle moves, whatever command changes the part, and
a condition it did not name before has its ALARM posted. An action that leaves RELEASED, or enters it, at any command has a
LOCKOUT posted, with the old state, the new one and the lowest of its contributing set at the evaluation that changes its
state (none: log entry 66), which is the set it is left with but for what the drives and the fill do twice at one event. -/
def Obligations.ActionsFollowTheirContributors : Prop :=
  ∀ (c : Instr) (s t : State), exec c s = .next t →
    (∀ a : ActionId, (s.lock.action a).state = .latched →
      (t.lock.action a).state = .latched ∨ (∃ tag b, c = .release tag b) ∨ c = .executionStart ∨ c = .powerOn ∨
        Restarts c s ∨ (∃ i ∈ (t.lock.action a).contributors, i ∉ (s.lock.action a).contributors) ∨
        (∃ i : Fin 11, a ∈ t.settings.lock.actionSets[i] ∧ (t.lock.conds[i]).changed = t.time.uptime)) ∧
    (s.working = true → t.working = true → s.lock.evaluated = true → t.lock.evaluated = true → RecordsFollow s →
      (∀ a : ActionId, (s.lock.action a).state = .asserted → (s.lock.action a).contributors ≠ [] →
        (t.lock.action a).contributors = [] → ∀ hold, hold = (actionSettings t.settings.lock a).holdOff →
        ((actionSettings t.settings.lock a).mode = .auto ∨ (a = .inhibit ∧ s.lock.starting = true) →
          (t.lock.action a).state = .holdingOff ∧
          (hold ≠ 0 → (t.lock.action a).holdOff = some (t.time.uptime + BitVec.ofNat 32 hold)) ∧
          (hold = 0 → (t.lock.action a).holdOff = some (t.time.uptime + 10#32))) ∧
        ((actionSettings t.settings.lock a).mode = .manual → ¬ (a = .inhibit ∧ s.lock.starting = true) →
          (t.lock.action a).state = .latched ∧ (t.lock.action a).holdOff = none)) ∧
      (s.lock.idleCap.state = .pending → s.lock.idleCap.contributors ≠ [] → t.lock.idleCap.contributors = [] →
        t.vehicle ≠ .stationary → t.lock.idleCap.state = .released) ∧
      (s.lock.idleCap.state = .pending → t.lock.idleCap.contributors ≠ [] → t.vehicle = .stationary →
        t.lock.idleCap.state = .asserted) ∧
      (∀ (a : ActionId) (i : Fin 11), i ∈ (t.lock.action a).contributors → i ∉ (s.lock.action a).contributors →
        (a ≠ .idleCap ∨ t.vehicle = .stationary → (t.lock.action a).state = .asserted) ∧
        (a = .idleCap → t.vehicle ≠ .stationary → s.lock.idleCap.state ≠ .asserted → t.lock.idleCap.state = .pending))) ∧
    (Continues c s t → t ≠ s → ∀ i : Fin 11,
      (t.lock.driving = some i ↔ t.lock.inhibit.state = .asserted ∧ t.vehicle = .moving ∧
        i ∈ [(2 : Fin 11), 3, 4, 5, 9, 10] ∧ i ∈ t.lock.inhibit.contributors ∧
        ∀ j ∈ [(2 : Fin 11), 3, 4, 5, 9, 10], j < i → j ∉ t.lock.inhibit.contributors) ∧
      (t.lock.driving = some i → s.lock.driving ≠ some i → RoomLeft s.notices →
        AlarmWaits .drivingWithCondition i.val t.notices)) ∧
    (Continues c s t → RoomLeft s.notices → ∀ a : ActionId,
      ((s.lock.action a).state = .released → (t.lock.action a).state ≠ .released →
        ∃ new set, (new = .asserted ∨ new = .pending) ∧ set ≠ [] ∧ EvaluatedSet t a set ∧
          (IgnitionOn s → IgnitionOn t → s.pto.main.state = t.pto.main.state → s.pto.aux.state = t.pto.aux.state →
            s.gauge.fill.active = t.gauge.fill.active →
            set = (t.lock.action a).contributors ∧ new = (t.lock.action a).state) ∧
          LockoutWaits a .released new set t.notices) ∧
      ((s.lock.action a).state ≠ .released → (t.lock.action a).state = .released →
        ∃ old set, (old = (s.lock.action a).state ∨ old = .pending) ∧
          (RecordsFollow s → set = (t.lock.action a).contributors) ∧ LockoutWaits a old .released set t.notices))

/-- HOLD_OFF_EXPIRY takes an action in HOLDING_OFF to RELEASED. RELEASE does so at once from HOLDING_OFF and LATCHED, is
refused in ASSERTED and PENDING naming the lowest contributor, and is answered OK in RELEASED, both without effect on the
action where the records already follow one another; an index of no action is BAD_VALUE. LOCKOUT tells of each release,
with the lowest contributor or none (log entry 66). With INHIBIT RELEASED in AWAKE the drive permit is given. FORCE sets or
clears C10, answered OK, and another value is BAD_VALUE; an action that it takes out of RELEASED has its LOCKOUT posted. -/
def Obligations.ActionsAreReleasedAndForced : Prop :=
  (∀ (a : ActionId) (s : State) (x : Action), s.working = true → Steady s → x = s.lock.action a →
    x.state = .holdingOff → due s.time.uptime x.holdOff = true →
    ∃ t, exec (.holdOffExpiry a) s = .next t ∧ Reacted s t ∧
      t.lock.action a = { x with state := .released, holdOff := none, entered := s.time.uptime } ∧
      (RoomLeft s.notices → LockoutWaits a .holdingOff .released x.contributors t.notices) ∧
      (a = .inhibit → (t.outputs.o2 = true ↔ s.power.state = .awake))) ∧
  (∀ (tag b : Byte) (s u : State), mayExecute { kind := 0x0B#8, tag, payload := [b] } s = true → u = takeRequest s →
    (3 ≤ b.toNat → ∃ t, exec (.release tag b) s = .next t ∧ Reacted (putReply tag .badValue [] u) t) ∧
    ∀ (a : ActionId) (x : Action), b.toNat = actionIndex a → x = s.lock.action a →
      (x.state = .latched ∨ x.state = .holdingOff → Steady s → ∃ t, exec (.release tag b) s = .next t ∧
        Reacted (putReply tag .ok [] u) t ∧
        t.lock.action a = { x with state := .released, holdOff := none, entered := s.time.uptime } ∧
        (RoomLeft s.notices → LockoutWaits a x.state .released x.contributors t.notices) ∧
        (a = .inhibit → (t.outputs.o2 = true ↔ s.power.state = .awake))) ∧
      (x.state = .released → ∃ t, exec (.release tag b) s = .next t ∧ Reacted (putReply tag .ok [] u) t ∧
        (Steady s → t.lock.action a = x)) ∧
      (∀ i rest, x.state = .asserted ∨ x.state = .pending → x.contributors = i :: rest →
        ∃ t, exec (.release tag b) s = .next t ∧
          Reacted (putReply tag .refusedCondition [BitVec.ofNat 8 i.val] u) t ∧ (Steady s → t.lock.action a = x))) ∧
  (∀ (tag b : Byte) (s u : State), mayExecute { kind := 0x0C#8, tag, payload := [b] } s = true → u = takeRequest s →
    (2 ≤ b.toNat → ∃ t, exec (.force tag b) s = .next t ∧ Reacted (putReply tag .badValue [] u) t) ∧
    (∀ on : Bool, b.toNat = on.toNat → ∃ t, exec (.force tag b) s = .next t ∧
      Reacted (putReply tag .ok [] { u with lock := { u.lock with forced := on } }) t ∧
      (t.lock.conds[(10 : Fin 11)]).active = on ∧
      ((s.lock.conds[(10 : Fin 11)]).active = on → t.lock.conds[(10 : Fin 11)] = s.lock.conds[(10 : Fin 11)]) ∧
      ((s.lock.conds[(10 : Fin 11)]).active ≠ on → (t.lock.conds[(10 : Fin 11)]).changed = s.time.uptime) ∧
      (Steady s → RoomLeft s.notices → ∀ (a : ActionId) (y : Action), y = t.lock.action a →
        (s.lock.action a).state = .released → y.state ≠ .released →
        LockoutWaits a .released y.state y.contributors t.notices)))

/-- OVERSPEED_EXPIRY with the vehicle still over the threshold: TRIPPED, with the ALARM posted (its auto-drop byte:
log entry 76). With auto-drop off AUX stays in its state, as it does in RELEASING and FAULT; with it on an AUX in
ENGAGED, SETTLING, SHIFTING or WINDING_DOWN is released: RELEASING, or DISENGAGED when its feedback is off; while MAIN
holds a shift it waits in WINDING_DOWN with the waiver set, the solenoid energised; and a REQUESTED AUX returns to
DISENGAGED with PTO_REFUSED, reason AUX_SPEED. Whatever command changes the part, the monitor is OFF with AUX
DISENGAGED, else WATCHING with the vehicle not over the threshold; over it, OFF and WATCHING lead to TIMING, whose
timer runs roll_overspeed_time, TIMING goes on with its timer until the expiry, and TRIPPED stays. -/
def Obligations.OverspeedTripsAndDropsAux : Prop :=
  (∀ (c : Instr) (s t : State) (old : OverspeedState) (timer : Timer) (fast : Bool), Continues c s t →
    t ≠ s → old = s.lock.overspeed → timer = s.lock.overspeedTimer →
    (fast = true ↔ ∃ v, t.quantity 0 = some v ∧ t.settings.lock.rollSpeedLimit + 200 < v) →
    (t.pto.aux.state = .disengaged → t.lock.overspeed = .off ∧ t.lock.overspeedTimer = none) ∧
    (t.pto.aux.state ≠ .disengaged →
      (fast = false → t.lock.overspeed = .watching ∧ t.lock.overspeedTimer = none) ∧
      (fast = true → old = .off ∨ old = .watching → t.lock.overspeed = .timing ∧ t.lock.overspeedTimer =
        some (t.time.uptime + BitVec.ofNat 32 (t.settings.lock.overspeedTime * 1000))) ∧
      (fast = true → old = .timing → c ≠ .overspeedExpiry → t.lock.overspeed = .timing ∧
        t.lock.overspeedTimer = timer) ∧
      (fast = true → old = .tripped → t.lock.overspeed = .tripped ∧ t.lock.overspeedTimer = none))) ∧
  ∀ (s : State) (v : Int) (x : Drive), IgnitionOn s → s.lock.overspeed = .timing →
    due s.time.uptime s.lock.overspeedTimer = true → s.quantity 0 = some v → s.settings.lock.rollSpeedLimit + 200 < v →
    x = s.pto.aux → x.state ≠ .disengaged →
    ∃ t, exec .overspeedExpiry s = .next t ∧
      Reacted (s.post (noticeRollOverspeed v (s.settings.lock.rollSpeedLimit + 200) s.settings.lock.autoDrop ::
        if s.settings.lock.autoDrop = true ∧ x.state = .requested then [noticePtoRefused .aux (some .auxSpeed)]
        else [])) t ∧
      (s.notices.entries.length < 32 → AlarmWaits .rollOverspeed 1 t.notices) ∧
      (t.pto.aux.state = .disengaged → t.lock.overspeed = .off) ∧
      (t.pto.aux.state ≠ .disengaged → t.lock.overspeed = .tripped ∧ t.lock.overspeedTimer = none) ∧
      (s.settings.lock.autoDrop = false ∨ x.state ∈ [.releasing, .fault] → t.pto.aux.state = x.state) ∧
      (s.settings.lock.autoDrop = true →
        (x.state = .requested → t.pto.aux.state = .disengaged ∧ t.pto.aux.window = none ∧ t.outputs.o1 = false ∧
          (RoomLeft s.notices → WarningWaits .ptoRefused 1 [BitVec.ofNat 8 (reasonCode .auxSpeed)] t.notices)) ∧
        (x.state = .shifting ∨ (x.state ∈ [.engaged, .settling, .windingDown] ∧ ¬ OtherShifts s .aux) →
          t.outputs.o1 = false ∧ (s.feedback .aux = true → ReleasingFrom s t.pto.aux) ∧
          (s.feedback .aux = false → t.pto.aux.state = .disengaged ∧
            (RoomLeft s.notices → NoticeWaits .ptoDisengaged (driveIndex .aux) [] t.notices))) ∧
        (x.state ∈ [.engaged, .settling, .windingDown] → OtherShifts s .aux →
          t.pto.aux.state = .windingDown ∧ t.pto.aux.waiver = true ∧ t.pto.aux.reason = some .otherShift ∧
          t.outputs.o1 = true ∧
          (x.state ≠ .windingDown → t.pto.aux.windDown = some (s.time.uptime + 5000#32)) ∧
          (x.state = .windingDown → t.pto.aux.windDown = x.windDown)))

/-! ### Panel link -/

/-- A frame built of a kind, a tag and up to 248 bytes of payload is a frame in layout, its check matches, and it is read
back as that kind, tag and payload; and every frame in layout whose check matches is the one built of its contents. -/
def Obligations.FramesCarryTheirContents : Prop :=
  (∀ (kind tag : Byte) (payload : List Byte), payload.length ≤ 248 →
    frameLayout (buildFrame kind tag payload) = true ∧ crcMatches (buildFrame kind tag payload) = true ∧
    contentsOf (buildFrame kind tag payload) = { kind, tag, payload } ∧
    (buildFrame kind tag payload).length = payload.length + 6) ∧
  (∀ f : List Byte, frameLayout f = true → crcMatches f = true →
    buildFrame (contentsOf f).kind (contentsOf f).tag (contentsOf f).payload = f)

/-- The receiver. Hunting, it takes only the sync byte. Assembling, a length byte below 2 or above 250 discards the frame
with FRAMING; any other byte joins it and restarts the inter-byte timer, and the last byte completes it, as FRAME_RECEIVED
does. A frame whose check fails is discarded with CHECKSUM; a sound one is heard, and awaits execution, or is dropped with
OVERRUN while another awaits it. A damaged character and the inter-byte timeout discard with their flags; under parity NONE
there is no parity error. (FRAME_RECEIVED beside RECEIVED_BYTE: log entry 7; the parity error: log entry 43.) -/
def Obligations.ReceiverAssemblesFrames : Prop :=
  ∀ (s : State) (l : Link), s.working = true → l = s.link →
    (∀ b : Byte, l.assembly = [] → b ≠ 0xA5#8 → ∃ t, exec (.receivedByte b) s = .next t ∧ Reacted s t) ∧
    (l.assembly = [] → ∃ t, exec (.receivedByte 0xA5#8) s = .next t ∧
      Reacted { s with link := { l with assembly := [0xA5#8], interByte := some (s.time.uptime + 20#32) } } t) ∧
    (∀ b : Byte, l.assembly.length = 1 → b.toNat < 2 ∨ 250 < b.toNat → ∃ t, exec (.receivedByte b) s = .next t ∧
      Reacted { s with link := { l with assembly := [], interByte := none, framing := true } } t) ∧
    (∀ b : Byte, (l.assembly.length = 1 ∧ 2 ≤ b.toNat ∧ b.toNat ≤ 250) ∨
        (∃ n : Byte, 2 ≤ l.assembly.length ∧ l.assembly[1]? = some n ∧ l.assembly.length + 1 < n.toNat + 4) →
      ∃ t, exec (.receivedByte b) s = .next t ∧ Reacted { s with link := { l with
        assembly := l.assembly ++ [b], interByte := some (s.time.uptime + 20#32) } } t) ∧
    (∀ b : Byte, 4 ≤ l.assembly.length → frameLayout (l.assembly ++ [b]) = true →
      exec (.receivedByte b) s = exec (.frameReceived (l.assembly ++ [b])) s) ∧
    (∀ f : List Byte, frameLayout f = true → l.assembly <+: f → crcMatches f = false →
      ∃ t, exec (.frameReceived f) s = .next t ∧
        Reacted { s with link := { l with assembly := [], interByte := none, checksum := true } } t) ∧
    (∀ (kind tag : Byte) (payload : List Byte), payload.length ≤ 248 → l.assembly <+: buildFrame kind tag payload →
      ∃ t, exec (.frameReceived (buildFrame kind tag payload)) s = .next t ∧
        Reacted { s with
          link := { l with assembly := [], interByte := none, lastHeard := s.time.uptime
                           awaiting := if l.awaiting = none then some { kind, tag, payload } else l.awaiting
                           overrun := if l.awaiting = none then l.overrun else true }
          power := { s.power with
            silence := some (s.time.uptime + BitVec.ofNat 32 (s.settings.linkIdle * 1000)) } } t) ∧
    (∃ t, exec (.characterError .framing) s = .next t ∧
      Reacted { s with link := { l with assembly := [], interByte := none, framing := true } } t) ∧
    (l.lineParity = .even → ∃ t, exec (.characterError .parity) s = .next t ∧
      Reacted { s with link := { l with assembly := [], interByte := none, parity := true } } t) ∧
    (l.lineParity = .none → ∃ t, exec (.characterError .parity) s = .next t ∧ Reacted s t) ∧
    (due s.time.uptime l.interByte = true → ∃ t, exec .interByteTimeout s = .next t ∧
      Reacted { s with link := { l with assembly := [], interByte := none, framing := true } } t)

/-- EXECUTION_START executes the frame that awaits execution just as the row of its request does: every request's
payload is read back as the operands it was written from. With the link free, the frame then leaves the receive buffer;
while a meter write runs, a frame other than STORE waits in it. A frame of a host kind whose payload's length does not
fit it is answered BAD_LENGTH, and nothing else changes. (The rows of the requests beside EXECUTION_START: log entry 6; a
STORE during a meter write: log entry 61; a SET whose bytes do not divide into entries: log entry 19.) -/
def Obligations.ExecutionStartIsTheRequestsRow : Prop :=
  (∀ (f : HostFrame) (s : State), isHostKind f.kind = true → ¬ LengthFits f → s.link.awaiting = some f →
    linkFree f s = true → ∃ t, exec .executionStart s = .next t ∧
      Reacted (putReply f.tag .badLength [] { s with link := { s.link with awaiting := none } }) t) ∧
  ∀ (i : Instr) (f : HostFrame) (s : State), requestFrame i = some f → i.wf = true → s.link.awaiting = some f →
    exec .executionStart s = exec i s ∧
    (linkFree f s = true → ∃ t, exec .executionStart s = .next t ∧ t.link.awaiting = none) ∧
    (∀ m a r w e, s.working = true → s.nv.activity = .meterWrite m a r w e → f.kind ≠ 0x05#8 →
      ∃ t, exec .executionStart s = .next t ∧ Reacted s t ∧ t.link.awaiting = some f)

/-- The requests that only tell. IDENTIFY: the identity fields. READ: the record as it stands, the flags of LINK being
cleared after it; an object outside the table is BAD_OBJECT. SNAPSHOT: the uptime and the records of R175 in their
order. A kind outside the table: UNKNOWN_KIND, whatever its payload. Every record holds the fields that its chapter
lists, in that order, its settings after them, each as a field entry with its number and length; named values are
numbered in their chapter's order, objects as R172's table has them. (The numbers, widths and absent values of the
fields in the bytes of a READ and of a SNAPSHOT: log entries 15, 16, 44, 45, 63 to 65 and 76.) -/
def Obligations.RequestsThatTell : Prop :=
  NamesNumbered ∧ ObjectsNumbered ∧
  (∀ (s : State) (o : Obj), readFields s o = recordLayout s o ∧ recordBytes s o = entriesLayout (recordLayout s o)) ∧
  ∀ (tag : Byte) (s u : State), u = takeRequest s →
    (mayExecute { kind := 0x01#8, tag, payload := [] } s = true → ∃ t, exec (.identify tag) s = .next t ∧
      Reacted (putReply tag .ok ([0x5A#8, 0x4A#8, 0xE4#8, 0x02#8, Config.siliconRevision] ++
        (List.finRange 6).map Config.factorySerial) u) t) ∧
    (∀ object index : Byte, mayExecute { kind := 0x02#8, tag, payload := [object, index] } s = true →
      (objectOf object.toNat index.toNat = none → ∃ t, exec (.read tag object index) s = .next t ∧
        Reacted (putReply tag .badObject [] u) t) ∧
      (∀ o, objectOf object.toNat index.toNat = some o → o ≠ .link → ∃ t, exec (.read tag object index) s = .next t ∧
        Reacted (putReply tag .ok (entriesFrom 1 (readFields u o)) u) t) ∧
      (objectOf object.toNat index.toNat = some .link → ∃ t, exec (.read tag object index) s = .next t ∧
        Reacted (putReply tag .ok (entriesFrom 1 (readFields u .link)) { u with link := { u.link with
          framing := false, parity := false, checksum := false, overrun := false } }) t)) ∧
    (mayExecute { kind := 0x03#8, tag, payload := [] } s = true → ∃ t body, exec (.snapshot tag) s = .next t ∧
      Reacted (putReply tag .ok (up32 s.time.uptime ++ body) u) t ∧
      body = (([.drive .main, .drive .aux, .governor, .protection, .tank .water, .tank .foamA, .tank .foamB,
          .action .inhibit, .action .rollLimit, .action .idleCap, .quantity 0, .quantity 1, .quantity 2, .quantity 3,
          .quantity 4, .quantity 5] : List Obj).map (fun o => [BitVec.ofNat 8 (objectCode o),
            BitVec.ofNat 8 (objectIndex o)] ++ u16 (recordBytes u o).length ++ recordBytes u o)).flatten) ∧
    (∀ (kind : Byte), isHostKind kind = false → linkFree { kind, tag, payload := [] } s = true →
      s.link.awaiting = none ∨ (∃ p, s.link.awaiting = some { kind, tag, payload := p }) →
      ∃ t, exec (.unknownKind tag kind) s = .next t ∧ Reacted (putReply tag .unknownKind [] u) t)

/-- SET. No entry: BAD_LENGTH; no such object: BAD_OBJECT; a state-locked setting (R174's list) while a drive has left
DISENGAGED: REFUSED_STATE; a field that is no setting of the object, one field twice, a structural value outside what its chapter
admits, or a record whose settings do not go together: BAD_VALUE (twice, and a number the object does not have: log entry
82; a setting by both of its numbers: log entry 18; a length: log entry 19); a restart of WATER during a fill:
REFUSED_STATE; an idle_rpm above the ceiling while a condition is ACTIVE: REFUSED_CONDITION, naming the lowest. Each
changes nothing. Any other SET is taken: each setting written reads as written, or limited to its range, and the
others stay, but for the speed setpoint, X and warn, which keep within idle_rpm and gov_max, L and critical. An accepted
SET puts its settings in force at one event: channels, slots, the port, the protection monitor and the tanks take them as
R13, R19, R25, R33, R35, R43, R117 and R123 state (log entries 34 and 72); the reply lists every field written and every
further field changed, before and after, and is OK_CLAMPED when one came out other than written. The same of idle_rpm and
rise_limit in bytes; the governor's request stands at a change of idle_rpm until a step. (Numbers and layout: log entries
15, 17, 63 to 65; unsigned bytes: 71; a polarity before the first sample: 56; an action named twice: 75; on/off: 76; the
due-again flags at a new bit rate: 84.) -/
def Obligations.SetChecksAndApplies : Prop :=
  ∀ (tag object index : Byte) (es : List FieldEntry) (s u : State), entriesLength es ≤ 246 →
    mayExecute { kind := 0x04#8, tag, payload := object :: index :: entriesBytes es } s = true → u = takeRequest s →
    (es = [] → ∃ t, exec (.set tag object index es) s = .next t ∧ Reacted (putReply tag .badLength [] u) t) ∧
    (es ≠ [] → objectOf object.toNat index.toNat = none → ∃ t, exec (.set tag object index es) s = .next t ∧
      Reacted (putReply tag .badObject [] u) t) ∧
    (∀ o, es ≠ [] → objectOf object.toNat index.toNat = some o →
      (¬ (s.pto.main.state = .disengaged ∧ s.pto.aux.state = .disengaged) →
        (∃ e ∈ es, StateLocked o e.field.toNat) → ∃ t, exec (.set tag object index es) s = .next t ∧
        Reacted (putReply tag .refusedState [] u) t) ∧
      (LockAllows s o es →
        (∃ e ∈ es, settingForm s.settings o e.field.toNat = none) ∨
          (∃ i j : Nat, ∃ e e', i < j ∧ es[i]? = some e ∧ es[j]? = some e' ∧ e.field = e'.field) →
        ∃ t, exec (.set tag object index es) s = .next t ∧ Reacted (putReply tag .badValue [] u) t) ∧
      (LockAllows s o es →
        (¬ EntriesSound s.settings o es → ∃ t, exec (.set tag object index es) s = .next t ∧
          Reacted (putReply tag .badValue [] u) t) ∧
        (EntriesSound s.settings o es → s.gauge.fill.active = false → ¬ SomeActive s → Steady s →
          ∃ t code body, exec (.set tag object index es) s = .next t ∧ Replied tag code body t ∧
            (code = .ok ∨ code = .okClamped) ∧ EntriesTaken s t o es)) ∧
      (∀ new, LockAllows s o es → newSettings o es s.settings = some new →
        (s.gauge.fill.active = true → waterGeometry s.settings ≠ waterGeometry new →
          ∃ t, exec (.set tag object index es) s = .next t ∧ Reacted (putReply tag .refusedState [] u) t) ∧
        (s.gauge.fill.active = false ∨ waterGeometry s.settings = waterGeometry new →
          new.gov.idleRpm ≤ s.settings.gov.idleRpm ∨ new.gov.idleRpm ≤ s.prot.ceiling.value ∨ ¬ SomeActive s →
          Steady s → ∃ t code body further, exec (.set tag object index es) s = .next t ∧ t.settings = new ∧
            SettingsTaken s t ∧ Replied tag code body t ∧ (code = .ok ∨ code = .okClamped) ∧
            (∀ written, written = es.map (fun e => e.field.toNat) →
              body = ((written ++ further).map (changeLine (readFields u o) (readFields t o))).flatten ∧
              (∀ n, n ∈ further ↔ 1 ≤ n ∧ n ≤ (readFields u o).length ∧ n ∉ written ∧
                (readFields u o)[n - 1]? ≠ (readFields t o)[n - 1]?)) ∧
            ((∀ k, o ≠ .condition k) → (code = .okClamped ↔
              ∃ e ∈ es, (readFields t o)[e.field.toNat - 1]? ≠ some e.value))))) ∧
    (s.settings.gov.idleRpm ≤ s.settings.gov.speedSetpoint → s.settings.gov.speedSetpoint ≤ s.settings.gov.govMax →
      s.settings.gauge.gauging ≤ s.settings.gauge.spacing → s.settings.prot.warn ≤ s.settings.prot.critical - 50 →
      object = 6#8 → index = 0#8 →
      (∀ (a b : Byte) (v : Int) (i : Fin 5), es = [{ field := 14#8, value := [a, b] }] →
        v = max 500 (min (min 1000 (s.settings.lock.rollRpmMax - 100)) (a.toNat + 256 * b.toNat)) →
        s.settings.gov.idleRpm < v → s.prot.ceiling.value < v →
        s.settings.prot.enabled[i] = true → (s.prot.conds[i]).state = .active →
        (∀ j : Fin 5, j < i → ¬ (s.settings.prot.enabled[j] = true ∧ (s.prot.conds[j]).state = .active)) →
        ∃ t, exec (.set tag object index es) s = .next t ∧
          Reacted (putReply tag .refusedCondition [BitVec.ofNat 8 i.val] u) t) ∧
      (∀ (a b : Byte) (v : Int), es = [{ field := 14#8, value := [a, b] }] →
        v = max 500 (min (min 1000 (s.settings.lock.rollRpmMax - 100)) (a.toNat + 256 * b.toNat)) →
        v ≤ s.prot.ceiling.value → Steady s →
        ∃ t, exec (.set tag object index es) s = .next t ∧ t.settings.gov.idleRpm = v ∧
          t.settings.gov.speedSetpoint = max v s.settings.gov.speedSetpoint ∧
          t.gov = s.gov) ∧
      (∀ (b : Byte) (r : Nat), es = [{ field := 19#8, value := [b] }] → r = max 5 (min 200 b.toNat) → Steady s →
        ∃ t, exec (.set tag object index es) s = .next t ∧
          Replied tag (if r = b.toNat then .ok else .okClamped)
            [19#8, 1#8, BitVec.ofNat 8 s.settings.gov.riseLimit.toNat, 1#8, BitVec.ofNat 8 r] t ∧
          t.settings = { s.settings with gov := { s.settings.gov with riseLimit := r } } ∧ t.gov = s.gov ∧
          t.store = s.store ∧ t.nv.stored = s.nv.stored ∧ t.time.uptime = s.time.uptime))

/-- STORE takes the memory for the working settings, the stored copy reading WRITING and being invalid until the write
completes, or waits for the meter write in progress, which it follows; its reply OK comes at STORE_COMPLETE, with the
copy VALID and one store more. RECALL is refused while a drive has left DISENGAGED, without a valid copy, and for an
idle_rpm above the ceiling while a condition is ACTIVE; else the working settings are the stored ones, taken by the
channels, the slots, the port, the protection monitor and the tanks as those of a SET (log entries 34, 56, 72 and 84), the
conditions that it disables before a raised gov_max (log entry 69); a restart of WATER first ends a fill with STOPPED.
(A STORE during a meter write: log entry 61; STOPPED before another end of the fill that the RECALL meets: log entry
74.) -/
def Obligations.StoreAndRecallMoveTheSettings : Prop :=
  (∀ (tag : Byte) (s u : State), mayExecute { kind := 0x05#8, tag, payload := [] } s = true → u = takeRequest s →
    (s.nv.activity = .idle → ∃ t, exec (.store tag) s = .next t ∧ Reacted { u with
        link := { u.link with executing := some (.store tag false) }
        nv := { u.nv with activity := .store, stored := u.settings, storedIntact := false, storeWaiting := false }
        store := { u.store with copy := .writing } } t) ∧
    (s.nv.activity ≠ .idle → ∃ t, exec (.store tag) s = .next t ∧ Reacted { u with
        link := { u.link with executing := some (.store tag false) }, nv := { u.nv with storeWaiting := true } } t)) ∧
  (∀ (s : State) (m a r : Nat), s.powered = true → s.nv.activity = .meterWrite m a r false false →
    s.nv.storeWaiting = true → ∃ t, exec .meterWriteComplete s = .next t ∧ t.nv.activity = .store ∧
      t.nv.stored = s.settings ∧ t.nv.storedIntact = false ∧ t.nv.storeWaiting = false ∧ t.nv.meterMain = m ∧
      t.nv.metersIntact = true ∧ t.store.copy = .writing ∧ t.settings = s.settings) ∧
  (∀ (s : State) (tag : Byte) (discarded : Bool), s.powered = true → s.nv.activity = .store →
    s.link.executing = some (.store tag discarded) → ∃ t v, exec .storeComplete s = .next t ∧
      v = { s with nv := { s.nv with activity := .idle, storedIntact := true }
                   store := { s.store with copy := .valid, stores := min 65535 (s.store.stores + 1) }
                   link := { s.link with executing := none } } ∧
      (discarded = false → Reacted (putReply tag .ok [] v) t) ∧ (discarded = true → Reacted v t)) ∧
  (∀ (tag : Byte) (s u : State), mayExecute { kind := 0x06#8, tag, payload := [] } s = true → u = takeRequest s →
    (¬ (s.pto.main.state = .disengaged ∧ s.pto.aux.state = .disengaged) ∨ s.store.copy ≠ .valid →
      ∃ t, exec (.recall tag) s = .next t ∧ Reacted (putReply tag .refusedState [] u) t) ∧
    (s.pto.main.state = .disengaged → s.pto.aux.state = .disengaged → s.store.copy = .valid →
      (∀ i : Fin 5, s.settings.gov.idleRpm < s.nv.stored.gov.idleRpm → s.prot.ceiling.value < s.nv.stored.gov.idleRpm →
        s.settings.prot.enabled[i] = true → (s.prot.conds[i]).state = .active →
        (∀ j : Fin 5, j < i → ¬ (s.settings.prot.enabled[j] = true ∧ (s.prot.conds[j]).state = .active)) →
        ∃ t, exec (.recall tag) s = .next t ∧
          Reacted (putReply tag .refusedCondition [BitVec.ofNat 8 i.val] u) t) ∧
      (s.nv.stored.gov.idleRpm ≤ s.settings.gov.idleRpm ∨ s.nv.stored.gov.idleRpm ≤ s.prot.ceiling.value ∨
          ¬ SomeActive s →
        ∃ t, exec (.recall tag) s = .next t ∧ Replied tag .ok [] t ∧ t.settings = s.nv.stored ∧ t.store = s.store ∧
          t.nv.stored = s.nv.stored ∧ t.time.uptime = s.time.uptime ∧ t.lock.forced = s.lock.forced ∧
          SettingsTaken s t ∧
          (s.gauge.fill.active = true →
            (s.settings.gauge.water.strap, s.settings.gauge.spacing, s.settings.gauge.gauging, s.settings.gauge.floor) ≠
              (s.nv.stored.gauge.water.strap, s.nv.stored.gauge.spacing, s.nv.stored.gauge.gauging,
                s.nv.stored.gauge.floor) →
            t.gauge.fill = { s.gauge.fill with active := false, target := none, timer := none,
                                               endReason := some .stopped,
                                               finalVolume := s.gauge.water.reported }))))

/-- The monitor list. ADD of a new reference appends it, with a report ready at once, to a list of at most 4 (else
BUSY); of one in the list, or REMOVE, is answered OK with the list's length; IDENTITY and objects outside the table
are BAD_OBJECT. SPACING_EXPIRY makes a report ready if a change is pending. A change of a monitored record makes its
report ready, or while its spacing timer runs its change pending; the running down of the ceiling's resume timer is
none. A record that does not change makes no report ready and its item stays: CHANNEL, RXSLOT, QUANTITY and STRAP at
every command, PROTECTION at a protection step at which the resume timer alone runs down. REPORT_RATE limits a period
other than 0 to 100 to 5000 ms and answers with the period applied; a changed period starts its timer afresh, and 0
stops it and withdraws a due STATUS. At the end of a period STATUS falls due. -/
def Obligations.ReportsAreOrderedAndTimed : Prop :=
  (∀ (tag object index : Byte) (s u : State), u = takeRequest s →
    (objectOf object.toNat index.toNat = none ∨ objectOf object.toNat index.toNat = some .identity →
      (mayExecute { kind := 0x11#8, tag, payload := [0#8, object, index] } s = true →
        ∃ t, exec (.monitorAdd tag object index) s = .next t ∧ Reacted (putReply tag .badObject [] u) t) ∧
      (mayExecute { kind := 0x11#8, tag, payload := [1#8, object, index] } s = true →
        ∃ t, exec (.monitorRemove tag object index) s = .next t ∧ Reacted (putReply tag .badObject [] u) t)) ∧
    (∀ o, objectOf object.toNat index.toNat = some o → o ≠ .identity →
      (mayExecute { kind := 0x11#8, tag, payload := [0#8, object, index] } s = true →
        (o ∈ s.link.monitors.map (·.ref) → ∃ t, exec (.monitorAdd tag object index) s = .next t ∧
          Reacted (putReply tag .ok [BitVec.ofNat 8 s.link.monitors.length] u) t) ∧
        (o ∉ s.link.monitors.map (·.ref) → 4 ≤ s.link.monitors.length →
          ∃ t, exec (.monitorAdd tag object index) s = .next t ∧ Reacted (putReply tag .busy [] u) t) ∧
        (o ∉ s.link.monitors.map (·.ref) → s.link.monitors.length < 4 →
          ∃ t, exec (.monitorAdd tag object index) s = .next t ∧ o ∈ t.link.ready ∧
            Reacted (putReply tag .ok [BitVec.ofNat 8 (s.link.monitors.length + 1)] { u with link := { u.link with
              monitors := u.link.monitors ++ [{ ref := o, spacing := none, changePending := false }] } }) t)) ∧
      (mayExecute { kind := 0x11#8, tag, payload := [1#8, object, index] } s = true →
        ∃ t, exec (.monitorRemove tag object index) s = .next t ∧ o ∉ t.link.monitors.map (·.ref) ∧
          Reacted (putReply tag .ok [BitVec.ofNat 8 (s.link.monitors.filter (fun m => m.ref ≠ o)).length]
            { u with link := { u.link with monitors := u.link.monitors.filter (fun m => m.ref ≠ o)
                                           ready := u.link.ready.erase o } }) t))) ∧
  (∀ (i : Fin 4) (m : MonItem) (s : State), s.working = true → s.link.monitors[i.val]? = some m →
    due s.time.uptime m.spacing = true → ∃ t, exec (.spacingExpiry i) s = .next t ∧
      (m.changePending = true → m.ref ∈ t.link.ready) ∧
      Reacted { s with link := { s.link with
        monitors := s.link.monitors.set i.val { m with spacing := none, changePending := false } } } t) ∧
  (∀ (tag : Byte) (v : BitVec 16) (s u : State) (r : Nat),
    mayExecute { kind := 0x12#8, tag, payload := bytes16 v } s = true → u = takeRequest s →
    r = (if v.toNat = 0 then 0 else max 100 (min 5000 v.toNat)) →
    ∃ t, exec (.reportRate tag v) s = .next t ∧
      Reacted (putReply tag (if r = v.toNat then .ok else .okClamped) (u16 r) { u with
        settings := { u.settings with link := { u.settings.link with reportPeriod := r } }
        link := if r = s.settings.link.reportPeriod then u.link else { u.link with
          statusTimer := if r = 0 then none else some (s.time.uptime + BitVec.ofNat 32 r)
          statusDue := u.link.statusDue && decide (r ≠ 0) } }) t) ∧
  (∀ s : State, s.working = true → due s.time.uptime s.link.statusTimer = true →
    ∃ t, exec .statusPeriod s = .next t ∧ Reacted { s with link := { s.link with
      statusDue := true
      statusTimer := s.link.statusTimer.map (· + BitVec.ofNat 32 s.settings.link.reportPeriod) } } t) ∧
  (∀ (c : Instr) (s t : State) (m : MonItem), Continues c s t → c ≠ .txFrameStart → c ≠ .lineBreak →
    c ≠ .executionStart → (∀ i, c ≠ .spacingExpiry i) → (∀ tag o i, c ≠ .monitorRemove tag o i) →
    m ∈ s.link.monitors → (s.link.monitors.map (·.ref)).Nodup → readFields s m.ref ≠ readFields t m.ref →
    (m.ref = .protection → s.prot.ceiling.steps = none ∨ t.prot.ceiling.steps = none ∨
      s.prot.ceiling.steps = t.prot.ceiling.steps) →
    (m.ref ∈ s.link.ready ∨ m.spacing = none → m.ref ∈ t.link.ready) ∧
    (m.ref ∉ s.link.ready → m.spacing ≠ none →
      ∃ m' ∈ t.link.monitors, m'.ref = m.ref ∧ m'.spacing = m.spacing ∧ m'.changePending = true)) ∧
  (∀ (c : Instr) (s t : State) (m : MonItem), Continues c s t → c ≠ .txFrameStart → c ≠ .lineBreak →
    c ≠ .executionStart → (∀ i, c ≠ .spacingExpiry i) → (∀ tag o i, c ≠ .monitorRemove tag o i) →
    m ∈ s.link.monitors → (s.link.monitors.map (·.ref)).Nodup → m.ref ∉ s.link.ready →
    (∃ i, m.ref = .channel i) ∨ (∃ i, m.ref = .rxSlot i) ∨ (∃ i, m.ref = .quantity i) ∨ (∃ k, m.ref = .strap k) →
    readFields s m.ref = readFields t m.ref → m.ref ∉ t.link.ready ∧ m ∈ t.link.monitors) ∧
  (∀ (s t : State) (m : MonItem), s.working = true → exec .protectionStep s = .next t → m ∈ s.link.monitors →
    (s.link.monitors.map (·.ref)).Nodup → m.ref = .protection → m.ref ∉ s.link.ready →
    s.prot.ceiling.steps ≠ none → t.prot.ceiling.steps ≠ none →
    readFields s .protection = readFields { t with prot := { t.prot with ceiling := { t.prot.ceiling with
      steps := s.prot.ceiling.steps } } } .protection →
    m.ref ∉ t.link.ready ∧ m ∈ t.link.monitors)

/-- The transmit arbiter, with the line free: a reply or its next part first, then the oldest ALARM, then the rest of
a CHANGE report that has begun or the oldest ready one (of two ready at one event: log entry 80), then the oldest
other notice, then a due STATUS, which clears the notices-lost flag; with nothing waiting, or a frame on the line,
nothing begins. An unsolicited frame carries the sequence number, which goes up by 1; a notice begun is marked
sending. At the end of a frame a notice sent leaves the queue, and the reply slot is empty after the last part, new
line settings then coming into force, which discard a frame in assembly with FRAMING. Where the records already follow
one another the notices are those shown and no others. A notice carries its kind, class, subject, timestamp, repeat
count and detail, STATUS its fields in R177's order, and a CHANGE the record as READ gives it. (The layout of STATUS,
the parts of a reply, and the rest of a CHANGE report: log entries 21, 22, 23 and 76.) -/
def Obligations.TransmitterSendsInOrder : Prop :=
  (∀ s : State, StatusCarries s (statusPayload s)) ∧ (∀ e : Entry, noticePayload e = noticeLayout e) ∧
  (∀ (s : State) (l : Link) (q : List Entry), s.working = true → l = s.link → l.tx = none → q = s.notices.entries →
    (∀ r, l.reply = some r → r.begun < partCount r.body → ∃ t, exec .txFrameStart s = .next t ∧
      ReactedQuietly s { s with link := { l with tx := some { kind := .reply, bytes := replyFrame r r.begun }
                                                 reply := some { r with begun := r.begun + 1 } } } t) ∧
    (l.reply = none →
      (∀ (a b : List Entry) (e : Entry), q = a ++ e :: b → (∀ x ∈ a, x.sending = true ∨ x.cls ≠ .alarm) →
        e.sending = false →
        e.cls = .alarm ∨ ((∀ x ∈ q, x.sending = true ∨ x.cls ≠ .alarm) ∧ (∀ x ∈ a, x.sending = true) ∧
          l.ready = [] ∧ l.changeTail = []) →
        ∃ t, exec .txFrameStart s = .next t ∧
          ReactedQuietly s { s with
            notices := { s.notices with entries := a ++ { e with sending := true } :: b }
            link := { l with tx := some { kind := .notice, bytes := buildFrame 0x82#8 l.seq (noticePayload e) }
                             seq := l.seq + 1#8 } } t) ∧
      ((∀ x ∈ q, x.sending = true ∨ x.cls ≠ .alarm) → ∀ part rest, l.changeTail = part :: rest →
        ∃ t, exec .txFrameStart s = .next t ∧
          ReactedQuietly s { s with link := { l with tx := some { kind := .change, bytes := buildFrame 0x84#8 l.seq part }
                                                     seq := l.seq + 1#8, changeTail := rest } } t) ∧
      ((∀ x ∈ q, x.sending = true ∨ x.cls ≠ .alarm) → l.changeTail = [] → ∀ o rest, l.ready = o :: rest →
        (recordBytes s o).length ≤ 246 → ∀ payload,
        payload = [BitVec.ofNat 8 (objectCode o), BitVec.ofNat 8 (objectIndex o)] ++ recordBytes s o →
        ∃ t, exec .txFrameStart s = .next t ∧
          ReactedQuietly s { s with link := { l with
            tx := some { kind := .change, bytes := buildFrame 0x84#8 l.seq payload }
            seq := l.seq + 1#8, ready := rest
            monitors := l.monitors.map (fun m => if m.ref = o then
              { m with spacing := some (s.time.uptime + 100#32) } else m) } } t) ∧
      ((∀ x ∈ q, x.sending = true) → l.ready = [] → l.changeTail = [] →
        (l.statusDue = true → ∃ t, exec .txFrameStart s = .next t ∧
          ReactedQuietly s { s with
            notices := { s.notices with lost := false }
            link := { l with tx := some { kind := .status, bytes := buildFrame 0x83#8 l.seq (statusPayload s) }
                             seq := l.seq + 1#8, statusDue := false } } t) ∧
        (l.statusDue = false → ∃ t, exec .txFrameStart s = .next t ∧ ReactedQuietly s s t)))) ∧
  (∀ s : State, s.working = true → s.link.tx ≠ none → ∃ t, exec .txFrameStart s = .next t ∧ ReactedQuietly s s t) ∧
  (∀ s : State, s.powered = true → s.link.tx = none → ∃ t, exec .txFrameEnd s = .next t ∧ ReactedQuietly s s t) ∧
  (∀ (s : State) (l : Link) (f : TxFrame), s.powered = true → l = s.link → l.tx = some f →
    (f.kind = .notice → ∃ t, exec .txFrameEnd s = .next t ∧ ReactedQuietly s { s with
      link := { l with tx := none }
      notices := { s.notices with entries := s.notices.entries.filter (fun e => !e.sending) } } t) ∧
    (f.kind = .change ∨ f.kind = .status → ∃ t, exec .txFrameEnd s = .next t ∧
      ReactedQuietly s { s with link := { l with tx := none } } t) ∧
    (f.kind = .reply → ∀ r, l.reply = some r →
      (r.begun < partCount r.body → ∃ t, exec .txFrameEnd s = .next t ∧
        ReactedQuietly s { s with link := { l with tx := none } } t) ∧
      (partCount r.body ≤ r.begun → l.linePending = false → ∃ t, exec .txFrameEnd s = .next t ∧
        ReactedQuietly s { s with link := { l with tx := none, reply := none } } t) ∧
      (partCount r.body ≤ r.begun → l.linePending = true → l.assembly = [] → ∃ t, exec .txFrameEnd s = .next t ∧
        ReactedQuietly s { s with link := { l with tx := none, reply := none, linePending := false
                                                   lineBitRate := s.settings.link.bitRate
                                                   lineParity := s.settings.link.parity } } t) ∧
      (partCount r.body ≤ r.begun → l.linePending = true → l.assembly ≠ [] → ∃ t, exec .txFrameEnd s = .next t ∧
        ReactedQuietly s { s with link := { l with tx := none, reply := none, linePending := false
                                                   lineBitRate := s.settings.link.bitRate
                                                   lineParity := s.settings.link.parity
                                                   assembly := [], interByte := none, framing := true } } t)))

/-! ### Restart and power states -/

/-- RESTART is taken with both drives DISENGAGED and no fill active, answered OK; once its reply has gone,
RESTART_PROCEED makes its meter write due, in every power state (log entry 38). BREAK in AWAKE and RUNDOWN is a link
restart, which puts new line settings in force where it discards the reply that would carry them, in WATCH a wake, in
WAKING nothing. D8 accepted at 1 in WATCH wakes the part too. A RESTART whose meter write has completed in WAKING
restarts the part at SETTLING_END (log entries 9, 27, 28, 38, 50 and 81, as for the completion of its meter write). -/
def Obligations.RestartAndBreak : Prop :=
  (∀ (tag : Byte) (s u : State), mayExecute { kind := 0x13#8, tag, payload := [] } s = true → u = takeRequest s →
    (s.pto.main.state = .disengaged ∧ s.pto.aux.state = .disengaged ∧ s.gauge.fill.active = false →
      ∃ t, exec (.restart tag) s = .next t ∧ Reacted (putReply tag .ok []
        { u with link := { u.link with executing := some (.restart false) } }) t) ∧
    (¬ (s.pto.main.state = .disengaged ∧ s.pto.aux.state = .disengaged ∧ s.gauge.fill.active = false) →
      ∃ t, exec (.restart tag) s = .next t ∧ Reacted (putReply tag .refusedState [] u) t)) ∧
  (∀ s : State, s.powered = true → s.link.executing = some (.restart false) → s.link.reply = none →
    ∃ t, exec .restartProceed s = .next t ∧ Reacted { s with
      link := { s.link with executing := some (.restart true) }, time := { s.time with writeDue := true } } t) ∧
  (∀ s : State, s.working = true →
    ∀ reply executing, reply = (match s.link.reply with | some r => if r.begun = 0 then none else some r | none => none) →
    ∀ change : Bool, (change = true ↔ s.link.linePending = true ∧ s.link.reply ≠ none ∧ reply = none) →
    executing = (match s.link.executing with | some (.store tag _) => some (.store tag true) | e => e) →
    ∃ t, exec .lineBreak s = .next t ∧ Reacted (({ s with
      link := { s.link with
        assembly := [], interByte := none, awaiting := none, reply := reply, executing := executing
        framing := false, parity := false, checksum := false, overrun := false, monitors := [], ready := []
        changeTail := [], seq := 0, lastHeard := s.time.uptime
        lineBitRate := if change then s.settings.link.bitRate else s.link.lineBitRate
        lineParity := if change then s.settings.link.parity else s.link.lineParity
        linePending := s.link.linePending && !change }
      power := { s.power with silence := some (s.time.uptime + BitVec.ofNat 32 (s.settings.linkIdle * 1000)) } }
      : State).post [noticeLinkReady .brk]) t) ∧
  (∀ s : State, s.powered = true →
    (s.power.state = .watch → ∃ t, exec .lineBreak s = .next t ∧ t.power = { s.power with
        state := .waking, entered := s.time.uptime, lastWake := .brk, settling := some (s.time.uptime + 20#32) } ∧
      Reacted ({ s with power := t.power }.post [noticePowerState .waking .brk]) t) ∧
    (s.power.state = .waking → ∃ t, exec .lineBreak s = .next t ∧ t.power = s.power ∧ Reacted s t) ∧
    (∀ d, d = s.inputs.discrete[(8 : Fin 10)] → s.power.state = .watch → s.settings.polarity[(8 : Fin 10)] = .activeHigh →
      sampleDue s.time.uptime d.next = true → d.awaitFirst = false → d.level = false → d.count = 3 →
      ∃ t, exec (.discreteSample 8 true) s = .next t ∧ t.level 8 = true ∧ t.power = { s.power with
        state := .waking, entered := s.time.uptime, lastWake := .ignition
        settling := some (s.time.uptime + 20#32) })) ∧
  (∀ s : State, s.powered = true → s.power.state = .waking → due s.time.uptime s.power.settling = true →
    s.link.executing = some .restarting →
    ∃ t, exec .settlingEnd s = .next t ∧ Restarted s t ∧ t.time = s.time ∧ t.nv = s.nv)

/-- The ways of the power states. SILENCE_EXPIRY makes the link silent, and with D8 at 0, both drives released and no
fill an AWAKE part proceeds toward WATCH: watch pending and a meter write due. D8 at 0, accepted or found by its first sample, with
a drive not released leads to RUNDOWN, which withdraws the permit, ends a fill and releases both drives, each by its state
and MAIN before AUX (R70, R58); with nothing to release it proceeds toward WATCH at once. Whatever the command, a part in
RUNDOWN proceeds toward WATCH at the event that leaves both drives released, cause DRIVES_RELEASED, and waits as it is while
one is not; the last drive's feedback going off is such an event. An ENGAGE with D8 at 0 leads there too, the drive
returning to DISENGAGED at that event, at which C0 or C1 has changed and T1 falls due (log entry 14; C0 before the
first evaluation too: log entry 51); D8 accepted at 1 leads back to AWAKE; RUNDOWN_TIMEOUT proceeds toward WATCH
whatever the drives do. POWER_STATE tells of each change of the power state, with its cause. SETTLING_END takes a
WAKING part to AWAKE, every block in its wake state: the channels, the port, the drives, the governor and the
protection monitor as at a starting point (its ceiling: log entry 9); the tanks UNKNOWN without window or volume; C10
alone of the conditions kept; a LATCHED action LATCHED, INHIBIT else ASSERTED, the others RELEASED; the link afresh,
but for the frame on the line (log entry 50) and a STORE or RESTART being executed (log entries 38, 39); what the
starting contents hold where no rule gives a value is log entry 28's; POWER_STATE and LINK_READY posted. -/
def Obligations.PowerStatesFollowTheIgnition : Prop :=
  (∀ s : State, s.working = true → due s.time.uptime s.power.silence = true →
    (s.power.state = .awake → s.level 8 = true → ∃ t, exec .silenceExpiry s = .next t ∧
      t.power = { s.power with silence := none } ∧ Reacted { s with power := t.power } t) ∧
    (s.power.state = .awake → s.level 8 = false → (s.inputs.discrete[(8 : Fin 10)]).awaitFirst = false →
      DrivesReleased s →
      s.gauge.fill.active = false → s.power.watchPending = false → ∃ t, exec .silenceExpiry s = .next t ∧
      t.power.state = .awake ∧ t.power.watchPending = true ∧ t.power.watchCause = .linkSilent ∧
      t.power.silence = none ∧ t.time.writeDue = true ∧ t.settings = s.settings)) ∧
  (∀ (s : State) (d : DiscreteChan) (level electrical : Bool), s.powered = true → d = s.inputs.discrete[(8 : Fin 10)] →
    electrical = (if s.settings.polarity[(8 : Fin 10)] = .activeHigh then level else !level) →
    sampleDue s.time.uptime d.next = true → d.awaitFirst = true ∨ (d.level = (!level) ∧ d.count = 3) →
    (s.power.state = .awake → level = false → ¬ DrivesReleased s →
      ∃ t, exec (.discreteSample 8 electrical) s = .next t ∧ t.level 8 = false ∧ t.power.state = .rundown ∧
      t.power.entered = s.time.uptime ∧ (∀ d : DriveId, RundownTaken s t d) ∧ t.outputs.o2 = false ∧
      t.gauge.fill.active = false ∧ (DrivesReleased t → TowardWatch .drivesReleased t) ∧
      (¬ DrivesReleased t → t.power.rundown = some (s.time.uptime + 30000#32) ∧ t.power.watchPending = false) ∧
      (RoomLeft s.notices → NoticeWaits .powerState 0
        [BitVec.ofNat 8 (powerStateCode .rundown), BitVec.ofNat 8 (powerCauseCode .ignitionOff)] t.notices)) ∧
    (s.power.state = .rundown → level = true → ∃ t, exec (.discreteSample 8 electrical) s = .next t ∧
      t.power.state = .awake ∧ t.power.entered = s.time.uptime ∧ t.power.rundown = none ∧
      t.power.watchPending = false ∧ (RoomLeft s.notices → NoticeWaits .powerState 0
        [BitVec.ofNat 8 (powerStateCode .awake), BitVec.ofNat 8 (powerCauseCode .ignitionOn)] t.notices))) ∧
  (∀ (c : Instr) (s t : State), Continues c s t → c ≠ .rundownTimeout → s.power.state = .rundown →
    s.power.watchPending = false → (s.inputs.discrete[(8 : Fin 10)]).awaitFirst = false → t.level 8 = false →
    t.power.state = .rundown ∧ t.power.entered = s.power.entered ∧ (DrivesReleased t → TowardWatch .drivesReleased t) ∧
    (¬ DrivesReleased t → t.power.watchPending = false ∧ t.power.rundown = s.power.rundown)) ∧
  (∀ (s : State) (d : DriveId) (ch : Fin 10) (x : Drive) (k : DiscreteChan), InRundown s →
    (s.inputs.discrete[(8 : Fin 10)]).awaitFirst = false → s.power.watchPending = false → ch.val = driveIndex d + 1 →
    x = s.pto.drive d → x.state = .releasing ∨ x.state = .fault →
    (s.pto.drive (otherDrive d)).state = .disengaged ∨
      ((s.pto.drive (otherDrive d)).state = .fault ∧ s.feedback (otherDrive d) = false) →
    k = s.inputs.discrete[ch] → sampleDue s.time.uptime k.next = true → k.awaitFirst = false → k.level = true →
    k.count = 3 →
    ∃ t, exec (.discreteSample ch (decide (s.settings.polarity[ch] = .activeLow))) s = .next t ∧
      t.power.state = .rundown ∧ TowardWatch .drivesReleased t ∧ solenoid t d = false ∧
      (x.state = .releasing → (t.pto.drive d).state = .disengaged ∧
        (RoomLeft s.notices → NoticeWaits .ptoDisengaged (driveIndex d) [] t.notices))) ∧
  (∀ (tag byte : Byte) (s : State) (d : DriveId) (i : Fin 11), mayExecute { kind := 0x07#8, tag, payload := [byte, 0#8] } s = true →
    s.power.state = .awake → s.level 8 = false → (s.inputs.discrete[(8 : Fin 10)]).awaitFirst = false →
    byte.toNat = driveIndex d → (s.pto.drive d).state = .disengaged → (s.pto.drive (otherDrive d)).state = .disengaged →
    i.val = driveIndex d → (d = .main ∨ s.lock.evaluated = true) →
    ∃ t, exec (.ptoEngage tag byte) s = .next t ∧ Replied tag .accepted [] t ∧ t.power.state = .rundown ∧
      t.power.watchPending = true ∧ t.power.watchCause = .drivesReleased ∧
      (t.pto.drive d).state = .disengaged ∧ (t.lock.conds[i]).changed = s.time.uptime ∧ solenoid t d = false ∧
      ((s.settings.tx[(1 : Fin 4)]).enabled = true → s.chassis.port = .errorActive ∨ s.chassis.port = .errorPassive →
        FallenDue (t.chassis.tx[(1 : Fin 4)])) ∧
      (RoomLeft s.notices →
        WarningWaits .ptoRefused (driveIndex d) [BitVec.ofNat 8 (reasonCode .powerState)] t.notices ∧
        NoticeWaits .powerState 0
          [BitVec.ofNat 8 (powerStateCode .rundown), BitVec.ofNat 8 (powerCauseCode .ignitionOff)] t.notices)) ∧
  (∀ s : State, s.working = true → s.power.state = .rundown → due s.time.uptime s.power.rundown = true →
    s.level 8 = false → ∃ t, exec .rundownTimeout s = .next t ∧ t.power = { s.power with
      watchPending := true, watchCause := .rundownTimeout, rundown := none } ∧ t.time.writeDue = true ∧
      Reacted { s with power := t.power, time := { s.time with writeDue := true } } t) ∧
  (∀ s : State, s.powered = true → s.power.state = .waking → due s.time.uptime s.power.settling = true →
    s.link.executing ≠ some .restarting →
    ∃ t, exec .settlingEnd s = .next t ∧ t.pending = s.pending ∧ t.settings = s.settings ∧ t.time = s.time ∧
      t.nv = s.nv ∧ t.store = s.store ∧ t.power.state = .awake ∧ t.power.entered = s.time.uptime ∧
      t.power.watchPending = false ∧ t.power.lastWake = s.power.lastWake ∧ t.power.rundown = none ∧
      t.power.silence = some (s.time.uptime + BitVec.ofNat 32 (s.settings.linkIdle * 1000)) ∧
      t.inputs = inputsStart s.settings ∧ t.chassis = chassisStart s.settings ∧
      t.pto = { main := driveStart s.time.uptime, aux := driveStart s.time.uptime } ∧
      t.gov = governorStart s.time.uptime s.settings.gov ∧ t.prot = protectionStart s.time.uptime s.settings.gov ∧
      t.gauge.foam = s.gauge.foam ∧ t.gauge.fill = { s.gauge.fill with active := false } ∧
      t.gauge.tilt = s.gauge.tilt ∧
      (∀ k : TankId, t.gauge.tank k = if (s.gauge.tank k).state = .absent then s.gauge.tank k
        else { s.gauge.tank k with state := .unknown, window := [], centre := none, reported := none,
                                   remaining := none, partialFlag := false }) ∧
      (s.gauge.leak.burst ≠ none → t.gauge.leak.result = .noReading ∧
        t.gauge.leak.bursts = min 65535 (s.gauge.leak.bursts + 1)) ∧ t.gauge.leak.armed = false ∧
      t.gauge.leak.leak = s.gauge.leak.leak ∧ t.gauge.leak.reference = s.gauge.leak.reference ∧
      t.lock.forced = s.lock.forced ∧ t.lock.conds[(10 : Fin 11)] = s.lock.conds[(10 : Fin 11)] ∧
      (s.lock.inhibit.state = .latched → t.lock.inhibit.state = .latched) ∧
      (s.lock.inhibit.state ≠ .latched → t.lock.inhibit.state = .asserted) ∧
      (∀ a : ActionId, (t.lock.action a).contributors = [] ∧ (t.lock.action a).holdOff = none ∧
        (a ≠ .inhibit → (t.lock.action a).state = if (s.lock.action a).state = .latched then .latched else .released)) ∧
      (∀ i : Fin 11, i ≠ 10 → (t.lock.conds[i]).active = false) ∧ t.lock.driving = none ∧ t.lock.overspeed = .off ∧
      t.lock.overspeedTimer = none ∧
      (∀ executing, executing = (match s.link.executing with | some (.store tag _) => some (.store tag true) | e => e) →
        t.link = { linkStart s.time.uptime s.settings.link with tx := s.link.tx, executing := executing }) ∧
      (RoomLeft s.notices →
        NoticeWaits .powerState 0 [BitVec.ofNat 8 (powerStateCode .awake), BitVec.ofNat 8 (powerCauseCode .settled)]
          t.notices ∧
        NoticeWaits .linkReady 0 [BitVec.ofNat 8 (readyCauseCode .wake)] t.notices) ∧
      t.outputs.o2 = false ∧ t.outputs.o7 = false)

/-! ### Notice queue -/

/-- How the queue takes a notice. The first unsent entry of its kind and subject takes it in: the new detail, the
uptime, one repeat more up to 255, the higher class, the place kept. Without one, it is appended while fewer than 32
entries are held; in a full queue an ALARM takes the place of the oldest unsent entry of another class, the flag of lost
notices being set, and any other notice, or an ALARM that finds no such entry, is dropped with the flag set. The flag
stays set until a STATUS begins, through link restarts, the entry to WATCH and the wake, but for power-on and a restart
of the part. -/
def Obligations.NoticesAreCoalescedOrAppended : Prop :=
  (∀ (c : Instr) (s t : State), exec c s = .next t → s.notices.lost = true → c ≠ .powerOn → ¬ Restarts c s →
    (c = .txFrameStart → s.link.tx = none → ∀ f, t.link.tx = some f → f.kind ≠ .status) → t.notices.lost = true) ∧
  ∀ (now : Uptime) (q : NoticeQueue) (n : Notice) (new : Entry),
    new = { kind := n.kind, cls := n.cls, subject := n.subject, stamp := now, repeats := 1, detail := n.detail,
            sending := false } →
    (∀ (a b : List Entry) (e : Entry), q.entries = a ++ e :: b →
      (∀ x ∈ a, ¬ (x.sending = false ∧ x.kind = n.kind ∧ x.subject = n.subject)) → e.sending = false → e.kind = n.kind →
      e.subject = n.subject → ∃ cls, (cls = e.cls ∨ cls = n.cls) ∧ classRank e.cls ≤ classRank cls ∧
        classRank n.cls ≤ classRank cls ∧ postNotice now q n =
          { q with entries := a ++ { e with detail := n.detail, stamp := now, repeats := min 255 (e.repeats + 1),
                                            cls := cls } :: b }) ∧
    ((∀ x ∈ q.entries, ¬ (x.sending = false ∧ x.kind = n.kind ∧ x.subject = n.subject)) →
      (q.entries.length < 32 → postNotice now q n = { q with entries := q.entries ++ [new] }) ∧
      (32 ≤ q.entries.length → n.cls ≠ .alarm → postNotice now q n = { q with lost := true }) ∧
      (32 ≤ q.entries.length → n.cls = .alarm →
        (∀ (a b : List Entry) (e : Entry), q.entries = a ++ e :: b → (∀ x ∈ a, x.sending = true ∨ x.cls = .alarm) →
          e.sending = false → e.cls ≠ .alarm →
          postNotice now q n = { entries := a ++ b ++ [new], lost := true }) ∧
        ((∀ x ∈ q.entries, x.sending = true ∨ x.cls = .alarm) → postNotice now q n = { q with lost := true })))
end

