-- ==== Sys2Proof/Laws/State.lean ====
section
/-! SUPPORT. The fields of a state after each shared update: one lemma for each field and update, so that no later proof
unfolds an update. -/

namespace Sys2Proof.Machine

/-! Posting notices changes the notice queue alone (R181). -/

@[simp] theorem State.post_pending (s : State) (ns : List Notice) : (s.post ns).pending = s.pending := rfl
@[simp] theorem State.post_powered (s : State) (ns : List Notice) : (s.post ns).powered = s.powered := rfl
@[simp] theorem State.post_time (s : State) (ns : List Notice) : (s.post ns).time = s.time := rfl
@[simp] theorem State.post_nv (s : State) (ns : List Notice) : (s.post ns).nv = s.nv := rfl
@[simp] theorem State.post_settings (s : State) (ns : List Notice) : (s.post ns).settings = s.settings := rfl
@[simp] theorem State.post_inputs (s : State) (ns : List Notice) : (s.post ns).inputs = s.inputs := rfl
@[simp] theorem State.post_chassis (s : State) (ns : List Notice) : (s.post ns).chassis = s.chassis := rfl
@[simp] theorem State.post_pto (s : State) (ns : List Notice) : (s.post ns).pto = s.pto := rfl
@[simp] theorem State.post_gov (s : State) (ns : List Notice) : (s.post ns).gov = s.gov := rfl
@[simp] theorem State.post_prot (s : State) (ns : List Notice) : (s.post ns).prot = s.prot := rfl
@[simp] theorem State.post_gauge (s : State) (ns : List Notice) : (s.post ns).gauge = s.gauge := rfl
@[simp] theorem State.post_lock (s : State) (ns : List Notice) : (s.post ns).lock = s.lock := rfl
@[simp] theorem State.post_link (s : State) (ns : List Notice) : (s.post ns).link = s.link := rfl
@[simp] theorem State.post_notices (s : State) (ns : List Notice) : (s.post ns).notices = postAll s.time.uptime s.notices ns := rfl
@[simp] theorem State.post_store (s : State) (ns : List Notice) : (s.post ns).store = s.store := rfl
@[simp] theorem State.post_power (s : State) (ns : List Notice) : (s.post ns).power = s.power := rfl
@[simp] theorem State.post_outputs (s : State) (ns : List Notice) : (s.post ns).outputs = s.outputs := rfl

/-! A run of the sequencer changes the drive records and the notice queue. -/

@[simp] theorem State.withPto_pending (s : State) (r : PtoRun) : (s.withPto r).pending = s.pending := rfl
@[simp] theorem State.withPto_powered (s : State) (r : PtoRun) : (s.withPto r).powered = s.powered := rfl
@[simp] theorem State.withPto_time (s : State) (r : PtoRun) : (s.withPto r).time = s.time := rfl
@[simp] theorem State.withPto_nv (s : State) (r : PtoRun) : (s.withPto r).nv = s.nv := rfl
@[simp] theorem State.withPto_settings (s : State) (r : PtoRun) : (s.withPto r).settings = s.settings := rfl
@[simp] theorem State.withPto_inputs (s : State) (r : PtoRun) : (s.withPto r).inputs = s.inputs := rfl
@[simp] theorem State.withPto_chassis (s : State) (r : PtoRun) : (s.withPto r).chassis = s.chassis := rfl
@[simp] theorem State.withPto_pto (s : State) (r : PtoRun) : (s.withPto r).pto = r.pto := rfl
@[simp] theorem State.withPto_gov (s : State) (r : PtoRun) : (s.withPto r).gov = s.gov := rfl
@[simp] theorem State.withPto_prot (s : State) (r : PtoRun) : (s.withPto r).prot = s.prot := rfl
@[simp] theorem State.withPto_gauge (s : State) (r : PtoRun) : (s.withPto r).gauge = s.gauge := rfl
@[simp] theorem State.withPto_lock (s : State) (r : PtoRun) : (s.withPto r).lock = s.lock := rfl
@[simp] theorem State.withPto_link (s : State) (r : PtoRun) : (s.withPto r).link = s.link := rfl
@[simp] theorem State.withPto_notices (s : State) (r : PtoRun) : (s.withPto r).notices = postAll s.time.uptime s.notices r.posts := rfl
@[simp] theorem State.withPto_store (s : State) (r : PtoRun) : (s.withPto r).store = s.store := rfl
@[simp] theorem State.withPto_power (s : State) (r : PtoRun) : (s.withPto r).power = s.power := rfl
@[simp] theorem State.withPto_outputs (s : State) (r : PtoRun) : (s.withPto r).outputs = s.outputs := rfl

/-! Refreshing the outputs changes the outputs alone. -/

@[simp] theorem refreshOutputs_pending (s : State) : (refreshOutputs s).pending = s.pending := rfl
@[simp] theorem refreshOutputs_powered (s : State) : (refreshOutputs s).powered = s.powered := rfl
@[simp] theorem refreshOutputs_time (s : State) : (refreshOutputs s).time = s.time := rfl
@[simp] theorem refreshOutputs_nv (s : State) : (refreshOutputs s).nv = s.nv := rfl
@[simp] theorem refreshOutputs_settings (s : State) : (refreshOutputs s).settings = s.settings := rfl
@[simp] theorem refreshOutputs_inputs (s : State) : (refreshOutputs s).inputs = s.inputs := rfl
@[simp] theorem refreshOutputs_chassis (s : State) : (refreshOutputs s).chassis = s.chassis := rfl
@[simp] theorem refreshOutputs_pto (s : State) : (refreshOutputs s).pto = s.pto := rfl
@[simp] theorem refreshOutputs_gov (s : State) : (refreshOutputs s).gov = s.gov := rfl
@[simp] theorem refreshOutputs_prot (s : State) : (refreshOutputs s).prot = s.prot := rfl
@[simp] theorem refreshOutputs_gauge (s : State) : (refreshOutputs s).gauge = s.gauge := rfl
@[simp] theorem refreshOutputs_lock (s : State) : (refreshOutputs s).lock = s.lock := rfl
@[simp] theorem refreshOutputs_link (s : State) : (refreshOutputs s).link = s.link := rfl
@[simp] theorem refreshOutputs_notices (s : State) : (refreshOutputs s).notices = s.notices := rfl
@[simp] theorem refreshOutputs_store (s : State) : (refreshOutputs s).store = s.store := rfl
@[simp] theorem refreshOutputs_power (s : State) : (refreshOutputs s).power = s.power := rfl
@[simp] theorem refreshOutputs_outputs (s : State) : (refreshOutputs s).outputs = outputsOf s := rfl

/-! A reply put in the reply slot changes the link alone (R168). -/

@[simp] theorem putReply_pending (tag : Byte) (code : ResultCode) (body : List Byte) (s : State) : (putReply tag code body s).pending = s.pending := rfl
@[simp] theorem putReply_powered (tag : Byte) (code : ResultCode) (body : List Byte) (s : State) : (putReply tag code body s).powered = s.powered := rfl
@[simp] theorem putReply_time (tag : Byte) (code : ResultCode) (body : List Byte) (s : State) : (putReply tag code body s).time = s.time := rfl
@[simp] theorem putReply_nv (tag : Byte) (code : ResultCode) (body : List Byte) (s : State) : (putReply tag code body s).nv = s.nv := rfl
@[simp] theorem putReply_settings (tag : Byte) (code : ResultCode) (body : List Byte) (s : State) : (putReply tag code body s).settings = s.settings := rfl
@[simp] theorem putReply_inputs (tag : Byte) (code : ResultCode) (body : List Byte) (s : State) : (putReply tag code body s).inputs = s.inputs := rfl
@[simp] theorem putReply_chassis (tag : Byte) (code : ResultCode) (body : List Byte) (s : State) : (putReply tag code body s).chassis = s.chassis := rfl
@[simp] theorem putReply_pto (tag : Byte) (code : ResultCode) (body : List Byte) (s : State) : (putReply tag code body s).pto = s.pto := rfl
@[simp] theorem putReply_gov (tag : Byte) (code : ResultCode) (body : List Byte) (s : State) : (putReply tag code body s).gov = s.gov := rfl
@[simp] theorem putReply_prot (tag : Byte) (code : ResultCode) (body : List Byte) (s : State) : (putReply tag code body s).prot = s.prot := rfl
@[simp] theorem putReply_gauge (tag : Byte) (code : ResultCode) (body : List Byte) (s : State) : (putReply tag code body s).gauge = s.gauge := rfl
@[simp] theorem putReply_lock (tag : Byte) (code : ResultCode) (body : List Byte) (s : State) : (putReply tag code body s).lock = s.lock := rfl
@[simp] theorem putReply_link (tag : Byte) (code : ResultCode) (body : List Byte) (s : State) : (putReply tag code body s).link = { s.link with reply := some { tag := tag, code := code, body := body, begun := 0 } } := rfl
@[simp] theorem putReply_notices (tag : Byte) (code : ResultCode) (body : List Byte) (s : State) : (putReply tag code body s).notices = s.notices := rfl
@[simp] theorem putReply_store (tag : Byte) (code : ResultCode) (body : List Byte) (s : State) : (putReply tag code body s).store = s.store := rfl
@[simp] theorem putReply_power (tag : Byte) (code : ResultCode) (body : List Byte) (s : State) : (putReply tag code body s).power = s.power := rfl
@[simp] theorem putReply_outputs (tag : Byte) (code : ResultCode) (body : List Byte) (s : State) : (putReply tag code body s).outputs = s.outputs := rfl

/-! The brake monitor's reaction. -/

@[simp] theorem settleBrake_pending (before s : State) : (settleBrake before s).pending = s.pending := rfl
@[simp] theorem settleBrake_powered (before s : State) : (settleBrake before s).powered = s.powered := rfl
@[simp] theorem settleBrake_time (before s : State) : (settleBrake before s).time = s.time := rfl
@[simp] theorem settleBrake_nv (before s : State) : (settleBrake before s).nv = s.nv := rfl
@[simp] theorem settleBrake_settings (before s : State) : (settleBrake before s).settings = s.settings := rfl
@[simp] theorem settleBrake_inputs (before s : State) : (settleBrake before s).inputs = { s.inputs with brake := brakeReact before s } := rfl
@[simp] theorem settleBrake_chassis (before s : State) : (settleBrake before s).chassis = s.chassis := rfl
@[simp] theorem settleBrake_pto (before s : State) : (settleBrake before s).pto = s.pto := rfl
@[simp] theorem settleBrake_gov (before s : State) : (settleBrake before s).gov = s.gov := rfl
@[simp] theorem settleBrake_prot (before s : State) : (settleBrake before s).prot = s.prot := rfl
@[simp] theorem settleBrake_gauge (before s : State) : (settleBrake before s).gauge = s.gauge := rfl
@[simp] theorem settleBrake_lock (before s : State) : (settleBrake before s).lock = s.lock := rfl
@[simp] theorem settleBrake_link (before s : State) : (settleBrake before s).link = s.link := rfl
@[simp] theorem settleBrake_notices (before s : State) : (settleBrake before s).notices = s.notices := rfl
@[simp] theorem settleBrake_store (before s : State) : (settleBrake before s).store = s.store := rfl
@[simp] theorem settleBrake_power (before s : State) : (settleBrake before s).power = s.power := rfl
@[simp] theorem settleBrake_outputs (before s : State) : (settleBrake before s).outputs = s.outputs := rfl

/-! The fill's reaction. -/

@[simp] theorem settleFill_pending (before s : State) : (settleFill before s).pending = s.pending := rfl
@[simp] theorem settleFill_powered (before s : State) : (settleFill before s).powered = s.powered := rfl
@[simp] theorem settleFill_time (before s : State) : (settleFill before s).time = s.time := rfl
@[simp] theorem settleFill_nv (before s : State) : (settleFill before s).nv = s.nv := rfl
@[simp] theorem settleFill_settings (before s : State) : (settleFill before s).settings = s.settings := rfl
@[simp] theorem settleFill_inputs (before s : State) : (settleFill before s).inputs = s.inputs := rfl
@[simp] theorem settleFill_chassis (before s : State) : (settleFill before s).chassis = s.chassis := rfl
@[simp] theorem settleFill_pto (before s : State) : (settleFill before s).pto = s.pto := rfl
@[simp] theorem settleFill_gov (before s : State) : (settleFill before s).gov = s.gov := rfl
@[simp] theorem settleFill_prot (before s : State) : (settleFill before s).prot = s.prot := rfl
@[simp] theorem settleFill_gauge (before s : State) : (settleFill before s).gauge = (fillReact before s).1 := rfl
@[simp] theorem settleFill_lock (before s : State) : (settleFill before s).lock = s.lock := rfl
@[simp] theorem settleFill_link (before s : State) : (settleFill before s).link = s.link := rfl
@[simp] theorem settleFill_notices (before s : State) : (settleFill before s).notices = postAll s.time.uptime s.notices (fillReact before s).2 := rfl
@[simp] theorem settleFill_store (before s : State) : (settleFill before s).store = s.store := rfl
@[simp] theorem settleFill_power (before s : State) : (settleFill before s).power = s.power := rfl
@[simp] theorem settleFill_outputs (before s : State) : (settleFill before s).outputs = s.outputs := rfl

/-! The sequencer's reaction. -/

@[simp] theorem settlePto_pending (before s : State) : (settlePto before s).pending = s.pending := by simp only [settlePto, State.withPto_pending]
@[simp] theorem settlePto_powered (before s : State) : (settlePto before s).powered = s.powered := by simp only [settlePto, State.withPto_powered]
@[simp] theorem settlePto_time (before s : State) : (settlePto before s).time = s.time := by simp only [settlePto, State.withPto_time]
@[simp] theorem settlePto_nv (before s : State) : (settlePto before s).nv = s.nv := by simp only [settlePto, State.withPto_nv]
@[simp] theorem settlePto_settings (before s : State) : (settlePto before s).settings = s.settings := by simp only [settlePto, State.withPto_settings]
@[simp] theorem settlePto_inputs (before s : State) : (settlePto before s).inputs = s.inputs := by simp only [settlePto, State.withPto_inputs]
@[simp] theorem settlePto_chassis (before s : State) : (settlePto before s).chassis = s.chassis := by simp only [settlePto, State.withPto_chassis]
@[simp] theorem settlePto_pto (before s : State) : (settlePto before s).pto = (ptoReact before s).pto := by simp only [settlePto, State.withPto_pto]
@[simp] theorem settlePto_gov (before s : State) : (settlePto before s).gov = s.gov := by simp only [settlePto, State.withPto_gov]
@[simp] theorem settlePto_prot (before s : State) : (settlePto before s).prot = s.prot := by simp only [settlePto, State.withPto_prot]
@[simp] theorem settlePto_gauge (before s : State) : (settlePto before s).gauge = s.gauge := by simp only [settlePto, State.withPto_gauge]
@[simp] theorem settlePto_lock (before s : State) : (settlePto before s).lock = s.lock := by simp only [settlePto, State.withPto_lock]
@[simp] theorem settlePto_link (before s : State) : (settlePto before s).link = s.link := by simp only [settlePto, State.withPto_link]
@[simp] theorem settlePto_notices (before s : State) : (settlePto before s).notices = postAll s.time.uptime s.notices (ptoReact before s).posts := by simp only [settlePto, State.withPto_notices]
@[simp] theorem settlePto_store (before s : State) : (settlePto before s).store = s.store := by simp only [settlePto, State.withPto_store]
@[simp] theorem settlePto_power (before s : State) : (settlePto before s).power = s.power := by simp only [settlePto, State.withPto_power]
@[simp] theorem settlePto_outputs (before s : State) : (settlePto before s).outputs = s.outputs := by simp only [settlePto, State.withPto_outputs]

/-! The governor's reaction. -/

@[simp] theorem settleGovernor_pending (s : State) : (settleGovernor s).pending = s.pending := by simp only [settleGovernor, State.post_pending]
@[simp] theorem settleGovernor_powered (s : State) : (settleGovernor s).powered = s.powered := by simp only [settleGovernor, State.post_powered]
@[simp] theorem settleGovernor_time (s : State) : (settleGovernor s).time = s.time := by simp only [settleGovernor, State.post_time]
@[simp] theorem settleGovernor_nv (s : State) : (settleGovernor s).nv = s.nv := by simp only [settleGovernor, State.post_nv]
@[simp] theorem settleGovernor_settings (s : State) : (settleGovernor s).settings = s.settings := by simp only [settleGovernor, State.post_settings]
@[simp] theorem settleGovernor_inputs (s : State) : (settleGovernor s).inputs = s.inputs := by simp only [settleGovernor, State.post_inputs]
@[simp] theorem settleGovernor_chassis (s : State) : (settleGovernor s).chassis = s.chassis := by simp only [settleGovernor, State.post_chassis]
@[simp] theorem settleGovernor_pto (s : State) : (settleGovernor s).pto = s.pto := by simp only [settleGovernor, State.post_pto]
@[simp] theorem settleGovernor_gov (s : State) : (settleGovernor s).gov = (governorReact s).1 := by simp only [settleGovernor, State.post_gov]
@[simp] theorem settleGovernor_prot (s : State) : (settleGovernor s).prot = s.prot := by simp only [settleGovernor, State.post_prot]
@[simp] theorem settleGovernor_gauge (s : State) : (settleGovernor s).gauge = s.gauge := by simp only [settleGovernor, State.post_gauge]
@[simp] theorem settleGovernor_lock (s : State) : (settleGovernor s).lock = s.lock := by simp only [settleGovernor, State.post_lock]
@[simp] theorem settleGovernor_link (s : State) : (settleGovernor s).link = s.link := by simp only [settleGovernor, State.post_link]
@[simp] theorem settleGovernor_notices (s : State) : (settleGovernor s).notices = postAll s.time.uptime s.notices (governorReact s).2 := by simp only [settleGovernor, State.post_notices]
@[simp] theorem settleGovernor_store (s : State) : (settleGovernor s).store = s.store := by simp only [settleGovernor, State.post_store]
@[simp] theorem settleGovernor_power (s : State) : (settleGovernor s).power = s.power := by simp only [settleGovernor, State.post_power]
@[simp] theorem settleGovernor_outputs (s : State) : (settleGovernor s).outputs = s.outputs := by simp only [settleGovernor, State.post_outputs]

/-! The protection monitor's reaction. -/

@[simp] theorem settleProtection_pending (before s : State) : (settleProtection before s).pending = s.pending := rfl
@[simp] theorem settleProtection_powered (before s : State) : (settleProtection before s).powered = s.powered := rfl
@[simp] theorem settleProtection_time (before s : State) : (settleProtection before s).time = s.time := rfl
@[simp] theorem settleProtection_nv (before s : State) : (settleProtection before s).nv = s.nv := rfl
@[simp] theorem settleProtection_settings (before s : State) : (settleProtection before s).settings = s.settings := rfl
@[simp] theorem settleProtection_inputs (before s : State) : (settleProtection before s).inputs = s.inputs := rfl
@[simp] theorem settleProtection_chassis (before s : State) : (settleProtection before s).chassis = s.chassis := rfl
@[simp] theorem settleProtection_pto (before s : State) : (settleProtection before s).pto = s.pto := rfl
@[simp] theorem settleProtection_gov (before s : State) : (settleProtection before s).gov = s.gov := rfl
@[simp] theorem settleProtection_prot (before s : State) : (settleProtection before s).prot = protReact before s := rfl
@[simp] theorem settleProtection_gauge (before s : State) : (settleProtection before s).gauge = s.gauge := rfl
@[simp] theorem settleProtection_lock (before s : State) : (settleProtection before s).lock = s.lock := rfl
@[simp] theorem settleProtection_link (before s : State) : (settleProtection before s).link = s.link := rfl
@[simp] theorem settleProtection_notices (before s : State) : (settleProtection before s).notices = s.notices := rfl
@[simp] theorem settleProtection_store (before s : State) : (settleProtection before s).store = s.store := rfl
@[simp] theorem settleProtection_power (before s : State) : (settleProtection before s).power = s.power := rfl
@[simp] theorem settleProtection_outputs (before s : State) : (settleProtection before s).outputs = s.outputs := rfl

/-! The lockout unit's reaction. -/

@[simp] theorem settleLockout_pending (s : State) : (settleLockout s).pending = s.pending := rfl
@[simp] theorem settleLockout_powered (s : State) : (settleLockout s).powered = s.powered := rfl
@[simp] theorem settleLockout_time (s : State) : (settleLockout s).time = s.time := rfl
@[simp] theorem settleLockout_nv (s : State) : (settleLockout s).nv = s.nv := rfl
@[simp] theorem settleLockout_settings (s : State) : (settleLockout s).settings = s.settings := rfl
@[simp] theorem settleLockout_inputs (s : State) : (settleLockout s).inputs = s.inputs := rfl
@[simp] theorem settleLockout_chassis (s : State) : (settleLockout s).chassis = s.chassis := rfl
@[simp] theorem settleLockout_pto (s : State) : (settleLockout s).pto = s.pto := rfl
@[simp] theorem settleLockout_gov (s : State) : (settleLockout s).gov = s.gov := rfl
@[simp] theorem settleLockout_prot (s : State) : (settleLockout s).prot = s.prot := rfl
@[simp] theorem settleLockout_gauge (s : State) : (settleLockout s).gauge = s.gauge := rfl
@[simp] theorem settleLockout_lock (s : State) : (settleLockout s).lock = (lockoutReact s).1 := rfl
@[simp] theorem settleLockout_link (s : State) : (settleLockout s).link = s.link := rfl
@[simp] theorem settleLockout_notices (s : State) : (settleLockout s).notices = postAll s.time.uptime s.notices (lockoutReact s).2 := rfl
@[simp] theorem settleLockout_store (s : State) : (settleLockout s).store = s.store := rfl
@[simp] theorem settleLockout_power (s : State) : (settleLockout s).power = s.power := rfl
@[simp] theorem settleLockout_outputs (s : State) : (settleLockout s).outputs = s.outputs := rfl

/-! The chassis port's reaction. -/

@[simp] theorem settleChassis_pending (before s : State) : (settleChassis before s).pending = s.pending := rfl
@[simp] theorem settleChassis_powered (before s : State) : (settleChassis before s).powered = s.powered := rfl
@[simp] theorem settleChassis_time (before s : State) : (settleChassis before s).time = s.time := rfl
@[simp] theorem settleChassis_nv (before s : State) : (settleChassis before s).nv = s.nv := rfl
@[simp] theorem settleChassis_settings (before s : State) : (settleChassis before s).settings = s.settings := rfl
@[simp] theorem settleChassis_inputs (before s : State) : (settleChassis before s).inputs = s.inputs := rfl
@[simp] theorem settleChassis_chassis (before s : State) : (settleChassis before s).chassis = chassisReact before s := rfl
@[simp] theorem settleChassis_pto (before s : State) : (settleChassis before s).pto = s.pto := rfl
@[simp] theorem settleChassis_gov (before s : State) : (settleChassis before s).gov = s.gov := rfl
@[simp] theorem settleChassis_prot (before s : State) : (settleChassis before s).prot = s.prot := rfl
@[simp] theorem settleChassis_gauge (before s : State) : (settleChassis before s).gauge = s.gauge := rfl
@[simp] theorem settleChassis_lock (before s : State) : (settleChassis before s).lock = s.lock := rfl
@[simp] theorem settleChassis_link (before s : State) : (settleChassis before s).link = s.link := rfl
@[simp] theorem settleChassis_notices (before s : State) : (settleChassis before s).notices = s.notices := rfl
@[simp] theorem settleChassis_store (before s : State) : (settleChassis before s).store = s.store := rfl
@[simp] theorem settleChassis_power (before s : State) : (settleChassis before s).power = s.power := rfl
@[simp] theorem settleChassis_outputs (before s : State) : (settleChassis before s).outputs = s.outputs := rfl

/-! The monitors' reaction. -/

@[simp] theorem settleMonitors_pending (before s : State) : (settleMonitors before s).pending = s.pending := rfl
@[simp] theorem settleMonitors_powered (before s : State) : (settleMonitors before s).powered = s.powered := rfl
@[simp] theorem settleMonitors_time (before s : State) : (settleMonitors before s).time = s.time := rfl
@[simp] theorem settleMonitors_nv (before s : State) : (settleMonitors before s).nv = s.nv := rfl
@[simp] theorem settleMonitors_settings (before s : State) : (settleMonitors before s).settings = s.settings := rfl
@[simp] theorem settleMonitors_inputs (before s : State) : (settleMonitors before s).inputs = s.inputs := rfl
@[simp] theorem settleMonitors_chassis (before s : State) : (settleMonitors before s).chassis = s.chassis := rfl
@[simp] theorem settleMonitors_pto (before s : State) : (settleMonitors before s).pto = s.pto := rfl
@[simp] theorem settleMonitors_gov (before s : State) : (settleMonitors before s).gov = s.gov := rfl
@[simp] theorem settleMonitors_prot (before s : State) : (settleMonitors before s).prot = s.prot := rfl
@[simp] theorem settleMonitors_gauge (before s : State) : (settleMonitors before s).gauge = s.gauge := rfl
@[simp] theorem settleMonitors_lock (before s : State) : (settleMonitors before s).lock = s.lock := rfl
@[simp] theorem settleMonitors_link (before s : State) : (settleMonitors before s).link = monitorReact before s := rfl
@[simp] theorem settleMonitors_notices (before s : State) : (settleMonitors before s).notices = s.notices := rfl
@[simp] theorem settleMonitors_store (before s : State) : (settleMonitors before s).store = s.store := rfl
@[simp] theorem settleMonitors_power (before s : State) : (settleMonitors before s).power = s.power := rfl
@[simp] theorem settleMonitors_outputs (before s : State) : (settleMonitors before s).outputs = s.outputs := rfl

/-! A frame received sets the last-heard timestamp and the silence timer (R167, R190). -/

@[simp] theorem heard_pending (s : State) : (heard s).pending = s.pending := rfl
@[simp] theorem heard_powered (s : State) : (heard s).powered = s.powered := rfl
@[simp] theorem heard_time (s : State) : (heard s).time = s.time := rfl
@[simp] theorem heard_nv (s : State) : (heard s).nv = s.nv := rfl
@[simp] theorem heard_settings (s : State) : (heard s).settings = s.settings := rfl
@[simp] theorem heard_inputs (s : State) : (heard s).inputs = s.inputs := rfl
@[simp] theorem heard_chassis (s : State) : (heard s).chassis = s.chassis := rfl
@[simp] theorem heard_pto (s : State) : (heard s).pto = s.pto := rfl
@[simp] theorem heard_gov (s : State) : (heard s).gov = s.gov := rfl
@[simp] theorem heard_prot (s : State) : (heard s).prot = s.prot := rfl
@[simp] theorem heard_gauge (s : State) : (heard s).gauge = s.gauge := rfl
@[simp] theorem heard_lock (s : State) : (heard s).lock = s.lock := rfl
@[simp] theorem heard_link (s : State) : (heard s).link = { s.link with lastHeard := s.time.uptime } := rfl
@[simp] theorem heard_notices (s : State) : (heard s).notices = s.notices := rfl
@[simp] theorem heard_store (s : State) : (heard s).store = s.store := rfl
@[simp] theorem heard_power (s : State) : (heard s).power = { s.power with silence := startTimer s.time.uptime (s.settings.linkIdle * 1000) } := rfl
@[simp] theorem heard_outputs (s : State) : (heard s).outputs = s.outputs := rfl

/-! A RESTART that waits for the end of WAKING (R48, R189): the request being executed alone changes. -/

@[simp] theorem awaitSettling_pending (s : State) : (awaitSettling s).pending = s.pending := rfl
@[simp] theorem awaitSettling_powered (s : State) : (awaitSettling s).powered = s.powered := rfl
@[simp] theorem awaitSettling_time (s : State) : (awaitSettling s).time = s.time := rfl
@[simp] theorem awaitSettling_nv (s : State) : (awaitSettling s).nv = s.nv := rfl
@[simp] theorem awaitSettling_settings (s : State) : (awaitSettling s).settings = s.settings := rfl
@[simp] theorem awaitSettling_inputs (s : State) : (awaitSettling s).inputs = s.inputs := rfl
@[simp] theorem awaitSettling_chassis (s : State) : (awaitSettling s).chassis = s.chassis := rfl
@[simp] theorem awaitSettling_pto (s : State) : (awaitSettling s).pto = s.pto := rfl
@[simp] theorem awaitSettling_gov (s : State) : (awaitSettling s).gov = s.gov := rfl
@[simp] theorem awaitSettling_prot (s : State) : (awaitSettling s).prot = s.prot := rfl
@[simp] theorem awaitSettling_gauge (s : State) : (awaitSettling s).gauge = s.gauge := rfl
@[simp] theorem awaitSettling_lock (s : State) : (awaitSettling s).lock = s.lock := rfl
@[simp] theorem awaitSettling_notices (s : State) : (awaitSettling s).notices = s.notices := rfl
@[simp] theorem awaitSettling_store (s : State) : (awaitSettling s).store = s.store := rfl
@[simp] theorem awaitSettling_power (s : State) : (awaitSettling s).power = s.power := rfl
@[simp] theorem awaitSettling_outputs (s : State) : (awaitSettling s).outputs = s.outputs := rfl
@[simp] theorem awaitSettling_link (s : State) : (awaitSettling s).link = { s.link with executing := some .restarting } :=
  rfl

/-- The end of the settling period restarts the part when a RESTART has waited for it, and only wakes it otherwise (R48,
R189, R193). -/
theorem settled_cases (s : State) :
    (s.link.executing = some .restarting ∧ settled s = restartPart (wakePart s)) ∨
    (s.link.executing ≠ some .restarting ∧ settled s = wakePart s) := by
  unfold settled; split <;> simp [*]

/-- The request from which a ceiling falls: idle_rpm in OFF and ROLL, the stored request in the other modes (R106, R113). -/
theorem requestInForce_eq (idle : Int) (g : Governor) :
    requestInForce idle g = if g.mode = .off ∨ g.mode = .roll then idle else g.request := by
  unfold requestInForce; cases g.mode <;> simp

/-! ### What is read of a state depends on some of its fields alone -/

@[simp] theorem State.quantity_post (s : State) (ns : List Notice) (q : Fin 6) : (s.post ns).quantity q = s.quantity q :=
  rfl
@[simp] theorem State.level_post (s : State) (ns : List Notice) (i : Fin 10) : (s.post ns).level i = s.level i := rfl
@[simp] theorem State.stationary_post (s : State) (ns : List Notice) : (s.post ns).stationary = s.stationary := rfl
@[simp] theorem State.working_post (s : State) (ns : List Notice) : (s.post ns).working = s.working := rfl
@[simp] theorem State.working_withPto (s : State) (r : PtoRun) : (s.withPto r).working = s.working := rfl
@[simp] theorem State.working_refreshOutputs (s : State) : (refreshOutputs s).working = s.working := rfl
@[simp] theorem outputsOf_settleMonitors (before s : State) : outputsOf (settleMonitors before s) = outputsOf s := rfl
@[simp] theorem outputsOf_refreshOutputs (s : State) : outputsOf (refreshOutputs s) = outputsOf s := rfl

/-- Posting no notice changes nothing. -/
@[simp] theorem State.post_nil (s : State) : s.post [] = s := rfl

/-- Notices posted one list after another. -/
theorem postAll_append (now : Uptime) (q : NoticeQueue) (a b : List Notice) :
    postAll now q (a ++ b) = postAll now (postAll now q a) b := by
  simp [postAll, List.foldl_append]

@[simp] theorem postAll_nil (now : Uptime) (q : NoticeQueue) : postAll now q [] = q := rfl

@[simp] theorem postAll_cons (now : Uptime) (q : NoticeQueue) (n : Notice) (ns : List Notice) :
    postAll now q (n :: ns) = postAll now (postNotice now q n) ns := rfl

@[simp] theorem Pto.drive_setDrive_same (p : Pto) (d : DriveId) (x : Drive) : (p.setDrive d x).drive d = x := by
  cases d <;> rfl

@[simp] theorem Pto.drive_setDrive_other (p : Pto) (d : DriveId) (x : Drive) :
    (p.setDrive d x).drive (otherDrive d) = p.drive (otherDrive d) := by
  cases d <;> rfl

/-! The readers' reaction to an event's own changes leaves all but the lockout unit, the port, the link and the notices. -/

@[simp] theorem settleReaders_pending (before s : State) : (settleReaders before s).pending = s.pending := rfl
@[simp] theorem settleReaders_powered (before s : State) : (settleReaders before s).powered = s.powered := rfl
@[simp] theorem settleReaders_time (before s : State) : (settleReaders before s).time = s.time := rfl
@[simp] theorem settleReaders_nv (before s : State) : (settleReaders before s).nv = s.nv := rfl
@[simp] theorem settleReaders_settings (before s : State) : (settleReaders before s).settings = s.settings := rfl
@[simp] theorem settleReaders_inputs (before s : State) : (settleReaders before s).inputs = s.inputs := rfl
@[simp] theorem settleReaders_pto (before s : State) : (settleReaders before s).pto = s.pto := rfl
@[simp] theorem settleReaders_gov (before s : State) : (settleReaders before s).gov = s.gov := rfl
@[simp] theorem settleReaders_prot (before s : State) : (settleReaders before s).prot = s.prot := rfl
@[simp] theorem settleReaders_gauge (before s : State) : (settleReaders before s).gauge = s.gauge := rfl
@[simp] theorem settleReaders_store (before s : State) : (settleReaders before s).store = s.store := rfl
@[simp] theorem settleReaders_power (before s : State) : (settleReaders before s).power = s.power := rfl
@[simp] theorem settleReaders_outputs (before s : State) : (settleReaders before s).outputs = s.outputs := rfl

/-! A new millisecond clears the marks of the expiries, and a not-available frame leaves the value. -/

@[simp] theorem nextMillisecond_tx (ch : Chassis) : (nextMillisecond ch).tx = ch.tx := rfl
@[simp] theorem nextMillisecond_port (ch : Chassis) : (nextMillisecond ch).port = ch.port := rfl
@[simp] theorem nextMillisecond_txErrors (ch : Chassis) : (nextMillisecond ch).txErrors = ch.txErrors := rfl
@[simp] theorem nextMillisecond_rxErrors (ch : Chassis) : (nextMillisecond ch).rxErrors = ch.rxErrors := rfl
@[simp] theorem nextMillisecond_progress (ch : Chassis) : (nextMillisecond ch).progress = ch.progress := rfl
@[simp] theorem nextMillisecond_joined (ch : Chassis) : (nextMillisecond ch).joined = ch.joined := rfl
@[simp] theorem nextMillisecond_content (ch : Chassis) : (nextMillisecond ch).content = ch.content := rfl
@[simp] theorem nextMillisecond_t0 (ch : Chassis) : (nextMillisecond ch).t0 = ch.t0 := rfl
@[simp] theorem nextMillisecond_t1 (ch : Chassis) : (nextMillisecond ch).t1 = ch.t1 := rfl
@[simp] theorem nextMillisecond_t2 (ch : Chassis) : (nextMillisecond ch).t2 = ch.t2 := rfl

@[simp] theorem nextMillisecond_slot (ch : Chassis) (i : Fin 16) :
    (nextMillisecond ch).rx[i] = { ch.rx[i] with expiredNow := false } := by simp [nextMillisecond]

/-- What a not-available frame can do to a slot: all but its state and its age timer are as R30 says in every state, and
the state is NOT_AVAILABLE but for a slot whose expiry was taken first in the same millisecond (R32). -/
theorem takeNotAvailable_cases (now : Uptime) (r : RxSlot) :
    (r.state = .stale ∧ r.expiredNow = true ∧ takeNotAvailable now r = { r with rejections := 0 }) ∨
    ((r.state ≠ .stale ∨ r.expiredNow = false) ∧ takeNotAvailable now r =
      { r with state := .notAvailable, rejections := 0, age := if due now r.age then none else r.age }) := by
  by_cases h : r.state = .stale ∧ r.expiredNow = true
  · exact .inl ⟨h.1, h.2, if_pos h⟩
  · refine .inr ⟨?_, if_neg h⟩
    by_cases hs : r.state = .stale
    · exact .inr (by simpa [hs] using h)
    · exact .inl hs

end Sys2Proof.Machine
end

