-- ==== Sys2Proof/Laws/Notices.lean ====
section
/-! SUPPORT. What posting notices can do to the queue (R181, R182): it keeps the queue sound, it never clears the
notices-lost flag, and it never loses an unsent ALARM. -/

namespace Sys2Proof.Machine

/-- Coalescing replaces one entry by the entry coalesced with the notice. -/
theorem coalesceInto_split (now : Uptime) (n : Notice) (es fs : List Entry) (h : coalesceInto now n es = some fs) :
    ∃ a e b, es = a ++ e :: b ∧ entryMatches n e = true ∧ fs = a ++ coalesced now n e :: b := by
  induction es generalizing fs with
  | nil => simp [coalesceInto] at h
  | cons e es ih =>
    simp only [coalesceInto] at h
    split at h
    · next hm => exact ⟨[], e, es, rfl, hm, by simpa using h.symm⟩
    · simp only [Option.map_eq_some_iff] at h
      obtain ⟨fs', h', rfl⟩ := h
      obtain ⟨a, e', b, rfl, hm, rfl⟩ := ih fs' h'
      exact ⟨e :: a, e', b, rfl, hm, rfl⟩

/-- Without a coalescing no entry matches the notice. -/
theorem coalesceInto_none (now : Uptime) (n : Notice) (es : List Entry) (h : coalesceInto now n es = none) :
    ∀ e ∈ es, entryMatches n e = false := by
  induction es with
  | nil => simp
  | cons e es ih =>
    simp only [coalesceInto] at h
    split at h
    · cases h
    · next hm =>
      simp only [Option.map_eq_none_iff] at h
      intro x hx
      rcases List.mem_cons.mp hx with rfl | hx
      · simpa using hm
      · exact ih h x hx

/-- Eviction removes one entry, which is unsent and no ALARM. -/
theorem evictLesser_split (es fs : List Entry) (h : evictLesser es = some fs) :
    ∃ a e b, es = a ++ e :: b ∧ e.sending = false ∧ e.cls ≠ .alarm ∧ fs = a ++ b := by
  induction es generalizing fs with
  | nil => simp [evictLesser] at h
  | cons e es ih =>
    simp only [evictLesser] at h
    split at h
    · next hm =>
      simp only [Bool.and_eq_true, Bool.not_eq_true', decide_eq_true_eq] at hm
      exact ⟨[], e, es, rfl, hm.1, hm.2, by simpa using h.symm⟩
    · simp only [Option.map_eq_some_iff] at h
      obtain ⟨fs', h', rfl⟩ := h
      obtain ⟨a, e', b, rfl, h1, h2, rfl⟩ := ih fs' h'
      exact ⟨e :: a, e', b, rfl, h1, h2, rfl⟩

/-- Everything that posting one notice can do (R181, R182): the notice is coalesced into the entry that matches it; or
none matches and it is appended, after an eviction when an ALARM finds the queue full; or it is lost. -/
theorem postNotice_cases (now : Uptime) (q : NoticeQueue) (n : Notice) :
    (∃ a e b, q.entries = a ++ e :: b ∧ entryMatches n e = true ∧
      postNotice now q n = { q with entries := a ++ coalesced now n e :: b }) ∨
    ((∀ e ∈ q.entries, entryMatches n e = false) ∧
      ((q.entries.length < queueCapacity ∧ postNotice now q n = { q with entries := q.entries ++ [newEntry now n] }) ∨
       (queueCapacity ≤ q.entries.length ∧ n.cls = .alarm ∧ ∃ a e b, q.entries = a ++ e :: b ∧ e.sending = false ∧
          e.cls ≠ .alarm ∧ postNotice now q n = { entries := a ++ b ++ [newEntry now n], lost := true }) ∨
       (queueCapacity ≤ q.entries.length ∧ postNotice now q n = { q with lost := true }))) := by
  unfold postNotice
  split
  · next es h =>
    obtain ⟨a, e, b, h1, h2, h3⟩ := coalesceInto_split now n q.entries es h
    exact .inl ⟨a, e, b, h1, h2, by rw [h3]⟩
  · next h =>
    refine .inr ⟨coalesceInto_none now n q.entries h, ?_⟩
    split
    · next hl => exact .inl ⟨hl, rfl⟩
    · next hl =>
      have hl' := Nat.not_lt.mp hl
      split
      · next hc =>
        split
        · next es he =>
          obtain ⟨a, e, b, h1, h2, h3, h4⟩ := evictLesser_split _ _ he
          exact .inr (.inl ⟨hl', hc, a, e, b, h1, h2, h3, by rw [h4]⟩)
        · exact .inr (.inr ⟨hl', rfl⟩)
      · exact .inr (.inr ⟨hl', rfl⟩)

/-- A coalesced entry keeps its kind, its subject and its being unsent. -/
theorem coalesced_same (now : Uptime) (n : Notice) (e : Entry) :
    (coalesced now n e).kind = e.kind ∧ (coalesced now n e).subject = e.subject ∧
    (coalesced now n e).sending = e.sending := ⟨rfl, rfl, rfl⟩

/-- A coalesced ALARM is an ALARM. -/
theorem coalesced_alarm (now : Uptime) (n : Notice) (e : Entry) (h : e.cls = .alarm) :
    (coalesced now n e).cls = .alarm := by
  simp only [coalesced, higherClass, h]
  cases n.cls <;> rfl

/-- An ALARM coalesced into an entry makes it an ALARM. -/
theorem coalesced_by_alarm (now : Uptime) (n : Notice) (e : Entry) (h : n.cls = .alarm) :
    (coalesced now n e).cls = .alarm := by
  simp only [coalesced, higherClass, h]
  cases e.cls <;> rfl

/-- Posting a notice keeps an unsent ALARM of its kind and subject. -/
theorem postNotice_alarmWaits (now : Uptime) (q : NoticeQueue) (n : Notice) (k : NoticeKind) (j : Nat)
    (h : AlarmWaits k j q) : AlarmWaits k j (postNotice now q n) := by
  obtain ⟨x, hx, hs, hc, hk, hj⟩ := h
  rcases postNotice_cases now q n with ⟨a, e, b, hq, -, hp⟩ | ⟨-, ⟨-, hp⟩ | ⟨-, -, a, e, b, hq, -, he, hp⟩ | ⟨-, hp⟩⟩
  · rw [hq] at hx
    rcases List.mem_append.mp hx with hx | hx
    · exact ⟨x, by rw [hp]; simp [hx], hs, hc, hk, hj⟩
    · rcases List.mem_cons.mp hx with rfl | hx
      · exact ⟨coalesced now n x, by rw [hp]; simp, hs, coalesced_alarm now n x hc, hk, hj⟩
      · exact ⟨x, by rw [hp]; simp [hx], hs, hc, hk, hj⟩
  · exact ⟨x, by rw [hp]; simp [hx], hs, hc, hk, hj⟩
  · have : x ≠ e := fun h => he (h ▸ hc)
    rw [hq] at hx
    exact ⟨x, by rw [hp]; simp [this] at hx ⊢; tauto, hs, hc, hk, hj⟩
  · exact ⟨x, by rw [hp]; exact hx, hs, hc, hk, hj⟩

/-- Posting notices keeps an unsent ALARM. -/
theorem postAll_alarmWaits (now : Uptime) (q : NoticeQueue) (ns : List Notice) (k : NoticeKind) (j : Nat)
    (h : AlarmWaits k j q) : AlarmWaits k j (postAll now q ns) := by
  induction ns generalizing q with
  | nil => exact h
  | cons n ns ih => exact ih _ (postNotice_alarmWaits now q n k j h)

/-- An ALARM posted while the queue has room waits in it. -/
theorem postNotice_alarm (now : Uptime) (q : NoticeQueue) (n : Notice) (hc : n.cls = .alarm)
    (hl : q.entries.length < queueCapacity) : AlarmWaits n.kind n.subject (postNotice now q n) := by
  rcases postNotice_cases now q n with ⟨a, e, b, -, hm, hp⟩ | ⟨-, ⟨-, hp⟩ | ⟨h, -⟩ | ⟨h, -⟩⟩
  · simp only [entryMatches, Bool.and_eq_true, Bool.not_eq_true', decide_eq_true_eq] at hm
    exact ⟨coalesced now n e, by rw [hp]; simp, hm.1.1, coalesced_by_alarm now n e hc, hm.1.2, hm.2⟩
  · exact ⟨newEntry now n, by rw [hp]; simp, rfl, hc, rfl, rfl⟩
  · omega
  · omega

/-- Posting never clears the notices-lost flag. -/
theorem postAll_lost (now : Uptime) (q : NoticeQueue) (ns : List Notice) (h : q.lost = true) :
    (postAll now q ns).lost = true := by
  induction ns generalizing q with
  | nil => exact h
  | cons n ns ih =>
    refine ih _ ?_
    rcases postNotice_cases now q n with ⟨a, e, b, -, -, hp⟩ | ⟨-, ⟨-, hp⟩ | ⟨-, -, a, e, b, -, -, -, hp⟩ | ⟨-, hp⟩⟩ <;>
      simp [hp, h]

/-- Posting a notice to a queue with room keeps every entry that the notice does not match, and adds at most one. -/
theorem postNotice_keepsEntry (now : Uptime) (q : NoticeQueue) (n : Notice) (e : Entry) (he : e ∈ q.entries)
    (hm : entryMatches n e = false) (hl : q.entries.length < queueCapacity) : e ∈ (postNotice now q n).entries := by
  rcases postNotice_cases now q n with ⟨a, x, b, hq, hx, hp⟩ | ⟨-, ⟨-, hp⟩ | ⟨h, -⟩ | ⟨h, -⟩⟩
  · have hne : e ≠ x := fun h => by rw [h, hx] at hm; cases hm
    rw [hq] at he
    rw [hp]
    simp [hne] at he ⊢
    tauto
  · rw [hp]; simp [he]
  · omega
  · omega

/-- Posting a notice makes the queue at most one longer. -/
theorem postNotice_length (now : Uptime) (q : NoticeQueue) (n : Notice) :
    (postNotice now q n).entries.length ≤ q.entries.length + 1 := by
  rcases postNotice_cases now q n with ⟨a, x, b, hq, -, hp⟩ | ⟨-, ⟨-, hp⟩ | ⟨-, -, a, x, b, hq, -, -, hp⟩ | ⟨-, hp⟩⟩
  · rw [hp, hq]; simp
  · rw [hp]; simp
  · rw [hp, hq]; simp
  · rw [hp]; simp

/-- Posting notices for which the queue has room keeps every entry that none of them matches. -/
theorem postAll_keepsEntry (now : Uptime) (q : NoticeQueue) (ns : List Notice) (e : Entry) (he : e ∈ q.entries)
    (hm : ∀ n ∈ ns, entryMatches n e = false) (hl : q.entries.length + ns.length ≤ queueCapacity) :
    e ∈ (postAll now q ns).entries := by
  induction ns generalizing q with
  | nil => exact he
  | cons n ns ih =>
    simp only [List.length_cons] at hl
    have hlt : q.entries.length < queueCapacity := by omega
    have hn := postNotice_length now q n
    exact ih (postNotice now q n) (postNotice_keepsEntry now q n e he (hm n (by simp)) hlt)
      (fun x hx => hm x (by simp [hx])) (by omega)

/-- A WARNING or ALARM posted while the queue has room waits in it, with its detail (R181). -/
theorem postNotice_warningWaits (now : Uptime) (q : NoticeQueue) (n : Notice) (hc : n.cls ≠ .info)
    (hl : q.entries.length < queueCapacity) : WarningWaits n.kind n.subject n.detail (postNotice now q n) := by
  rcases postNotice_cases now q n with ⟨a, x, b, -, hx, hp⟩ | ⟨-, ⟨-, hp⟩ | ⟨h, -⟩ | ⟨h, -⟩⟩
  · simp only [entryMatches, Bool.and_eq_true, Bool.not_eq_true', decide_eq_true_eq] at hx
    refine ⟨coalesced now n x, by rw [hp]; simp, hx.1.1, hx.1.2, hx.2, rfl, ?_⟩
    simp only [coalesced, higherClass]
    revert hc
    cases x.cls <;> cases n.cls <;> decide
  · exact ⟨newEntry now n, by rw [hp]; simp, rfl, rfl, rfl, rfl, hc⟩
  · omega
  · omega

end Sys2Proof.Machine
end

