-- ==== Sys2Proof/Laws/Reactions.lean ====
section
/-! SUPPORT. What the reactions within an event can do, said once: `Reacted u t` holds between the state that a command's
own effect leaves and the state after the reactions. -/

namespace Sys2Proof.Machine

/-- Nothing done is a reaction. -/
theorem ReactedBy.refl (u : State) : ReactedBy 0 u u :=
  { pending := rfl, powered := rfl, working := rfl, settings := rfl, store := rfl, memory := rfl, writing := rfl,
    clock := rfl, stillDue := id, channels := rfl, port := rfl, slot2 := rfl, slot3 := rfl, slots := fun _ => .inl rfl, govCeiling := rfl,
    govStep := rfl, monitor := rfl, tanks := rfl, noFill := fun _ => rfl, forced := rfl, link := rfl, monitored := rfl,
    reports := fun _ h => h, power := rfl, lost := id, alarms := fun e h1 h2 h3 => ⟨e, h1, h2, h3, rfl, rfl⟩
    posted := ⟨[], Nat.le_refl 0, rfl, by simp, by simp⟩, ignited := fun _ => ⟨rfl, rfl, rfl⟩ }

/-- A slot that falls due a second time at one event stays as the first time left it (R35). -/
theorem slotDue_slotDue (x : TxSlot) : slotDue (slotDue x) = slotDue x := by
  unfold slotDue
  cases h : x.state <;> simp [h]

/-- A reaction leaves the ignition on. -/
theorem ReactedBy.ignitionOn {n : Nat} {u t : State} (h : ReactedBy n u t) (hu : IgnitionOn u) : IgnitionOn t := by
  obtain ⟨h1, h2, h3⟩ := hu
  refine ⟨h.powered.trans h1, by rw [(h.ignited ⟨h1, h2, h3⟩).1]; exact h2, ?_⟩
  rw [State.level, h.channels]; exact h3

/-- Reactions follow one another. -/
theorem ReactedBy.trans {m n : Nat} {u v t : State} (h : ReactedBy m u v) (g : ReactedBy n v t) :
    ReactedBy (m + n) u t :=
  { pending := g.pending.trans h.pending
    powered := g.powered.trans h.powered
    working := g.working.trans h.working
    settings := g.settings.trans h.settings
    store := g.store.trans h.store
    memory := by rw [g.memory, h.memory]
    writing := g.writing.trans h.writing
    clock := by rw [g.clock, h.clock]
    stillDue := fun x => g.stillDue (h.stillDue x)
    channels := by rw [g.channels, h.channels]
    port := by rw [g.port, h.port]
    slot2 := g.slot2.trans h.slot2
    slot3 := g.slot3.trans h.slot3
    slots := fun i => by
      rcases h.slots i with a | a <;> rcases g.slots i with b | b <;> rw [b, a]
      · exact .inl rfl
      · exact .inr rfl
      · exact .inr rfl
      · exact .inr (slotDue_slotDue _)
    govCeiling := g.govCeiling.trans h.govCeiling
    govStep := g.govStep.trans h.govStep
    monitor := by rw [g.monitor, h.monitor]
    tanks := by rw [g.tanks, h.tanks]
    noFill := fun x => by
      have h1 := h.noFill x
      exact (g.noFill (by rw [h1]; exact x)).trans h1
    forced := g.forced.trans h.forced
    link := by rw [g.link, h.link]
    monitored := g.monitored.trans h.monitored
    reports := fun o x => g.reports o (h.reports o x)
    power := by rw [g.power, h.power]
    lost := fun x => g.lost (h.lost x)
    alarms := fun e x1 x2 x3 => by
      obtain ⟨e', y1, y2, y3, y4, y5⟩ := h.alarms e x1 x2 x3
      obtain ⟨e'', z1, z2, z3, z4, z5⟩ := g.alarms e' y1 y2 y3
      exact ⟨e'', z1, z2, z3, z4.trans y4, z5.trans y5⟩
    posted := by
      obtain ⟨ns, a1, a2, a3, a4⟩ := h.posted
      obtain ⟨ms, b1, b2, b3, b4⟩ := g.posted
      refine ⟨ns ++ ms, by rw [List.length_append]; omega, ?_, ?_, ?_⟩
      · rw [b2, a2, h.clock]; simp [postAll]
      · intro x hx
        rcases List.mem_append.mp hx with hx | hx
        · exact a3 x hx
        · exact b3 x hx
      · intro hu x hx
        rcases List.mem_append.mp hx with hx | hx
        · exact a4 hu x hx
        · exact b4 (h.ignitionOn hu) x hx
    ignited := fun hu => by
      obtain ⟨a1, a2, a3⟩ := h.ignited hu
      obtain ⟨b1, b2, b3⟩ := g.ignited (h.ignitionOn hu)
      exact ⟨b1.trans a1, b2.trans a2, b3.trans a3⟩ }

/-- Fewer notices are at most as many as more. -/
theorem ReactedBy.le {m n : Nat} {u t : State} (h : ReactedBy m u t) (hmn : m ≤ n) : ReactedBy n u t :=
  { h with posted := let ⟨ns, a1, a2⟩ := h.posted; ⟨ns, a1.trans hmn, a2⟩ }

/-- A reaction for whose notices the queue has room keeps every entry of a kind that no reaction posts. -/
theorem ReactedBy.keepsEntry {n : Nat} {u t : State} (h : ReactedBy n u t) (hl : u.notices.entries.length + n ≤ 32)
    (e : Entry) (he : e ∈ u.notices.entries) (hk : e.kind ∉ reactionKinds) : e ∈ t.notices.entries := by
  obtain ⟨ns, a1, a2, a3, -⟩ := h.posted
  rw [a2]
  refine postAll_keepsEntry _ _ _ e he (fun x hx => ?_) (show _ ≤ 32 by omega)
  have hne : e.kind ≠ x.kind := fun h => hk (h ▸ a3 x hx)
  simp [entryMatches, hne]

/-- With the ignition on, a reaction for whose notices the queue has room keeps every PTO_REFUSED. -/
theorem ReactedBy.keepsRefusal {n : Nat} {u t : State} (h : ReactedBy n u t) (hu : IgnitionOn u)
    (hl : u.notices.entries.length + n ≤ 32) (e : Entry) (he : e ∈ u.notices.entries) (hk : e.kind = .ptoRefused) :
    e ∈ t.notices.entries := by
  obtain ⟨ns, a1, a2, -, a4⟩ := h.posted
  rw [a2]
  refine postAll_keepsEntry _ _ _ e he (fun x hx => ?_) (show _ ≤ 32 by omega)
  have hne : NoticeKind.ptoRefused ≠ x.kind := fun h => (a4 hu x hx).1 h.symm
  simp [entryMatches, hk, hne]

/-- The queue's part of a reaction that posts notices. -/
theorem postAll_keeps (now : Uptime) (q : NoticeQueue) (ns : List Notice) :
    ∀ e ∈ q.entries, e.sending = false → e.cls = .alarm →
      ∃ e' ∈ (postAll now q ns).entries, e'.sending = false ∧ e'.cls = .alarm ∧ e'.kind = e.kind ∧
        e'.subject = e.subject :=
  fun e h1 h2 h3 => postAll_alarmWaits now q ns e.kind e.subject ⟨e, h1, h2, h3, rfl, rfl⟩

/-- The brake monitor's reaction. -/
theorem reacted_settleBrake (before s : State) : ReactedBy 0 s (settleBrake before s) :=
  { channels := rfl, pending := rfl, powered := rfl, working := rfl, settings := rfl, store := rfl, memory := rfl,
    writing := rfl, clock := rfl, stillDue := id, port := rfl, slot2 := rfl, slot3 := rfl, slots := fun _ => .inl rfl, govCeiling := rfl,
    govStep := rfl, monitor := rfl, tanks := rfl, noFill := fun _ => rfl, forced := rfl, link := rfl, monitored := rfl,
    reports := fun _ h => h, power := rfl, lost := id, alarms := fun e h1 h2 h3 => ⟨e, h1, h2, h3, rfl, rfl⟩
    posted := ⟨[], Nat.le_refl 0, rfl, by simp, by simp⟩, ignited := fun _ => ⟨rfl, rfl, rfl⟩ }

/-- The end of a fill touches the fill record and WATER alone, and nothing when no fill is active (R139, R140). -/
theorem endFill_frame (now : Uptime) (r : FillReason) (g : TankGauge) :
    (endFill now r g).1 = { g with water := (endFill now r g).1.water, fill := (endFill now r g).1.fill } ∧
    (g.fill.active = false → (endFill now r g).1 = g) := by
  unfold endFill
  split
  · next h => exact ⟨rfl, fun x => by simp [h] at x⟩
  · exact ⟨rfl, fun _ => rfl⟩

/-- The fill's reaction touches the fill record and WATER alone. -/
theorem fillReact_frame (before s : State) :
    (fillReact before s).1 =
      { s.gauge with water := (fillReact before s).1.water, fill := (fillReact before s).1.fill } ∧
    (s.gauge.fill.active = false → (fillReact before s).1 = s.gauge) := by
  unfold fillReact
  split
  · exact endFill_frame _ _ _
  · split
    · exact endFill_frame _ _ _
    · exact ⟨rfl, fun _ => rfl⟩

/-- A state that differs in the gauge's fill, the drives, the power record, a meter write due, the watch mark of a
write in progress and the notices is a reaction. -/
theorem reacted_of_frame {u t : State} (gauge : TankGauge) (pto : Pto) (power : Power) (nv : NonVolatile) (due : Bool)
    (n : Nat) (ns : List Notice) (ht : t = ({ u with gauge, pto, power, nv, time := { u.time with writeDue := due } } : State).post ns)
    (hw : t.working = u.working) (hn : nv = { u.nv with activity := nv.activity })
    (ha : writeCarried nv.activity = writeCarried u.nv.activity)
    (hd : u.time.writeDue = true → due = true)
    (hg : gauge = { u.gauge with water := gauge.water, fill := gauge.fill })
    (hf : u.gauge.fill.active = false → gauge = u.gauge)
    (hp : power = { u.power with state := power.state, entered := power.entered, watchPending := power.watchPending,
                                 watchCause := power.watchCause, rundown := power.rundown })
    (hl : ns.length ≤ n) (hk : ∀ x ∈ ns, x.kind ∈ reactionKinds)
    (hi : IgnitionOn u → (∀ x ∈ ns, x.kind ≠ .ptoRefused ∧ x.kind ≠ .powerState) ∧ power = u.power ∧
      due = u.time.writeDue ∧ nv = u.nv) : ReactedBy n u t := by
  subst ht
  exact
    { pending := rfl, powered := rfl, working := hw, settings := rfl, store := rfl, memory := hn, writing := ha,
      clock := rfl, stillDue := hd, channels := rfl, port := rfl, slot2 := rfl, slot3 := rfl, slots := fun _ => .inl rfl, govCeiling := rfl,
      govStep := rfl, monitor := rfl, tanks := hg, noFill := hf, forced := rfl, link := rfl, monitored := rfl,
      reports := fun _ h => h, power := hp, lost := postAll_lost _ _ _, alarms := postAll_keeps _ _ _
      posted := ⟨ns, hl, rfl, hk, fun hu => (hi hu).1⟩
      ignited := fun hu => by
        obtain ⟨-, h1, h2, h3⟩ := hi hu
        exact ⟨h1, by simp [h2], h3⟩ }

/-- The end of a fill posts at most its FILL_DONE (R139). -/
theorem endFill_posts (now : Uptime) (r : FillReason) (g : TankGauge) :
    (endFill now r g).2.length ≤ 1 ∧ ∀ x ∈ (endFill now r g).2, x.kind = .fillDone := by
  unfold endFill
  split <;> simp [noticeFillDone]

/-- The fill's reaction posts at most FILL_DONE. -/
theorem fillReact_posts (before s : State) :
    (fillReact before s).2.length ≤ 1 ∧ ∀ x ∈ (fillReact before s).2, x.kind = .fillDone := by
  unfold fillReact
  split
  · exact endFill_posts _ _ _
  · split
    · exact endFill_posts _ _ _
    · simp

/-- The fill's reaction. -/
theorem reacted_settleFill (before s : State) : ReactedBy 1 s (settleFill before s) :=
  reacted_of_frame (fillReact before s).1 s.pto s.power s.nv s.time.writeDue 1 (fillReact before s).2 rfl rfl rfl rfl id
    (fillReact_frame before s).1 (fillReact_frame before s).2 rfl (fillReact_posts before s).1
    (fun x hx => by rw [(fillReact_posts before s).2 x hx]; decide)
    (fun _ => ⟨fun x hx => by rw [(fillReact_posts before s).2 x hx]; decide, rfl, rfl, rfl⟩)

/-- What a run of the sequencer posts beyond what it has posted already: at most `n` notices, of the kinds given. -/
def PostsMore (n : Nat) (ks : List NoticeKind) (r r' : PtoRun) : Prop :=
  ∃ ns : List Notice, r'.posts = r.posts ++ ns ∧ ns.length ≤ n ∧ ∀ x ∈ ns, x.kind ∈ ks

/-- Nothing more posted. -/
theorem PostsMore.none {n : Nat} {ks : List NoticeKind} {r r' : PtoRun} (h : r'.posts = r.posts) :
    PostsMore n ks r r' := ⟨[], by simp [h], by simp, by simp⟩

/-- One notice more. -/
theorem PostsMore.one {n : Nat} {ks : List NoticeKind} {r r' : PtoRun} (x : Notice) (h : r'.posts = r.posts ++ [x])
    (hx : x.kind ∈ ks) (hn : 1 ≤ n) : PostsMore n ks r r' := ⟨[x], h, by simpa using hn, by simpa using hx⟩

/-- Two runs one after the other. -/
theorem PostsMore.trans {m n : Nat} {ks : List NoticeKind} {r r' r'' : PtoRun} (h : PostsMore m ks r r')
    (g : PostsMore n ks r' r'') : PostsMore (m + n) ks r r'' := by
  obtain ⟨a, a1, a2, a3⟩ := h
  obtain ⟨b, b1, b2, b3⟩ := g
  refine ⟨a ++ b, by rw [b1, a1, List.append_assoc], by rw [List.length_append]; omega, fun x hx => ?_⟩
  rcases List.mem_append.mp hx with hx | hx
  · exact a3 x hx
  · exact b3 x hx

/-- Entry to RELEASING posts at most PTO_DISENGAGED (R68). -/
theorem enterReleasing_posts (e : PtoEnv) (d : DriveId) (r : PtoRun) {ks : List NoticeKind}
    (hk : .ptoDisengaged ∈ ks) : PostsMore 1 ks r (enterReleasing e d r) := by
  unfold enterReleasing
  split
  · exact .none rfl
  · exact .one (noticePtoDisengaged d) rfl hk (Nat.le_refl 1)

/-- The release of a drive in SETTLING or ENGAGED posts at most PTO_DISENGAGED. -/
theorem releaseDrive_posts (e : PtoEnv) (d : DriveId) (r : PtoRun) {ks : List NoticeKind}
    (hk : .ptoDisengaged ∈ ks) : PostsMore 1 ks r (releaseDrive e d r) := by
  unfold releaseDrive
  split
  · exact .none rfl
  · exact enterReleasing_posts e d r hk

/-- Entry to SHIFTING posts at most PTO_DISENGAGED. -/
theorem enterShifting_posts (e : PtoEnv) (d : DriveId) (r : PtoRun) {ks : List NoticeKind}
    (hk : .ptoDisengaged ∈ ks) : PostsMore 1 ks r (enterShifting e d r) := by
  unfold enterShifting enterSettling releaseInRundown
  dsimp only
  split
  · split
    · exact releaseDrive_posts e d _ hk
    · exact .none rfl
  · exact .none rfl

/-- The arbitration posts at most PTO_DISENGAGED. -/
theorem arbitrate_posts (e : PtoEnv) (m a : Bool) (r r' : PtoRun) (h : arbitrate e m a r = some r') :
    PostsMore 1 [.ptoDisengaged] r r' := by
  unfold arbitrate at h
  split at h
  · cases h; exact enterReleasing_posts e _ r (by simp)
  · split at h
    · cases h; exact enterReleasing_posts e _ r (by simp)
    · split at h
      · cases h; exact enterShifting_posts e _ r (by simp)
      · split at h
        · cases h; exact enterShifting_posts e _ r (by simp)
        · cases h

/-- Setting a pending refusal reason posts nothing. -/
theorem setReason_posts (e : PtoEnv) (d : DriveId) (r : PtoRun) : (setReason e d r).posts = r.posts := by
  unfold setReason
  dsimp only
  split <;> rfl

/-- The checks of an event post at most one PTO_DISENGAGED for each drive they move. -/
theorem checkDrives_posts (e : PtoEnv) (n : Nat) (m a : Bool) (r : PtoRun) :
    PostsMore n [.ptoDisengaged] r (checkDrives e n m a r) := by
  induction n generalizing m a r with
  | zero => exact .none rfl
  | succ n ih =>
    unfold checkDrives
    split
    · next r' hr =>
      rw [Nat.add_comm]
      exact (arbitrate_posts e m a r r' hr).trans (ih true true r')
    · dsimp only
      refine .none ?_
      split <;> split <;> simp [setReason_posts]

/-- The sequencer's reaction posts at most four notices, each PTO_DISENGAGED. -/
theorem ptoReact_posts (before s : State) :
    (ptoReact before s).posts.length ≤ 4 ∧ ∀ x ∈ (ptoReact before s).posts, x.kind ∈ [NoticeKind.ptoDisengaged] := by
  obtain ⟨ns, h1, h2, h3⟩ := checkDrives_posts (ptoEnv s) 4 (sourcesChanged before s .main)
    (sourcesChanged before s .aux) { pto := s.pto, posts := [] }
  have h : (ptoReact before s).posts = ns := by simpa [ptoReact] using h1
  rw [h]; exact ⟨h2, h3⟩

/-- The sequencer's reaction. -/
theorem reacted_settlePto (before s : State) : ReactedBy 4 s (settlePto before s) :=
  have hk : ∀ x ∈ (ptoReact before s).posts, x.kind = .ptoDisengaged := fun x hx => by
    simpa using (ptoReact_posts before s).2 x hx
  reacted_of_frame s.gauge (ptoReact before s).pto s.power s.nv s.time.writeDue 4 (ptoReact before s).posts rfl rfl rfl
    rfl id rfl (fun _ => rfl) rfl (ptoReact_posts before s).1 (fun x hx => by rw [hk x hx]; decide)
    (fun _ => ⟨fun x hx => by rw [hk x hx]; decide, rfl, rfl, rfl⟩)

/-- The kinds that a release of a drive posts (R59, R68). -/
def releaseKinds : List NoticeKind := [.ptoDisengaged, .ptoRefused]

/-- A release that waives the engine and gear conditions posts at most one notice. -/
theorem dropDrive_posts (e : PtoEnv) (d : DriveId) (reason : Reason) (r : PtoRun) :
    PostsMore 1 releaseKinds r (dropDrive e d reason r) := by
  unfold dropDrive waiveRelease
  dsimp only
  split
  · exact releaseDrive_posts e d r (by decide)
  · exact releaseDrive_posts e d r (by decide)
  · split
    · exact enterReleasing_posts e d _ (by decide)
    · exact .none (setReason_posts e d _)
  · exact enterReleasing_posts e d r (by decide)
  · exact .one (noticePtoRefused d (some reason)) rfl (by simp [noticePtoRefused, releaseKinds]) (Nat.le_refl 1)
  · exact .none rfl

/-- The rundown release posts at most one notice for each drive. -/
theorem rundownRelease_posts (e : PtoEnv) (r : PtoRun) : PostsMore 2 releaseKinds r (rundownRelease e r) :=
  (dropDrive_posts e .main .powerState r).trans (dropDrive_posts e .aux .powerState _)

/-- The watch mark taken off a write in progress leaves what it carries. -/
theorem cancelWatchWrite_frame (n : NonVolatile) :
    cancelWatchWrite n = { n with activity := (cancelWatchWrite n).activity } ∧
    writeCarried (cancelWatchWrite n).activity = writeCarried n.activity := by
  unfold cancelWatchWrite
  split
  · next h => exact ⟨rfl, by rw [h]; rfl⟩
  · exact ⟨rfl, rfl⟩

/-- Everything the power controller's reaction can do (R190, R191): nothing, an entry to RUNDOWN, a return from it, or
the start of the way to WATCH. -/
theorem powerReact_cases (s : State) :
    powerReact s = s ∨ (s.power.state = .awake ∧ powerReact s = enterRundown s) ∨
    (s.power.state = .rundown ∧ powerReact s = leaveRundown s) ∨
    (s.working = s.powered ∧ ∃ c, powerReact s = towardWatch c s) := by
  unfold powerReact
  split
  · split
    · next hp =>
      split
      · exact .inr (.inl ⟨hp, rfl⟩)
      · split
        · exact .inr (.inr (.inr ⟨by simp [State.working, working, hp], _, rfl⟩))
        · exact .inl rfl
    · next hp =>
      split
      · exact .inr (.inr (.inl ⟨hp, rfl⟩))
      · split
        · exact .inr (.inr (.inr ⟨by simp [State.working, working, hp], _, rfl⟩))
        · exact .inl rfl
    · exact .inl rfl
  · exact .inl rfl

/-- With the ignition on the power controller does nothing. -/
theorem powerReact_on (s : State) (h : s.power.state = .awake) (h8 : s.level 8 = true) : powerReact s = s := by
  unfold powerReact
  split
  · rw [h]; simp [awakeToWatch, h8]
  · rfl

/-- Entry to RUNDOWN posts at most four notices (R191). -/
theorem enterRundown_posts (e : PtoEnv) (p : Pto) (now : Uptime) (r : FillReason) (g : TankGauge)
    (x0 : Notice) (h0 : x0.kind = .powerState) :
    let ns := x0 :: (rundownRelease e { pto := p, posts := [] }).posts ++ (endFill now r g).2
    ns.length ≤ 4 ∧ ∀ x ∈ ns, x.kind ∈ reactionKinds := by
  obtain ⟨ps, h1, h2, h3⟩ := rundownRelease_posts e { pto := p, posts := [] }
  obtain ⟨f1, f2⟩ := endFill_posts now r g
  simp only [List.nil_append] at h1
  rw [h1]
  refine ⟨by simp; omega, fun x hx => ?_⟩
  simp only [List.cons_append, List.mem_cons, List.mem_append] at hx
  rcases hx with rfl | hx | hx
  · rw [h0]; decide
  · have := h3 x hx
    simp only [releaseKinds, List.mem_cons, List.not_mem_nil, or_false] at this
    rcases this with h | h <;> rw [h] <;> decide
  · rw [f2 x hx]; decide

/-- The power controller's reaction. -/
theorem reacted_powerReact (s : State) : ReactedBy 4 s (powerReact s) := by
  by_cases hi : IgnitionOn s
  · rw [powerReact_on s hi.2.1 hi.2.2]; exact (ReactedBy.refl s).le (by omega)
  rcases powerReact_cases s with h | ⟨hp, h⟩ | ⟨hp, h⟩ | ⟨-, c, h⟩
  · rw [h]; exact (ReactedBy.refl s).le (by omega)
  · rw [h]
    refine reacted_of_frame _ _ _ (cancelWatchWrite s.nv) s.time.writeDue 4 _ rfl ?_
      (cancelWatchWrite_frame s.nv).1 (cancelWatchWrite_frame s.nv).2 id (endFill_frame _ _ _).1 (endFill_frame _ _ _).2
      rfl (enterRundown_posts _ _ _ _ _ _ rfl).1 (enterRundown_posts _ _ _ _ _ _ rfl).2 (fun x => absurd x hi)
    simp [enterRundown, State.working, working, hp]
  · rw [h]
    refine reacted_of_frame s.gauge s.pto _ (cancelWatchWrite s.nv) s.time.writeDue 4 _ rfl ?_
      (cancelWatchWrite_frame s.nv).1 (cancelWatchWrite_frame s.nv).2 id rfl (fun _ => rfl) rfl (by simp)
      (by simp [noticePowerState, reactionKinds]) (fun x => absurd x hi)
    simp [leaveRundown, State.working, working, hp]
  · rw [h]
    exact reacted_of_frame s.gauge s.pto _ s.nv true 4 [] rfl rfl rfl rfl (fun _ => rfl) rfl (fun _ => rfl) rfl
      (by simp) (by simp) (fun x => absurd x hi)

/-- The stop timer's expiry takes ROLL to IDLE at idle_rpm, the resume mode kept, and changes nothing else (R83). -/
theorem expireStop_roll (c : GovSettings) (g : Governor) (h : g.mode = .roll) :
    expireStop c g = { g with mode := .idle, request := c.idleRpm, stop := none } := by
  simp [expireStop, h]

/-- A drive that becomes governed from OFF finds the request at idle_rpm, in IDLE and in ROLL (R80, R82). -/
theorem changeGoverned_request_from_off (s : State) (d : DriveId) (g : Governor) (hn : g.governed = none)
    (hm : g.mode = .off) : (changeGoverned s (some d) g).request = s.settings.gov.idleRpm := by
  simp only [changeGoverned, hn, requestWhenGoverned, hm]
  split <;> rfl

/-- A drive that becomes governed otherwise finds the request kept, unless it brings ROLL (R80 to R82). -/
theorem changeGoverned_request_kept (s : State) (d : DriveId) (g : Governor) (hm : g.mode ≠ .off)
    (hr : d = .main ∨ s.stationary = true) : (changeGoverned s (some d) g).request = g.request := by
  have h : ¬ (d = .aux ∧ s.stationary = false) := by rintro ⟨rfl, h⟩; simp_all
  cases hg : g.governed <;> simp only [changeGoverned, hg, requestWhenGoverned, if_neg hm, if_neg h]

/-- The end of a governor's turn keeps its stored ceiling and the timer of its steps. -/
theorem governorReact_frame (s : State) :
    (governorReact s).1.ceiling = s.gov.ceiling ∧ (governorReact s).1.next = s.gov.next := by
  have h1 : (followPath s s.gov).1.ceiling = s.gov.ceiling ∧ (followPath s s.gov).1.next = s.gov.next := by
    unfold followPath
    dsimp only
    split
    · split <;> exact ⟨rfl, rfl⟩
    · exact ⟨rfl, rfl⟩
  have h2 (g : Governor) (n : Option DriveId) :
      (changeGoverned s n g).ceiling = g.ceiling ∧ (changeGoverned s n g).next = g.next := by
    unfold changeGoverned
    split <;> try dsimp only
    · split <;> exact ⟨rfl, rfl⟩
    · split <;> exact ⟨rfl, rfl⟩
    · split <;> exact ⟨rfl, rfl⟩
    · exact ⟨rfl, rfl⟩
  have h3 (g : Governor) : (leaveWindDown s g).ceiling = g.ceiling ∧ (leaveWindDown s g).next = g.next := by
    unfold leaveWindDown
    split
    · exact ⟨rfl, rfl⟩
    · split <;> exact ⟨rfl, rfl⟩
  have h4 (g : Governor) : (rollWithAux s g).ceiling = g.ceiling ∧ (rollWithAux s g).next = g.next := by
    unfold rollWithAux
    split <;> exact ⟨rfl, rfl⟩
  have h5 (g : Governor) : (watchForStop s g).ceiling = g.ceiling ∧ (watchForStop s g).next = g.next := by
    unfold watchForStop
    split
    · split
      · split <;> exact ⟨rfl, rfl⟩
      · exact ⟨rfl, rfl⟩
    · exact ⟨rfl, rfl⟩
  unfold governorReact
  dsimp only
  rw [(h5 _).1, (h5 _).2, (h4 _).1, (h4 _).2, (h3 _).1, (h3 _).2]
  split
  · exact h1
  · rw [(h2 _ _).1, (h2 _ _).2]; exact h1

/-- The governor's reaction posts at most THROTTLE_PATH_LOST (R85). -/
theorem governorReact_posts (s : State) :
    (governorReact s).2.length ≤ 1 ∧ ∀ x ∈ (governorReact s).2, x.kind = .throttlePathLost := by
  have h : (governorReact s).2 = (followPath s s.gov).2 := rfl
  rw [h]
  unfold followPath
  dsimp only
  split
  · split <;> simp [noticeThrottlePathLost]
  · simp

/-- The governor's reaction. -/
theorem reacted_settleGovernor (s : State) : ReactedBy 1 s (settleGovernor s) :=
  { pending := by simp, powered := by simp, working := by simp [State.working], settings := by simp, store := by simp
    memory := by simp, writing := by simp, clock := by simp, stillDue := by simp, channels := by simp, port := by simp
    slot2 := by simp, slot3 := by simp, slots := by simp
    govCeiling := by rw [settleGovernor_gov]; exact (governorReact_frame s).1
    govStep := by rw [settleGovernor_gov]; exact (governorReact_frame s).2
    monitor := by simp, tanks := by simp, noFill := by simp, forced := by simp, link := by simp, monitored := by simp
    reports := by simp, power := by simp
    lost := by rw [settleGovernor_notices]; exact postAll_lost _ _ _
    alarms := by rw [settleGovernor_notices]; exact postAll_keeps _ _ _
    posted := ⟨(governorReact s).2, (governorReact_posts s).1, settleGovernor_notices s,
      fun x hx => by rw [(governorReact_posts s).2 x hx]; decide,
      fun _ x hx => by rw [(governorReact_posts s).2 x hx]; decide⟩
    ignited := by simp }

/-- The protection monitor's reaction. -/
theorem reacted_settleProtection (before s : State) : ReactedBy 0 s (settleProtection before s) :=
  { pending := rfl, powered := rfl, working := rfl, settings := rfl, store := rfl, memory := rfl, writing := rfl,
    clock := rfl, stillDue := id, channels := rfl, port := rfl, slot2 := rfl, slot3 := rfl, slots := fun _ => .inl rfl, govCeiling := rfl,
    govStep := rfl, monitor := rfl, tanks := rfl, noFill := fun _ => rfl, forced := rfl, link := rfl, monitored := rfl,
    reports := fun _ h => h, power := rfl, lost := id, alarms := fun e h1 h2 h3 => ⟨e, h1, h2, h3, rfl, rfl⟩
    posted := ⟨[], Nat.le_refl 0, rfl, by simp, by simp⟩, ignited := fun _ => ⟨rfl, rfl, rfl⟩ }

/-- The lockout unit's reaction keeps what FORCE last asked. -/
theorem lockoutReact_forced (s : State) : (lockoutReact s).1.forced = s.lock.forced := rfl

/-- An action's change posts at most LOCKOUT (R155). -/
theorem lockoutNotice_posts (a : ActionId) (old new : Action) :
    (lockoutNotice a old new).length ≤ 1 ∧ ∀ x ∈ lockoutNotice a old new, x.kind = .lockout := by
  unfold lockoutNotice
  split <;> simp [noticeLockout]

/-- The driving-with-condition field posts at most its own notice (R160). -/
theorem drivingNotice_posts (speed : Int) (i : Action) (old new : Option (Fin 11)) :
    (drivingNotice speed i old new).length ≤ 1 ∧ ∀ x ∈ drivingNotice speed i old new, x.kind = .drivingWithCondition := by
  unfold drivingNotice
  split
  · simp
  · split <;> simp [noticeDriving]

/-- The lockout unit's reaction posts at most four notices (R155, R160). -/
theorem lockoutReact_posts (s : State) :
    (lockoutReact s).2.length ≤ 4 ∧
    ∀ x ∈ (lockoutReact s).2, x.kind = .lockout ∨ x.kind = .drivingWithCondition := by
  unfold lockoutReact evaluateActions
  dsimp only
  generalize respond s.time.uptime s.settings.lock.inhibit _ _ _ _ _ _ = i
  generalize respond s.time.uptime s.settings.lock.rollLimit _ _ _ _ _ _ = r
  generalize respond s.time.uptime s.settings.lock.idleCap _ _ _ _ _ _ = k
  have hi := lockoutNotice_posts .inhibit s.lock.inhibit i
  have hr := lockoutNotice_posts .rollLimit s.lock.rollLimit r
  have hk := lockoutNotice_posts .idleCap s.lock.idleCap k
  have hd := drivingNotice_posts s.speedValue i s.lock.driving (drivingField s.vehicle i)
  refine ⟨by simp only [List.length_append]; omega, fun x hx => ?_⟩
  simp only [List.mem_append] at hx
  rcases hx with ((hx | hx) | hx) | hx
  · exact .inl (hi.2 x hx)
  · exact .inl (hr.2 x hx)
  · exact .inl (hk.2 x hx)
  · exact .inr (hd.2 x hx)

/-- The lockout unit's reaction. -/
theorem reacted_settleLockout (s : State) : ReactedBy 4 s (settleLockout s) :=
  { pending := rfl, powered := rfl, working := rfl, settings := rfl, store := rfl, memory := rfl, writing := rfl,
    clock := rfl, stillDue := id, channels := rfl, port := rfl, slot2 := rfl, slot3 := rfl, slots := fun _ => .inl rfl, govCeiling := rfl,
    govStep := rfl, monitor := rfl, tanks := rfl, noFill := fun _ => rfl
    forced := lockoutReact_forced s
    link := rfl, monitored := rfl, reports := fun _ h => h, power := rfl, lost := postAll_lost _ _ _
    alarms := postAll_keeps _ _ _
    posted := ⟨(lockoutReact s).2, (lockoutReact_posts s).1, rfl,
      fun x hx => by rcases (lockoutReact_posts s).2 x hx with h | h <;> rw [h] <;> decide,
      fun _ x hx => by rcases (lockoutReact_posts s).2 x hx with h | h <;> rw [h] <;> decide⟩
    ignited := fun _ => ⟨rfl, rfl, rfl⟩ }

/-- A slot falling due changes the slots alone, and no other slot (R35). -/
theorem fallDue_frame (c : Settings) (i : Fin 4) (ch : Chassis) :
    fallDue c i ch = { ch with tx := (fallDue c i ch).tx } ∧
    ∀ j : Fin 4, j ≠ i → (fallDue c i ch).tx[j] = ch.tx[j] := by
  unfold fallDue
  split
  · refine ⟨rfl, fun j hj => ?_⟩
    have : i.val ≠ j.val := fun h => hj (Fin.ext h.symm)
    simp [this]
  · exact ⟨rfl, fun _ _ => rfl⟩

/-- A slot falling due leaves each slot as it is or puts it where R35 says. -/
theorem fallDue_slots (c : Settings) (i : Fin 4) (ch : Chassis) (j : Fin 4) :
    (fallDue c i ch).tx[j] = ch.tx[j] ∨ (fallDue c i ch).tx[j] = slotDue (ch.tx[j]) := by
  by_cases h : j = i
  · subst h
    unfold fallDue
    split
    · exact .inr (by simp)
    · exact .inl rfl
  · exact .inl ((fallDue_frame c i ch).2 j h)

/-- The port's reaction leaves each slot as it is or makes it fall due (R35). -/
theorem chassisReact_slots (before s : State) (j : Fin 4) :
    (chassisReact before s).tx[j] = s.chassis.tx[j] ∨ (chassisReact before s).tx[j] = slotDue (s.chassis.tx[j]) := by
  have h1 (ch : Chassis) : (followThrottle before s ch).tx[j] = ch.tx[j] ∨
      (followThrottle before s ch).tx[j] = slotDue (ch.tx[j]) := by
    unfold followThrottle
    split
    · exact fallDue_slots _ 0 { ch with t0 := startTimer s.time.uptime 20 } j
    · split
      · exact fallDue_slots _ 0 { ch with t0 := none } j
      · exact .inl rfl
  have h2 (ch : Chassis) : (followInterlock before s ch).tx[j] = ch.tx[j] ∨
      (followInterlock before s ch).tx[j] = slotDue (ch.tx[j]) := by
    unfold followInterlock
    split
    · exact fallDue_slots _ 1 ch j
    · exact .inl rfl
  unfold chassisReact
  rcases h1 s.chassis with a | a <;> rcases h2 (followThrottle before s s.chassis) with b | b <;> rw [b, a]
  · exact .inl rfl
  · exact .inr rfl
  · exact .inr rfl
  · exact .inr (slotDue_slotDue _)

/-- The port's reaction changes T0 and T1 and the timer of T0 alone. -/
theorem chassisReact_frame (before s : State) :
    chassisReact before s =
      { s.chassis with tx := (chassisReact before s).tx, t0 := (chassisReact before s).t0 } ∧
    (chassisReact before s).tx[(2 : Fin 4)] = s.chassis.tx[(2 : Fin 4)] ∧
    (chassisReact before s).tx[(3 : Fin 4)] = s.chassis.tx[(3 : Fin 4)] := by
  have h1 (ch : Chassis) :
      followThrottle before s ch =
        { ch with tx := (followThrottle before s ch).tx, t0 := (followThrottle before s ch).t0 } ∧
      (followThrottle before s ch).tx[(2 : Fin 4)] = ch.tx[(2 : Fin 4)] ∧
      (followThrottle before s ch).tx[(3 : Fin 4)] = ch.tx[(3 : Fin 4)] := by
    unfold followThrottle
    split
    · have h := fallDue_frame s.settings 0 { ch with t0 := startTimer s.time.uptime 20 }
      refine ⟨?_, h.2 2 (by decide), h.2 3 (by decide)⟩
      rw [h.1]
    · split
      · have h := fallDue_frame s.settings 0 { ch with t0 := none }
        refine ⟨?_, h.2 2 (by decide), h.2 3 (by decide)⟩
        rw [h.1]
      · exact ⟨rfl, rfl, rfl⟩
  have h2 (ch : Chassis) :
      followInterlock before s ch = { ch with tx := (followInterlock before s ch).tx } ∧
      (followInterlock before s ch).tx[(2 : Fin 4)] = ch.tx[(2 : Fin 4)] ∧
      (followInterlock before s ch).tx[(3 : Fin 4)] = ch.tx[(3 : Fin 4)] := by
    unfold followInterlock
    split
    · have h := fallDue_frame s.settings 1 ch
      exact ⟨h.1, h.2 2 (by decide), h.2 3 (by decide)⟩
    · exact ⟨rfl, rfl, rfl⟩
  unfold chassisReact
  have a := h1 s.chassis
  have b := h2 (followThrottle before s s.chassis)
  refine ⟨?_, b.2.1.trans a.2.1, b.2.2.trans a.2.2⟩
  rw [b.1, a.1]

/-- The chassis port's reaction. -/
theorem reacted_settleChassis (before s : State) : ReactedBy 0 s (settleChassis before s) :=
  { pending := rfl, powered := rfl, working := rfl, settings := rfl, store := rfl, memory := rfl, writing := rfl,
    clock := rfl, stillDue := id, channels := rfl
    port := (chassisReact_frame before s).1
    slot2 := (chassisReact_frame before s).2.1
    slot3 := (chassisReact_frame before s).2.2
    slots := chassisReact_slots before s
    govCeiling := rfl, govStep := rfl, monitor := rfl, tanks := rfl, noFill := fun _ => rfl, forced := rfl, link := rfl
    monitored := rfl, reports := fun _ h => h, power := rfl, lost := id
    alarms := fun e h1 h2 h3 => ⟨e, h1, h2, h3, rfl, rfl⟩
    posted := ⟨[], Nat.le_refl 0, rfl, by simp, by simp⟩, ignited := fun _ => ⟨rfl, rfl, rfl⟩ }

/-- A change of a monitored record marks its item or makes a report ready, and takes no report back (R176). -/
theorem noteChange_frame (l : Link) (o : Obj) :
    noteChange l o = { l with monitors := (noteChange l o).monitors, ready := (noteChange l o).ready } ∧
    (noteChange l o).monitors.map (fun m => (m.ref, m.spacing)) = l.monitors.map (fun m => (m.ref, m.spacing)) ∧
    ∀ x ∈ l.ready, x ∈ (noteChange l o).ready := by
  unfold noteChange
  split
  · exact ⟨rfl, rfl, fun _ h => h⟩
  · split
    · refine ⟨rfl, ?_, fun _ h => h⟩
      simp only [List.map_map]
      refine List.map_congr_left (fun m _ => ?_)
      simp only [Function.comp_apply]
      split <;> rfl
    · exact ⟨rfl, rfl, fun x h => by simp [h]⟩

/-- The monitors' reaction changes marks and adds ready reports alone. -/
theorem monitorReact_frame (before s : State) :
    monitorReact before s =
      { s.link with monitors := (monitorReact before s).monitors, ready := (monitorReact before s).ready } ∧
    (monitorReact before s).monitors.map (fun m => (m.ref, m.spacing)) =
      s.link.monitors.map (fun m => (m.ref, m.spacing)) ∧
    ∀ x ∈ s.link.ready, x ∈ (monitorReact before s).ready := by
  have h (ms : List MonItem) (l : Link) :
      let f := ms.foldl (fun l m => if recordChanged before s m.ref then noteChange l m.ref else l) l
      f = { l with monitors := f.monitors, ready := f.ready } ∧
      f.monitors.map (fun m => (m.ref, m.spacing)) = l.monitors.map (fun m => (m.ref, m.spacing)) ∧
      ∀ x ∈ l.ready, x ∈ f.ready := by
    induction ms generalizing l with
    | nil => exact ⟨rfl, rfl, fun _ h => h⟩
    | cons m ms ih =>
      simp only [List.foldl_cons]
      split
      · have a := noteChange_frame l m.ref
        have b := ih (noteChange l m.ref)
        refine ⟨?_, b.2.1.trans a.2.1, fun x hx => b.2.2 x (a.2.2 x hx)⟩
        have b1 := b.1
        rw [a.1] at b1
        rw [a.1]
        exact b1
      · exact ih l
  exact h s.link.monitors s.link

/-- The monitors' reaction. -/
theorem reacted_settleMonitors (before s : State) : ReactedBy 0 s (settleMonitors before s) :=
  { pending := rfl, powered := rfl, working := rfl, settings := rfl, store := rfl, memory := rfl, writing := rfl,
    clock := rfl, stillDue := id, channels := rfl, port := rfl, slot2 := rfl, slot3 := rfl, slots := fun _ => .inl rfl, govCeiling := rfl,
    govStep := rfl, monitor := rfl, tanks := rfl, noFill := fun _ => rfl, forced := rfl
    link := (monitorReact_frame before s).1
    monitored := (monitorReact_frame before s).2.1
    reports := (monitorReact_frame before s).2.2
    power := rfl, lost := id, alarms := fun e h1 h2 h3 => ⟨e, h1, h2, h3, rfl, rfl⟩
    posted := ⟨[], Nat.le_refl 0, rfl, by simp, by simp⟩, ignited := fun _ => ⟨rfl, rfl, rfl⟩ }

/-- Outputs refreshed. -/
theorem reacted_refreshOutputs (s : State) : ReactedBy 0 s (refreshOutputs s) :=
  { pending := rfl, powered := rfl, working := rfl, settings := rfl, store := rfl, memory := rfl, writing := rfl,
    clock := rfl, stillDue := id, channels := rfl, port := rfl, slot2 := rfl, slot3 := rfl, slots := fun _ => .inl rfl, govCeiling := rfl,
    govStep := rfl, monitor := rfl, tanks := rfl, noFill := fun _ => rfl, forced := rfl, link := rfl, monitored := rfl,
    reports := fun _ h => h, power := rfl, lost := id, alarms := fun e h1 h2 h3 => ⟨e, h1, h2, h3, rfl, rfl⟩
    posted := ⟨[], Nat.le_refl 0, rfl, by simp, by simp⟩, ignited := fun _ => ⟨rfl, rfl, rfl⟩ }

/-- The readers' reaction to an event's own changes. -/
theorem reacted_settleReaders (before s : State) : ReactedBy 4 s (settleReaders before s) :=
  (reacted_settleLockout s).trans <| (reacted_settleChassis before _).trans <| reacted_settleMonitors before _

/-- What the power controller, the sequencer and their readers do. -/
theorem reacted_settleRest (before s : State) : ReactedBy 17 s (settleRest before s) :=
  (reacted_powerReact s).trans <| (reacted_settlePto before _).trans <| (reacted_powerReact _).trans <|
  (reacted_settleGovernor _).trans <| (reacted_settleProtection before _).trans <| (reacted_settleLockout _).trans <|
  (reacted_settleChassis s _).trans <| (reacted_refreshOutputs _).trans <| reacted_settleMonitors s _

/-- Everything that follows within an event of a working part is a reaction. -/
theorem reacted_settleWorking (before s : State) : Reacted s (settleWorking before s) :=
  (reacted_settleBrake before s).trans <| (reacted_settleFill before _).trans <| (reacted_settleReaders before _).trans <|
  reacted_settleRest before _

/-- Everything that follows within an event is a reaction. -/
theorem reacted_settle (before s : State) : Reacted s (settle before s) := by
  unfold settle
  split
  · exact reacted_settleWorking before s
  · exact (reacted_refreshOutputs s).le (by omega)

/-- A part without supply does not work. -/
theorem working_powered (s : State) (h : s.working = true) : s.powered = true := by
  simp only [State.working, Bool.and_eq_true] at h
  exact h.1

/-- An event is its own effect, if the part has supply, and a reaction. -/
theorem event_reacted_any (f : State → State) (s : State) : Reacted (if s.powered then f s else s) (event f s) := by
  unfold event
  split
  · exact reacted_settle s (f s)
  · exact (ReactedBy.refl s).le (by omega)

/-- An event of a working part is its own effect, if the part works, and a reaction. -/
theorem workingEvent_reacted_any (f : State → State) (s : State) :
    Reacted (if s.working then f s else s) (workingEvent f s) := by
  have h := event_reacted_any (fun s => if s.working then f s else s) s
  by_cases hp : s.powered = true
  · rwa [if_pos hp] at h
  · have hw : ¬ s.working = true := fun x => hp (working_powered s x)
    rw [if_neg hp] at h
    rwa [if_neg hw]

/-- A request is its handler's answer delivered, if it may execute, and a reaction (R168). -/
theorem request_reacted_any (f : HostFrame) (h : State → Answer) (s : State) :
    Reacted (if mayExecute f s then deliver f.tag (h (takeRequest s)) else s) (request f h s) := by
  have g := workingEvent_reacted_any (fun s => if mayExecute f s then deliver f.tag (h (takeRequest s)) else s) s
  by_cases hw : s.working = true
  · rwa [if_pos hw] at g
  · have hm : ¬ mayExecute f s = true := fun x => by
      simp only [mayExecute, linkFree, Bool.and_eq_true] at x
      exact hw x.1.1.1.1
    rw [if_neg hw] at g
    rwa [if_neg hm]

/-- An event of a part with supply is its own effect and a reaction. -/
theorem event_reacted (f : State → State) (s : State) (h : s.powered = true) : Reacted (f s) (event f s) := by
  simpa [h] using event_reacted_any f s

/-- An event of a working part is its own effect and a reaction. -/
theorem workingEvent_reacted (f : State → State) (s : State) (h : s.working = true) :
    Reacted (f s) (workingEvent f s) := by
  simpa [h] using workingEvent_reacted_any f s

/-- A request that may execute is its handler's answer delivered and a reaction (R168). -/
theorem request_reacted (f : HostFrame) (h : State → Answer) (s : State) (hs : mayExecute f s = true) :
    Reacted (deliver f.tag (h (takeRequest s))) (request f h s) := by
  simpa [hs] using request_reacted_any f h s

end Sys2Proof.Machine
end

