-- ==== Sys2Proof/Laws/Drives.lean ====
section
/-! SUPPORT. What the reactions to an event leave of a drive: with the ignition on, the sequencer's reaction alone decides;
a drive that waits for no check keeps its record but for the ready flag; and one at rest keeps it in every working part. -/

namespace Sys2Proof.Machine

/-- Whether a source of a drive's checks has changed, on two states that agree in what the checks read. -/
theorem sourcesChanged_congr {b s t : State} (hs : t.settings = s.settings) (hr : t.chassis.rx = s.chassis.rx)
    (hd : t.inputs.discrete = s.inputs.discrete) (hp : t.pto = s.pto) (hw : t.power = s.power) (d : DriveId) :
    sourcesChanged b t d = sourcesChanged b s d := by
  unfold sourcesChanged sharedSourceChanged requestSourceChanged acceptedChange State.quantity State.level usableQuantity
  rw [hs, hr, hd, hp, hw]

/-- The sequencer's view of two states that agree in what it reads. -/
theorem ptoEnv_congr {s t : State} (hn : t.time = s.time) (hs : t.settings = s.settings) (hr : t.chassis.rx = s.chassis.rx)
    (hi : t.inputs.discrete = s.inputs.discrete) (hu : t.inputs.pulse = s.inputs.pulse) (hw : t.power = s.power) :
    ptoEnv t = ptoEnv s := by
  unfold ptoEnv State.stationary State.vehicle vehicleOf State.quantity State.level usableQuantity
  rw [hn, hs, hr, hi, hu, hw]

/-- The sequencer's reaction in two states that agree in what it reads. -/
theorem ptoReact_congr {b s t : State} (hn : t.time = s.time) (hs : t.settings = s.settings)
    (hr : t.chassis.rx = s.chassis.rx) (hi : t.inputs.discrete = s.inputs.discrete) (hu : t.inputs.pulse = s.inputs.pulse)
    (hw : t.power = s.power) (hp : t.pto = s.pto) : ptoReact b t = ptoReact b s := by
  unfold ptoReact
  rw [ptoEnv_congr hn hs hr hi hu hw, sourcesChanged_congr hs hr hi hp hw, sourcesChanged_congr hs hr hi hp hw, hp]

/-- The reactions before the sequencer's own leave the receive slots. -/
theorem settleReaders_rx (b m s : State) :
    (settleReaders m (settleFill b (settleBrake b s))).chassis.rx = s.chassis.rx := by
  have h := (chassisReact_frame m (settleLockout (settleFill b (settleBrake b s)))).1
  show (chassisReact m (settleLockout (settleFill b (settleBrake b s)))).rx = _
  rw [h]; rfl

/-- With the ignition on, the drives after an event are what the sequencer's reaction makes of them. -/
theorem settle_pto (b s : State) (hw : s.working = true) (h : s.power.state = .awake) (h8 : s.level 8 = true) :
    (settle b s).pto = (ptoReact b s).pto := by
  have hs : settle b s = settleWorking b s := if_pos hw
  rw [hs]
  unfold settleWorking settleRest
  have e0 : (settleReaders b (settleFill b (settleBrake b s))).power.state = .awake := by simpa using h
  have e8 : (settleReaders b (settleFill b (settleBrake b s))).level 8 = true := by
    simpa [State.level] using h8
  have e1 : powerReact (settleReaders b (settleFill b (settleBrake b s))) =
      settleReaders b (settleFill b (settleBrake b s)) := powerReact_on _ e0 e8
  have e2 : powerReact (settlePto b (settleReaders b (settleFill b (settleBrake b s)))) =
      settlePto b (settleReaders b (settleFill b (settleBrake b s))) :=
    powerReact_on _ (by simpa using e0) (by simpa [State.level] using e8)
  dsimp only
  rw [e1, e2]
  simp only [settleMonitors_pto, refreshOutputs_pto, settleChassis_pto, settleLockout_pto, settleProtection_pto,
    settleGovernor_pto, settlePto_pto]
  rw [ptoReact_congr (s := s) (by simp) (by simp) (settleReaders_rx b b s) (by simp) (by simp) (by simp) (by simp)]

/-- A drive that waits for no check. -/
def inert (x : Drive) : Prop := x.state ≠ .requested ∧ x.state ≠ .windingDown

/-- A drive just replaced. -/
@[simp] theorem drive_setDrive (p : Pto) (d : DriveId) (x : Drive) : (p.setDrive d x).drive d = x := by cases d <;> rfl
/-- A drive after the other was replaced. -/
@[simp] theorem drive_setDrive_other (p : Pto) (d : DriveId) (x : Drive) :
    (p.setDrive (otherDrive d) x).drive d = p.drive d := by cases d <;> rfl
/-- The other drive after one was replaced. -/
@[simp] theorem drive_setDrive_other' (p : Pto) (d : DriveId) (x : Drive) :
    (p.setDrive d x).drive (otherDrive d) = p.drive (otherDrive d) := by cases d <;> rfl

/-- Entry to RELEASING leaves the other drive. -/
theorem enterReleasing_other (e : PtoEnv) (d : DriveId) (r : PtoRun) :
    (enterReleasing e (otherDrive d) r).pto.drive d = r.pto.drive d := by
  unfold enterReleasing
  split <;> simp [enterDisengaged, PtoRun.put, PtoRun.say]

/-- Entry to SHIFTING leaves the other drive. -/
theorem enterShifting_other (e : PtoEnv) (d : DriveId) (r : PtoRun) :
    (enterShifting e (otherDrive d) r).pto.drive d = r.pto.drive d := by
  unfold enterShifting enterSettling releaseInRundown releaseDrive
  dsimp only
  split
  · split
    · split
      · simp [enterWindingDown, PtoRun.put]
      · rw [enterReleasing_other]; simp [PtoRun.put]
    · simp [PtoRun.put]
  · simp [PtoRun.put]

/-- The arbitration leaves a drive that waits for no check. -/
theorem arbitrate_inert (e : PtoEnv) (m a : Bool) (r r' : PtoRun) (d : DriveId) (h : inert (r.pto.drive d))
    (ha : arbitrate e m a r = some r') : r'.pto.drive d = r.pto.drive d := by
  unfold arbitrate at ha
  have hm : mayRelease e r.pto d = false := by
    simp only [mayRelease, Bool.and_eq_false_iff, decide_eq_false_iff_not]; exact .inl h.2
  have hs : mayShift e r.pto d = false := by
    simp only [mayShift, Bool.and_eq_false_iff, decide_eq_false_iff_not]; exact .inl h.1
  cases d with
  | main =>
    simp only [hm, hs, Bool.and_false, Bool.false_eq_true, if_false] at ha
    split at ha
    · cases ha; exact enterReleasing_other e .main r
    · split at ha
      · cases ha; exact enterShifting_other e .main r
      · cases ha
  | aux =>
    simp only [hm, hs, Bool.and_false, Bool.false_eq_true, if_false] at ha
    split at ha
    · cases ha; exact enterReleasing_other e .aux r
    · split at ha
      · cases ha; exact enterShifting_other e .aux r
      · cases ha

/-- Setting reasons leaves a drive that waits for no check. -/
theorem setReason_inert (e : PtoEnv) (k d : DriveId) (r : PtoRun) (h : inert (r.pto.drive d)) :
    (setReason e k r).pto.drive d = r.pto.drive d := by
  unfold setReason
  dsimp only
  split <;> cases d <;> cases k <;> simp_all [inert, PtoRun.put, Pto.setDrive, Pto.drive]

/-- The checks of an event leave a drive that waits for no check. -/
theorem checkDrives_inert (e : PtoEnv) (n : Nat) (m a : Bool) (r : PtoRun) (d : DriveId) (h : inert (r.pto.drive d)) :
    (checkDrives e n m a r).pto.drive d = r.pto.drive d := by
  induction n generalizing m a r with
  | zero => rfl
  | succ n ih =>
    unfold checkDrives
    split
    · next r' hr =>
      have := arbitrate_inert e m a r r' d h hr
      rw [ih true true r' (by rw [this]; exact h), this]
    · dsimp only
      have h1 : ((if m then setReason e .main r else r).pto.drive d) = r.pto.drive d := by
        split
        · exact setReason_inert e _ d r h
        · rfl
      split
      · rw [setReason_inert e .aux d _ (by rw [h1]; exact h), h1]
      · exact h1

/-- The sequencer's reaction leaves a drive that waits for no check, but for its ready flag. -/
theorem ptoReact_inert (b s : State) (d : DriveId) (h : inert (s.pto.drive d)) :
    (ptoReact b s).pto.drive d =
      { s.pto.drive d with ready := decide ((s.pto.drive d).state = .engaged) && turning (ptoEnv s) d } := by
  unfold ptoReact
  dsimp only
  have := checkDrives_inert (ptoEnv s) 4 (sourcesChanged b s .main) (sourcesChanged b s .aux)
    { pto := s.pto, posts := [] } d h
  generalize hq : checkDrives (ptoEnv s) 4 _ _ _ = q at this ⊢
  cases d
  · simp only [Pto.drive, refreshReady] at this ⊢; rw [this]; rfl
  · simp only [Pto.drive, refreshReady] at this ⊢; rw [this]; rfl

/-- A drive at rest: no reaction of the power controller or of the sequencer moves it. -/
def atRest (x : Drive) : Prop := x.state = .disengaged ∨ x.state = .releasing ∨ x.state = .fault

/-- A drive at rest waits for no check. -/
theorem atRest_inert (x : Drive) (h : atRest x) : inert x := by
  rcases h with h | h | h <;> exact ⟨by rw [h]; decide, by rw [h]; decide⟩

/-- A release leaves a drive at rest. -/
theorem dropDrive_rest (e : PtoEnv) (d : DriveId) (reason : Reason) (r : PtoRun) (h : atRest (r.pto.drive d)) :
    dropDrive e d reason r = r := by
  unfold dropDrive
  rcases h with h | h | h <;> simp [h]

/-- A check of the other drive leaves a drive. -/
theorem setReason_other (e : PtoEnv) (d : DriveId) (r : PtoRun) :
    (setReason e (otherDrive d) r).pto.drive d = r.pto.drive d := by
  unfold setReason
  dsimp only
  split <;> simp [PtoRun.put]

/-- A release of the other drive leaves a drive. -/
theorem dropDrive_other (e : PtoEnv) (d : DriveId) (reason : Reason) (r : PtoRun) :
    (dropDrive e (otherDrive d) reason r).pto.drive d = r.pto.drive d := by
  have hr : (releaseDrive e (otherDrive d) r).pto.drive d = r.pto.drive d := by
    unfold releaseDrive
    split
    · simp [enterWindingDown, PtoRun.put]
    · exact enterReleasing_other e d r
  unfold dropDrive
  dsimp only
  split
  · exact hr
  · exact hr
  · unfold waiveRelease
    dsimp only
    split
    · rw [enterReleasing_other]; simp [PtoRun.put]
    · rw [setReason_other]; simp [PtoRun.put]
  · exact enterReleasing_other e d r
  · simp [enterDisengaged, PtoRun.put, PtoRun.say]
  · rfl

/-- The rundown release leaves a drive at rest. -/
theorem rundownRelease_rest (e : PtoEnv) (d : DriveId) (r : PtoRun) (h : atRest (r.pto.drive d)) :
    (rundownRelease e r).pto.drive d = r.pto.drive d := by
  unfold rundownRelease
  cases d with
  | main =>
    rw [dropDrive_rest e .main .powerState r h]
    exact dropDrive_other e .main .powerState r
  | aux =>
    have h1 : (dropDrive e .main .powerState r).pto.drive .aux = r.pto.drive .aux := dropDrive_other e .aux .powerState r
    rw [dropDrive_rest e .aux .powerState _ (by rw [h1]; exact h)]
    exact h1

/-- The power controller leaves a drive at rest. -/
theorem powerReact_rest (s : State) (d : DriveId) (h : atRest (s.pto.drive d)) :
    (powerReact s).pto.drive d = s.pto.drive d := by
  rcases powerReact_cases s with e | ⟨-, e⟩ | ⟨-, e⟩ | ⟨-, c, e⟩
  · rw [e]
  · rw [e]
    exact rundownRelease_rest _ d _ h
  · rw [e]; rfl
  · rw [e]; rfl

/-- A drive at rest keeps its record through everything that follows an event in a working part; its ready flag is
clear. -/
theorem settle_drive_rest (b s : State) (hw : s.working = true) (d : DriveId) (h : atRest (s.pto.drive d)) :
    (settle b s).pto.drive d = { s.pto.drive d with ready := false } := by
  have hs : settle b s = settleWorking b s := if_pos hw
  rw [hs]
  unfold settleWorking settleRest
  simp only [settleMonitors_pto, refreshOutputs_pto, settleChassis_pto, settleLockout_pto, settleProtection_pto,
    settleGovernor_pto]
  have h1 : (powerReact (settleReaders b (settleFill b (settleBrake b s)))).pto.drive d = s.pto.drive d :=
    powerReact_rest _ d h
  generalize powerReact (settleReaders b (settleFill b (settleBrake b s))) = v at h1 ⊢
  have h2 : (settlePto b v).pto.drive d = { s.pto.drive d with ready := false } := by
    have := ptoReact_inert b v d (by rw [h1]; exact atRest_inert _ h)
    rw [h1] at this
    have hd : decide ((s.pto.drive d).state = .engaged) = false := by
      rcases h with h | h | h <;> rw [h] <;> decide
    rw [hd, Bool.false_and] at this
    rw [settlePto_pto]
    exact this
  generalize settlePto b v = w at h2 ⊢
  rw [powerReact_rest w d (by rw [h2]; exact h), h2]

end Sys2Proof.Machine
end

