-- ==== Sys2Proof/Laws/Words.lean ====
section
/-! SUPPORT. The words of the statements beside the functions of the model that decide them. -/

namespace Sys2Proof.Machine

/-- The model's list of state-locked fields is R174's. -/
theorem mem_lockedFields (o : Obj) (n : Nat) : n ∈ lockedFields o ↔ StateLocked o n := by
  unfold lockedFields StateLocked
  cases o <;> simp
  case channel i => by_cases h : i.val ≤ 6 <;> simp [h]; omega
  case drive d => omega

/-- A SET passes the state lock when the model does not refuse it (R174). -/
theorem lockAllows_iff (s : State) (o : Obj) (es : List FieldEntry) :
    LockAllows s o es ↔ (writesLocked o es && !s.drivesDisengaged) = false := by
  have h : (∀ e ∈ es, ¬ StateLocked o e.field.toNat) ↔ writesLocked o es = false := by
    simp [writesLocked, ← mem_lockedFields]
  unfold LockAllows State.drivesDisengaged
  rw [h]
  cases writesLocked o es <;> simp

/-- Both drives are released as the power controller finds them (R190, R191). -/
theorem drivesReleased_iff (s : State) : s.drivesReleased = true ↔ DrivesReleased s := by
  unfold State.drivesReleased DrivesReleased driveReleased
  constructor
  · intro h d
    cases d <;> simp_all [Pto.drive, State.feedback]
  · intro h
    have hm := h .main
    have ha := h .aux
    simp_all [Pto.drive, State.feedback]

/-- The model finds the engine slow as R60, R61 and R67 say. -/
theorem engineSlow_iff (s : State) : engineSlow (ptoEnv s) = true ↔ EngineSlow s := by
  unfold engineSlow EngineSlow ptoEnv
  dsimp only
  cases s.quantity 1 <;> simp

/-- The model finds a quantity usable and set as R60 and R61 say. -/
theorem usableSet_iff (s : State) (q : Fin 6) : usableSet (s.quantity q) = true ↔ SetQuantity s q := by
  unfold usableSet SetQuantity
  cases s.quantity q <;> simp

/-- The model finds the shift taken as R58 says. -/
theorem holdsShift_iff (s : State) (d : DriveId) : holdsShift (s.pto.drive (otherDrive d)) = true ↔ OtherShifts s d := by
  simp [holdsShift, OtherShifts]

/-- A chain of tests finds the first condition not met. -/
theorem firstUnmet_ite {c p : Prop} [Decidable c] {n : Reason} {rest : List (Reason × Prop)} {r : Option Reason}
    (hc : c ↔ ¬ p) (h : FirstUnmet rest r) : FirstUnmet ((n, p) :: rest) (if c then some n else r) :=
  ⟨fun hp => if_pos (hc.mpr hp), fun hp => by rw [if_neg (fun x => hc.mp x hp)]; exact h⟩

/-- The reason of a check of REQUESTED is that of the first condition not met (R60 to R62). -/
theorem engageReason_firstUnmet (s : State) (d : DriveId) :
    FirstUnmet (engageConditions s d) (engageReason (ptoEnv s) s.pto d) := by
  have hs := engineSlow_iff s
  have h3 : usableSet (ptoEnv s).park = true ↔ SetQuantity s 3 := usableSet_iff s 3
  have h4 : usableSet (ptoEnv s).service = true ↔ SetQuantity s 4 := usableSet_iff s 4
  cases d
  · have ho : holdsShift s.pto.aux = true ↔ OtherShifts s .main := holdsShift_iff s .main
    refine firstUnmet_ite ?_ (firstUnmet_ite ?_ (firstUnmet_ite ?_ (firstUnmet_ite ?_ (firstUnmet_ite ?_
      (firstUnmet_ite ?_ rfl)))))
    · simp [ptoEnv, State.stationary]
    · rw [← h3]; simp only [ptoEnv]; simp [imp_iff_not_or]
    · rfl
    · rw [← hs]; simp
    · rfl
    · rw [ho, not_not]
  · have ho : holdsShift s.pto.main = true ↔ OtherShifts s .aux := holdsShift_iff s .aux
    refine firstUnmet_ite ?_ (firstUnmet_ite ?_ (firstUnmet_ite ?_ (firstUnmet_ite ?_ (firstUnmet_ite ?_ rfl))))
    · simp only [ptoEnv]
      rcases s.quantity 0 with _ | v
      · simp
      · by_cases hv : v ≤ s.settings.pto.auxEngageSpeed <;> simp [hv]
    · rw [← hs]; simp
    · rw [← h4]; simp [ptoEnv]
    · rfl
    · rw [ho, not_not]

/-- The reason of a check of WINDING_DOWN is that of the first release condition not met (R67). -/
theorem releaseReason_firstUnmet (s : State) (d : DriveId) :
    FirstUnmet (releaseConditions s d (s.pto.drive d).waiver) (releaseReason (ptoEnv s) s.pto d) := by
  refine firstUnmet_ite ?_ (firstUnmet_ite ?_ (firstUnmet_ite ?_ rfl))
  · rw [← engineSlow_iff s]; simp
  · cases d <;> simp [ptoEnv]
  · rw [holdsShift_iff, not_not]

end Sys2Proof.Machine
end

