-- ==== Sys2Proof/Tests/Slice0.lean ====
section
/-! SUPPORT. The author's tests: ill-formed commands that `wf` refuses, worked numbers of the spec, and for every
statement with hypotheses concrete states that meet them together, clause by clause. -/

namespace Sys2Proof.Tests

set_option Elab.async false

open Sys2Proof Sys2Proof.Machine

/-! ### Builders -/

/-- What a state answers, as data that can be compared. -/
def after : Result → Option State
  | .next t => some t
  | _ => none

/-- A discrete at 1 or 0, its first sample taken, three differing samples seen. -/
def disc (i : Fin 10) (b : Bool) (s : State) : State :=
  { s with inputs := { s.inputs with
    discrete := s.inputs.discrete.set i { raw := b, level := b, count := 3, awaitFirst := false, next := none } } }

/-- A receive slot FRESH with a value. -/
def slot (k : Fin 16) (v : Int) (s : State) : State :=
  { s with chassis := { s.chassis with
    rx := s.chassis.rx.set k { s.chassis.rx[k] with state := .fresh, decoded := some v, age := some 300#32 } } }

/-- An analog channel VALID with a value. -/
def chan (i : Fin 10) (v : Int) (s : State) : State :=
  withAnalog i { s.inputs.analog[i] with state := .valid, raw := 1000, eng := some v, lastGood := v, good := 4 } s

/-- An analog channel in another state. -/
def chanIn (i : Fin 10) (st : ChannelState) (s : State) : State :=
  withAnalog i { s.inputs.analog[i] with state := st } s

/-- A drive record in a state. -/
def drv (d : DriveId) (st : DriveState) (s : State) : State :=
  { s with pto := s.pto.setDrive d { s.pto.drive d with state := st } }

/-- The front frame executes from an empty receive buffer: the part works with the ignition on. -/
def ready : State := disc 8 true State.reset

theorem ready_on : IgnitionOn ready := by unfold IgnitionOn; decide +kernel

theorem ready_steady : Steady ready :=
  ⟨by decide +kernel, by decide +kernel, by decide +kernel, by decide +kernel, by decide +kernel⟩

/-- The lockout unit follows the other records. -/
def follow (s : State) : State := { s with lock := (lockoutReact s).1 }

/-- MAIN pumps: ENGAGED and ready, the gear selected, the shaft just at its least speed, the governor in a mode. -/
def pumping (m : GovMode) : State :=
  let s := slot 2 4 (slot 0 200 (disc 1 true ready))
  follow { s with
    pto := { s.pto with main := { s.pto.main with state := .engaged, ready := true } }
    inputs := { s.inputs with pulse := s.inputs.pulse.set 0 { s.inputs.pulse[0] with eng := 300 } }
    gov := { s.gov with mode := m, governed := some .main, next := some 0#32 } }

theorem pumping_steady (m : GovMode) (h : m ∈ [.idle, .pressure, .speed, .hold]) : Steady (pumping m) := by
  cases m <;> simp at h <;>
    exact ⟨by decide +kernel, by decide +kernel, by decide +kernel, by decide +kernel, by decide +kernel⟩


/-! ### Ill-formed commands -/

theorem test_wf_refuses_a_long_standard_identifier :
    (Instr.rxRemoteFrame { ext := false, num := 0x800#29 }).wf = false ∧
    (Instr.rxRemoteFrame { ext := false, num := 0x7FF#29 }).wf = true ∧
    (Instr.rxRemoteFrame { ext := true, num := 0x800#29 }).wf = true := by decide

theorem test_wf_refuses_nine_data_bytes :
    (Instr.rxDataFrame { ext := false, num := 0 } [0, 0, 0, 0, 0, 0, 0, 0, 0]).wf = false ∧
    (Instr.rxDataFrame { ext := false, num := 0 } [0, 0, 0, 0, 0, 0, 0, 0]).wf = true := by decide

theorem test_wf_refuses_an_impossible_winner :
    (Instr.lostArbitration (some (.remote { ext := false, num := 0x800#29 }))).wf = false ∧
    (Instr.lostArbitration none).wf = true := by decide

theorem test_wf_refuses_a_known_kind_as_unknown :
    (Instr.unknownKind 0 0x13#8).wf = false ∧ (Instr.unknownKind 0 0x14#8).wf = true ∧
    (Instr.unknownKind 0 0#8).wf = true := by decide

theorem test_wf_refuses_a_set_without_entries : (Instr.set 0 6 0 []).wf = false := by decide

theorem test_wf_refuses_a_set_longer_than_a_frame :
    (Instr.set 0 6 0 [{ field := 1, value := List.replicate 245 0 }]).wf = false ∧
    (Instr.set 0 6 0 [{ field := 1, value := List.replicate 244 0 }]).wf = true := by decide +kernel

theorem test_wf_refuses_a_frame_out_of_layout :
    (Instr.frameReceived [0xA5, 2, 1, 0, 0]).wf = false ∧ (Instr.frameReceived [0xA5, 2, 1, 0, 0, 0]).wf = true ∧
    (Instr.frameReceived [0xA4, 2, 1, 0, 0, 0]).wf = false ∧ (Instr.frameReceived [0xA5, 1, 1, 0, 0]).wf = false := by
  decide

/-! ### Worked numbers of the spec -/

/-- R166: the check of the nine characters 1 to 9. -/
theorem test_crc_of_the_nine_digits :
    crc16 [0x31, 0x32, 0x33, 0x34, 0x35, 0x36, 0x37, 0x38, 0x39] = 0x29B1#16 := by decide +kernel

/-- 01_input_scanner.md: A0 reads 2000 at raw 2048 and 720 at raw 1000; A1 reads 154 at raw 900. -/
theorem test_engineering_values :
    engineering factoryAnalog[0] 2048 = 2000 ∧ engineering factoryAnalog[0] 1000 = 720 ∧
    engineering factoryAnalog[1] 900 = 154 := by decide

/-- R2: halves go away from zero. -/
theorem test_half_away : halfAway 5 2 = 3 ∧ halfAway (-5) 2 = -3 ∧ halfAway 4 3 = 1 ∧ halfAway (-4) 3 = -1 := by decide

/-- R128 on the factory table of WATER, 1200 mm for 3000 L. -/
theorem test_volume_of_the_factory_table :
    volumeOf factoryGauge.water.strap 0 = 0 ∧ volumeOf factoryGauge.water.strap 1 = 3 ∧
    volumeOf factoryGauge.water.strap 600 = 1500 ∧ volumeOf factoryGauge.water.strap 1300 = 3000 := by decide

theorem test_decode_has_no_words : decodeTableWord 8 0 = none ∧ decodeTableWord 0 7 = none := by decide

theorem test_millisecond_counts : (after (exec .millisecondEnd ready)).map (·.time.uptime) = some 1#32 := by
  decide +kernel

theorem test_power_on_is_reset :
    after (exec .powerOn { ready with powered := false }) = some State.reset := by decide +kernel

theorem test_engage_waits_for_its_conditions :
    (after (exec (.ptoEngage 7 0) ready)).map (fun t => (t.pto.main.state, t.pto.main.reason, t.outputs.o0)) =
      some (.requested, some .notStationary, false) := by decide +kernel

theorem test_first_overpressure_reading :
    (after (exec .protectionStep { chan 0 2600 (pumping .pressure) with prot.next := some 0#32 })).map
      (fun t => ((t.prot.conds[(3 : Fin 5)]).state, t.outputs.o4)) = some (.active, true) := by decide +kernel

/-- The frame of an IDENTIFY with tag 1 travels with its check and is read back. -/
theorem test_frame_is_read_back :
    crcMatches (buildFrame 1 1 []) = true ∧ contentsOf (buildFrame 1 1 []) = { kind := 1, tag := 1, payload := [] } := by
  decide +kernel

/-! ### Witnesses: the queue, the supply, parking, the invariants -/

/-- The state with one command in the queue. -/
def queued (c : Instr) (s : State) : State := { s with pending := [c] }

theorem answers {s : State} (h : (after (step s)).isSome = true) : ∃ t, step s = .next t := by
  revert h; cases step s <;> simp [after]

theorem executes {c : Instr} {s : State} (h : (after (exec c s)).isSome = true) : ∃ t, exec c s = .next t := by
  revert h; cases exec c s <;> simp [after]

theorem witness_StepExecutesFrontCommand :
    (queued .gaugeEvent ready).pending = .gaugeEvent :: [] ∧ State.reset.pending = [] := ⟨rfl, rfl⟩

/-- The part in WATCH or WAKING. -/
def parkedIn (p : PowerState) : State := { ready with power := { ready.power with state := p } }

theorem outputs_ready : OutputsSound ready :=
  ⟨by decide +kernel, by decide +kernel, by decide +kernel, by decide +kernel, by decide +kernel, by decide +kernel,
    by decide +kernel, by decide +kernel⟩

theorem outputs_parked (p : PowerState) (h : p = .watch ∨ p = .waking) : OutputsSound (parkedIn p) := by
  rcases h with rfl | rfl <;>
    exact ⟨by decide +kernel, by decide +kernel, by decide +kernel, by decide +kernel, by decide +kernel,
      by decide +kernel, by decide +kernel, by decide +kernel⟩

theorem witness_StoppedBlocksIgnoreTheirCommands :
    (({ ready with powered := false } : State).powered = false ∧ Instr.millisecondEnd ≠ .powerOn ∧
      Instr.millisecondEnd ≠ .lossOfSupply) ∧
    ((parkedIn .watch).powered = true ∧ (parkedIn .watch).power.state = .watch ∧ OutputsSound (parkedIn .watch) ∧
      ignoredWhenParked .executionStart = true) ∧
    ((parkedIn .waking).powered = true ∧ (parkedIn .waking).power.state = .waking ∧ OutputsSound (parkedIn .waking) ∧
      ignoredWhenParked (.analogSample 0 0) = true) :=
  ⟨⟨rfl, nofun, nofun⟩, ⟨rfl, rfl, outputs_parked _ (.inl rfl), rfl⟩, rfl, rfl, outputs_parked _ (.inr rfl), rfl⟩

/-- A state at the edges of the invariants' ranges: a full meter, the transmit count at 127, a saturated repeat count,
the ceiling at idle_rpm, a drive shifting. -/
def edge : State :=
  let s := drv .main .shifting ready
  queued .millisecondEnd { s with
    time := { s.time with roll := { value := 99999999, remainder := 35999, written := 0 }, trimRemainder := 999 }
    chassis := { s.chassis with txErrors := 127, rxErrors := 127 }
    notices := { s.notices with entries := s.notices.entries.map (fun e => { e with repeats := 255 }) }
    prot := { s.prot with ceiling := { s.prot.ceiling with value := 700, state := .floor } }
    outputs := { s.outputs with o0 := true } }

theorem edge_steps : ∃ t, step edge = .next t := answers (by decide +kernel)

theorem factory_limits : LimitsSound factorySettings := by constructor <;> decide +kernel

theorem edge_settings : SettingsSound edge := ⟨factory_limits, factory_limits⟩

theorem witness_StepKeepsOutputsSound : OutputsSound edge ∧ ∃ t, step edge = .next t :=
  ⟨⟨by decide +kernel, by decide +kernel, by decide +kernel, by decide +kernel, by decide +kernel, by decide +kernel,
    by decide +kernel, by decide +kernel⟩, edge_steps⟩

theorem witness_StepKeepsOneShift : OneShift edge ∧ ∃ t, step edge = .next t :=
  ⟨by unfold OneShift; decide +kernel, edge_steps⟩

theorem witness_StepKeepsQueueSound : QueueSound edge.notices ∧ ∃ t, step edge = .next t :=
  ⟨⟨by decide +kernel, List.pairwise_singleton _ _, by decide +kernel⟩, edge_steps⟩

theorem witness_StepKeepsPortSound : PortSound edge.chassis ∧ ∃ t, step edge = .next t :=
  ⟨⟨by decide +kernel, by decide +kernel, by decide +kernel, by decide +kernel, by decide +kernel⟩, edge_steps⟩

theorem witness_StepKeepsCeilingBetweenIdleAndMaximum :
    SettingsSound edge ∧ CeilingSound edge ∧ ∃ t, step edge = .next t :=
  ⟨edge_settings, by unfold CeilingSound; decide +kernel, edge_steps⟩

theorem witness_StepKeepsMetersAndTrimInRange :
    SettingsSound edge ∧ (MetersSound edge.time ∧ StoredMetersSound edge.nv ∧ TrimSound edge.time) ∧
    ∃ t, step edge = .next t :=
  ⟨edge_settings, ⟨by unfold MetersSound MeterSound; decide +kernel,
    ⟨by decide +kernel, by decide +kernel, by decide +kernel, nofun⟩,
    ⟨by decide +kernel, by decide +kernel, by decide +kernel⟩⟩, edge_steps⟩

theorem witness_OnlyNamedCommandsChangeSettingsTimeAndStore :
    (∃ t, exec .gaugeEvent ready = .next t) ∧ (∀ tag o i es, Instr.gaugeEvent ≠ .set tag o i es) ∧
    (∀ tag, Instr.gaugeEvent ≠ .recall tag) ∧ (∀ tag m v, Instr.gaugeEvent ≠ .govern tag m v) ∧
    (∀ tag v, Instr.gaugeEvent ≠ .reportRate tag v) ∧ (∀ tag, Instr.gaugeEvent ≠ .store tag) ∧
    (∀ tag v, Instr.gaugeEvent ≠ .force tag v) ∧ Instr.gaugeEvent ≠ .executionStart ∧ Instr.gaugeEvent ≠ .powerOn ∧
    ¬ Restarts .gaugeEvent ready ∧ Instr.gaugeEvent ≠ .meterWriteComplete ∧ Instr.gaugeEvent ≠ .millisecondEnd ∧
    Instr.gaugeEvent ≠ .storeComplete :=
  ⟨executes (by decide +kernel), nofun, nofun, nofun, nofun, nofun, nofun, nofun, nofun, by simp [Restarts], nofun, nofun,
    nofun⟩

/-! ### Witnesses: supply, time base, meters -/

theorem witness_SupplyComesAndGoes : State.reset.nv = factoryNv := rfl

/-- MAIN counts, one step below the saturation or at it. -/
def counting (v : Nat) : State :=
  { pumping .pressure with time := { ready.time with
    mainPumping := { value := v, remainder := 35999, written := 99999989 } } }

theorem witness_MillisecondEndCountsTimeAndMeters :
    ((counting 99999998).powered = true ∧
      ((counting 99999998).working && decide ((counting 99999998).pto.main.state = .engaged) &&
        (counting 99999998).pto.main.ready) = true ∧
      MeterSound (counting 99999998).time.mainPumping ∧ (counting 99999998).time.mainPumping.value < 99999999) ∧
    (((counting 99999999).working && decide ((counting 99999999).pto.main.state = .engaged) &&
        (counting 99999999).pto.main.ready) = true ∧
      MeterSound (counting 99999999).time.mainPumping ∧ (counting 99999999).time.mainPumping.value = 99999999) ∧
    (ready.powered = true ∧ (ready.working && decide (ready.gov.mode = .roll)) = false) := by
  unfold MeterSound; decide +kernel

/-- A meter write is due, or in progress. -/
def writing (watch restart waiting : Bool) (p : PowerState) (d8 : Bool) : State :=
  let s := disc 8 d8 State.reset
  { s with
    nv := { s.nv with activity := .meterWrite 1 2 3 watch restart, storeWaiting := waiting }
    power := { s.power with state := p, watchPending := watch, silence := none } }

theorem witness_MeterWriteCarriesTheMeters :
    (let s : State := { ready with time := { ready.time with writeDue := true } }
     s.powered = true ∧ s.nv.activity = .idle ∧ s.time.writeDue = true ∧ s.nv.storeWaiting = false) ∧
    (let s := writing false false false .awake true
     s.powered = true ∧ s.nv.activity = .meterWrite 1 2 3 false false ∧ s.nv.storeWaiting = false) := by
  decide +kernel

theorem witness_MeterWriteCompletionGoesOn :
    (let s := writing true false false .rundown false
     s.powered = true ∧ s.nv.activity = .meterWrite 1 2 3 true false ∧ s.nv.storeWaiting = false ∧
      s.power.watchPending = true ∧ s.power.state = .rundown) ∧
    (let s := writing true false false .awake false
     s.powered = true ∧ s.nv.activity = .meterWrite 1 2 3 true false ∧ s.nv.storeWaiting = false ∧
      s.power.watchPending = true ∧ s.power.state = .awake ∧ s.level 8 = false ∧ s.drivesReleased = true ∧
      s.gauge.fill.active = false ∧ s.power.silence = none) ∧
    (let s := writing true false false .awake true
     s.nv.activity = .meterWrite 1 2 3 true false ∧ s.power.watchPending = true ∧ s.power.state = .awake ∧
      s.level 8 = true) ∧
    (let s := writing false true false .awake true
     s.powered = true ∧ s.nv.activity = .meterWrite 1 2 3 false true ∧ s.nv.storeWaiting = false) := by
  decide +kernel

/-! ### Witnesses: input scanner -/

theorem witness_EngineeringValueRoundsHalfAway :
    (factoryAnalog[(0 : Fin 10)]).rawLo < (factoryAnalog[(0 : Fin 10)]).rawHi := by decide

/-- A0 in a state with a value and a run of good samples. -/
def chan0 (st : ChannelState) (v : Int) (good : Nat) : State :=
  withAnalog 0 { ready.inputs.analog[0] with state := st, eng := some v, lastGood := v, good := good } ready

/-- A0 passes at the ends of its window, and at a step of just its rate limit (raw 2048 is 2000); it fails one beyond. -/
theorem witness_AnalogSamplesAreJudged_valid :
    (SampledNow 0 (chan0 .valid 1000 4) ∧ Passes factoryAnalog[0] 1000 2048) ∧
    (SampledNow 0 (chan0 .held 3000 4) ∧ Passes factoryAnalog[0] 3000 2048) ∧
    FailsBy factoryAnalog[0] 999 2048 .rateJump ∧ FailsBy factoryAnalog[0] 0 199 .belowWindow ∧
    FailsBy factoryAnalog[0] 4000 3891 .aboveWindow ∧ Passes factoryAnalog[0] (-200) 200 ∧
    Passes factoryAnalog[0] 4200 3890 := by
  refine ⟨⟨?_, ?_⟩, ⟨?_, ?_⟩, ?_⟩ <;> first | (unfold SampledNow; decide +kernel) |
    (unfold Passes FailsBy; decide +kernel) | (unfold Passes; decide +kernel)

theorem witness_AnalogSamplesAreJudged_warming :
    (SampledNow 0 (chan0 .warming 0 0) ∧ (chan0 .warming 0 0).inputs.analog[0].good = 0 ∧
      factoryAnalog[0].windowLo ≤ 200 ∧ 200 ≤ factoryAnalog[0].windowHi) ∧
    (SampledNow 0 (chan0 .fault 1000 3) ∧ (chan0 .fault 1000 3).inputs.analog[0].good = 3 ∧
      Passes factoryAnalog[0] 1000 2048) ∧
    (SampledNow 0 (chan0 .fault 0 0) ∧ FailsBy { factoryAnalog[0] with rateLimit := 0 } 0 3891 .aboveWindow) ∧
    (SampledNow 0 (chan0 .warming 999 1) ∧ FailsBy factoryAnalog[0] 999 2048 .rateJump) := by
  unfold SampledNow Passes FailsBy; decide +kernel

theorem witness_ScannerTimersExpire :
    (let a := { (chan0 .held 0 0).inputs.analog[0] with hold := some 0#32, lastReject := some .rateJump }
     let s := withAnalog 0 a ready
     s.powered = true ∧ s.inputs.analog[0] = a ∧ a.state = .held ∧ due s.time.uptime a.hold = true ∧
      a.lastReject = some .rateJump) ∧
    (let s : State := { ready with inputs := { ready.inputs with brake := { state := .disagreeTiming, timer := some 0#32 } } }
     s.working = true ∧ s.inputs.brake.state = .disagreeTiming ∧ due s.time.uptime s.inputs.brake.timer = true) := by
  decide +kernel

/-- D`i` with a debounce count, its level at 0. -/
def counted (i : Fin 10) (level : Bool) (n : Nat) (s : State) : State :=
  { s with inputs := { s.inputs with
    discrete := s.inputs.discrete.set i { raw := level, level := level, count := n, awaitFirst := false, next := some 0#32 } } }

theorem witness_PulseAndDiscreteSamples :
    (ready.working = true ∧ sampleDue ready.time.uptime (ready.inputs.pulse[(0 : Fin 3)]).next = true ∧
      (ready.inputs.pulse[(0 : Fin 3)]).subCounts.length = 10) ∧
    (ready.working = true ∧ sampleDue ready.time.uptime (ready.inputs.discrete[(0 : Fin 10)]).next = true ∧
      (ready.inputs.discrete[(0 : Fin 10)]).awaitFirst = true) ∧
    (∀ n ∈ [2, 3], let d := (counted 0 false n ready).inputs.discrete[(0 : Fin 10)]
      sampleDue ready.time.uptime d.next = true ∧ d.awaitFirst = false ∧ d.level = false ∧ d.count = n ∧
      (true == decide (ready.settings.polarity[(0 : Fin 10)] = .activeHigh)) = true) := by
  decide +kernel

/-! ### Witnesses: chassis port -/

/-- The part with its port on the bus. -/
def online : State := { ready with chassis := { ready.chassis with joined := true } }

/-- Slot 0 FRESH at 100 with some rejections behind it; its jump limit is 1500. -/
def rejecting (n : Nat) : State :=
  let s := slot 0 100 online
  { s with chassis := { s.chassis with rx := s.chassis.rx.set 0 { s.chassis.rx[0] with rejections := n } } }

/-- A frame for slot 0 with a value of two bytes. -/
def speedFrame (v : Nat) : List Byte := u16 v

theorem witness_ReceiveSlotsFillAndAge_frames :
    let id : CanId := { ext := false, num := 0x1A0#29 }
    let c := ready.settings.rx[(0 : Fin 16)]
    (∀ v ∈ [100, 1600, 1601, 65535], (BusFrame.data id (speedFrame v)).wf = true) ∧ (rejecting 1).working = true ∧
    onBus (rejecting 1).chassis = true ∧ slotMatches c id = true ∧
    slotMatches (ready.settings.rx[(1 : Fin 16)]) id = false ∧ [0#8].length < c.byteOffset + c.width ∧
    c.byteOffset + c.width ≤ (speedFrame 1601).length ∧ 1 ≤ c.divisor ∧
    notAvailable c (rawField c (speedFrame 65535)) = true ∧ notAvailable c (rawField c (speedFrame 65534)) = false ∧
    (let r := (rejecting 1).chassis.rx[(0 : Fin 16)]
     r.state = .fresh ∧ c.jumpLimit ≠ 0 ∧ r.rejections < 2 ∧
      c.jumpLimit < ((rawValue c (rawField c (speedFrame 1601)) - r.decoded.getD 0).natAbs) ∧
      ¬ c.jumpLimit < ((rawValue c (rawField c (speedFrame 1600)) - r.decoded.getD 0).natAbs)) ∧
    ¬ ((rejecting 2).chassis.rx[(0 : Fin 16)]).rejections < 2 ∧
    RoundsHalfAway (rawValue c (rawField c (speedFrame 1601)) * c.multiplier) c.divisor 1601 := by
  unfold RoundsHalfAway; decide +kernel

theorem witness_ReceiveSlotsFillAndAge_age :
    (let s := { slot 0 100 ready with time.uptime := 300#32 }
     s.working = true ∧ (s.chassis.rx[(0 : Fin 16)]).state = .fresh ∧
      due s.time.uptime (s.chassis.rx[(0 : Fin 16)]).age = true) := by decide +kernel

/-- The port with slot T`i` on the line and a transmit count. -/
def sendingAt (i : Fin 4) (tec : Nat) (port : PortState) : State :=
  { online with chassis := { online.chassis with
    tx := online.chassis.tx.set i { state := .sending, dueAgain := false, lastSent := 0 }, txErrors := tec, port := port
    content := some { slot := i, id := { ext := false, num := 0x0C0 }, bytes := [] } } }

theorem witness_PortFollowsErrorsAndRecovery :
    (∀ n ∈ [127, 247, 248], let s := sendingAt 0 n .errorPassive
      s.working = true ∧ onBus s.chassis = true ∧ sendingSlot s.chassis = some 0 ∧ s.chassis.txErrors = n ∧
      (s.settings.tx[(0 : Fin 4)]).enabled = true) ∧
    (∀ p ∈ [PortState.busOff, .errorActive],
      let s : State := { ready with chassis := { ready.chassis with port := p } }
      mayExecute { kind := 0x10#8, tag := 1, payload := [] } s = true ∧ s.chassis.port = p) ∧
    (∀ n ∈ [126, 127],
      let s : State := { ready with chassis := { ready.chassis with port := .recovering, progress := n } }
      s.working = true ∧ s.chassis.port = .recovering ∧ s.chassis.progress = n ∧
      (s.settings.tx[(1 : Fin 4)]).enabled = true ∧ (s.chassis.tx[(1 : Fin 4)]).state = .idle) := by decide +kernel

theorem witness_OfferTakesTheFirstIdentifier :
    let s : State := { online with chassis := { online.chassis with
      tx := online.chassis.tx.set 2 { state := .pending, dueAgain := false, lastSent := 0 } } }
    s.working = true ∧ onBus s.chassis = true ∧ sendingSlot s.chassis = none ∧
    ∃ j : Fin 4, (s.chassis.tx[j]).state = .pending := by decide +kernel

/-- The periods of T0, T1 and T2 at their ends. -/
def periodic (m : GovMode) : State :=
  { pumping m with chassis := { (pumping m).chassis with
    t0 := some 0#32, t1 := some 0#32, t2 := some 0#32, joined := true } }

theorem witness_SlotsFallDue :
    (let s := periodic .idle
     s.working = true ∧ due s.time.uptime s.chassis.t0 = true ∧ due s.time.uptime s.chassis.t1 = true ∧
      due s.time.uptime s.chassis.t2 = true ∧ s.chassis.port = .errorActive ∧
      (∀ k : Fin 3, (s.settings.tx[k.castSucc]).enabled = true ∧ (s.chassis.tx[k.castSucc]).state ≠ .sending) ∧
      s.gov.mode ≠ .off ∧ (after (exec .t0Period s)).map (·.gov.mode) = some .idle) ∧
    (let s := { sendingAt 1 0 .errorActive with chassis.t1 := some 0#32 }
     s.working = true ∧ due s.time.uptime s.chassis.t1 = true ∧ (s.chassis.tx[(1 : Fin 4)]).state = .sending) ∧
    (ready.chassis.port = .errorActive ∧ ready.chassis.joined = false ∧
      (ready.settings.tx[(1 : Fin 4)]).enabled = true ∧ (ready.chassis.tx[(1 : Fin 4)]).state = .idle) ∧
    (let s : State := { online with settings := { online.settings with chassis := { online.settings.chassis with
        autoAnswer := true } } }
     let id : CanId := { ext := false, num := 0x3F8#29 }
     onBus s.chassis = true ∧ (BusFrame.remote id).wf = true ∧ s.settings.chassis.autoAnswer = true ∧
      (s.settings.tx[(3 : Fin 4)]).enabled = true ∧
      id = { ext := (s.settings.tx[(3 : Fin 4)]).ext, num := (s.settings.tx[(3 : Fin 4)]).ident } ∧
      (s.chassis.tx[(3 : Fin 4)]).state = .idle) ∧
    ready.settings.chassis.autoAnswer = false := by decide +kernel

/-! ### Witnesses: PTO sequencer -/

/-- The frame of PTO ENGAGE or DISENGAGE for MAIN. -/
def ptoFrame (b sub : Byte) : HostFrame := { kind := 0x07#8, tag := 1, payload := [b, sub] }

/-- Everything MAIN and AUX need to shift: standing, braked, gear 0, the engine at idle_rpm + 200. -/
def free : State := slot 3 1 (slot 2 0 (slot 1 900 (slot 0 200 (disc 0 true ready))))

theorem free_on : IgnitionOn free := by unfold IgnitionOn; decide +kernel

theorem free_is_slow : EngineSlow free := ⟨900, by decide +kernel, by decide +kernel⟩

theorem free_shifts_main : FirstUnmet (engageConditions free .main) none := by
  have h1 : free.vehicle = .stationary := by decide +kernel
  have h2 : SetQuantity free 3 ∧ free.level 0 = true := ⟨⟨1, by decide +kernel, by decide⟩, by decide +kernel⟩
  have h3 : free.quantity 2 = some 0 := by decide +kernel
  have h4 : free.power.state = .awake := by decide +kernel
  have h5 : ¬ OtherShifts free .main := by unfold OtherShifts; decide +kernel
  simp [FirstUnmet, engageConditions, h1, h2, h3, h4, h5, free_is_slow]

theorem free_shifts_aux : FirstUnmet (engageConditions free .aux) none := by
  have h1 : ∃ v, free.quantity 0 = some v ∧ v ≤ free.settings.pto.auxEngageSpeed :=
    ⟨200, by decide +kernel, by decide +kernel⟩
  have h2 : free.level 0 = true := by decide +kernel
  have h3 : free.power.state = .awake := by decide +kernel
  have h4 : ¬ OtherShifts free .aux := by unfold OtherShifts; decide +kernel
  simp [FirstUnmet, engageConditions, h1, h2, h3, h4, free_is_slow]

theorem ready_lacks_a_standing_vehicle : FirstUnmet (engageConditions ready .main) (some .notStationary) := by
  have h : ¬ ready.vehicle = .stationary := by decide +kernel
  simp [FirstUnmet, engageConditions, h]

theorem witness_EngageIsAnsweredByTheDriveState :
    (∀ b ∈ [0, 1, 2, 255], mayExecute (ptoFrame (.ofNat 8 b) 0) ready = true ∧
      mayExecute (ptoFrame (.ofNat 8 b) 0) free = true) ∧
    (∀ st ∈ [DriveState.requested, .shifting, .settling, .engaged, .releasing, .fault],
      mayExecute (ptoFrame 0 0) (drv .main st ready) = true ∧ ((drv .main st ready).pto.drive .main).state = st) ∧
    (let s := drv .main .windingDown ready
     IgnitionOn s ∧ mayExecute (ptoFrame 0 0) s = true ∧ (s.pto.drive .main).state = .windingDown ∧
      (s.pto.drive .main).waiver = false) ∧
    (IgnitionOn ready ∧ (ready.pto.drive .main).state = .disengaged ∧
      (ready.pto.drive (otherDrive .main)).state ∉ [.requested, .windingDown] ∧
      FirstUnmet (engageConditions ready .main) (some .notStationary)) ∧
    (IgnitionOn free ∧ free.feedback .main = false ∧ FirstUnmet (engageConditions free .main) none) ∧
    (IgnitionOn free ∧ (disc 2 true free).feedback .aux = true ∧ FirstUnmet (engageConditions free .aux) none) :=
  ⟨by decide +kernel, by decide +kernel, by unfold IgnitionOn; decide +kernel,
    ⟨ready_on, by decide +kernel, by decide +kernel, ready_lacks_a_standing_vehicle⟩,
    ⟨free_on, by decide +kernel, free_shifts_main⟩, free_on, by decide +kernel, free_shifts_aux⟩

/-- MAIN waits in REQUESTED with both of its timers at their ends. -/
def requested (s : State) : State :=
  { s with pto := { s.pto with main := { s.pto.main with
    state := .requested, recheck := some 0#32, window := some 0#32, reason := some .gear } } }

theorem requested_free : FirstUnmet (engageConditions (requested free) .main) none := by
  have h1 : (requested free).vehicle = .stationary := by decide +kernel
  have h2 : SetQuantity (requested free) 3 ∧ (requested free).level 0 = true :=
    ⟨⟨1, by decide +kernel, by decide⟩, by decide +kernel⟩
  have h3 : (requested free).quantity 2 = some 0 := by decide +kernel
  have h4 : (requested free).power.state = .awake := by decide +kernel
  have h5 : ¬ OtherShifts (requested free) .main := by unfold OtherShifts; decide +kernel
  have h6 : EngineSlow (requested free) := ⟨900, by decide +kernel, by decide +kernel⟩
  simp [FirstUnmet, engageConditions, h1, h2, h3, h4, h5, h6]

theorem witness_RequestedDriveShiftsOrGivesUp :
    (let s := requested free
     (s.pto.drive .main).state = .requested ∧ IgnitionOn s ∧ due s.time.uptime (s.pto.drive .main).recheck = true ∧
      FirstUnmet (engageConditions s .main) none ∧ s.working = true ∧
      due s.time.uptime (s.pto.drive .main).window = true) ∧
    (let s := requested ready
     IgnitionOn s ∧ due s.time.uptime (s.pto.drive .main).recheck = true ∧
      FirstUnmet (engageConditions s .main) (some .notStationary)) := by
  refine ⟨⟨by decide +kernel, ?_, by decide +kernel, requested_free, by decide +kernel, by decide +kernel⟩,
    ?_, by decide +kernel, ?_⟩
  · unfold IgnitionOn; decide +kernel
  · unfold IgnitionOn; decide +kernel
  · have h : ¬ (requested ready).vehicle = .stationary := by decide +kernel
    simp [FirstUnmet, engageConditions, h]

/-- MAIN winds down with its timers at their ends. -/
def windingDown (s : State) : State :=
  { s with pto := { s.pto with main := { s.pto.main with
    state := .windingDown, recheck := some 0#32, windDown := some 0#32 } } }

theorem winding_free (s : State) (h : s = windingDown free) : FirstUnmet (releaseConditions s .main false) none := by
  subst h
  have h2 : (windingDown free).quantity 2 = some 0 := by decide +kernel
  have h5 : ¬ OtherShifts (windingDown free) .main := by unfold OtherShifts; decide +kernel
  have h6 : EngineSlow (windingDown free) := ⟨900, by decide +kernel, by decide +kernel⟩
  simp [FirstUnmet, releaseConditions, h2, h5, h6]

/-- Without an engine speed the first release condition is not met. -/
theorem no_engine_speed (s : State) (h : s.quantity 1 = none) :
    FirstUnmet (releaseConditions s .main false) (some .engineSpeed) := by
  have : ¬ EngineSlow s := fun ⟨_, hv, _⟩ => by simp [h] at hv
  simp [FirstUnmet, releaseConditions, this]

theorem witness_WindingDownDriveIsReleased :
    (let s := windingDown free
     (s.pto.drive .main).state = .windingDown ∧ IgnitionOn s ∧ due s.time.uptime (s.pto.drive .main).recheck = true ∧
      (s.pto.drive .main).waiver = false ∧ FirstUnmet (releaseConditions s .main false) none ∧
      s.feedback .main = false ∧ due s.time.uptime (s.pto.drive .main).windDown = true) ∧
    (windingDown (disc 1 true free)).feedback .main = true ∧
    FirstUnmet (releaseConditions (windingDown ready) .main false) (some .engineSpeed) :=
  ⟨⟨by decide +kernel, by unfold IgnitionOn; decide +kernel, by decide +kernel, by decide +kernel,
    winding_free _ rfl, by decide +kernel, by decide +kernel⟩, by decide +kernel,
    no_engine_speed _ (by decide +kernel)⟩

/-- MAIN in a state with every timer at its end. -/
def expired (st : DriveState) : State :=
  { ready with pto := { ready.pto with main := { ready.pto.main with
    state := st, shift := some 0#32, release := some 0#32, uncommanded := some 0#32, settle := some 0#32 } } }

theorem witness_DriveTimersEndTheirStates :
    (∀ st ∈ [DriveState.shifting, .releasing, .disengaged, .requested, .settling],
      let s := expired st
      s.working = true ∧ (s.pto.drive .main).state = st ∧ due s.time.uptime (s.pto.drive .main).shift = true ∧
      due s.time.uptime (s.pto.drive .main).release = true ∧
      due s.time.uptime (s.pto.drive .main).uncommanded = true ∧
      due s.time.uptime (s.pto.drive .main).settle = true ∧ s.notices.entries.length < 32) ∧
    IgnitionOn (expired .settling) := by unfold IgnitionOn; decide +kernel

theorem witness_DisengageIsAnsweredByTheDriveState :
    (∀ b ∈ [0, 1, 2], mayExecute (ptoFrame (.ofNat 8 b) 1) ready = true) ∧
    (∀ st ∈ [DriveState.disengaged, .windingDown, .releasing, .fault, .requested, .shifting, .settling, .engaged],
      let s := drv .main st ready
      IgnitionOn s ∧ mayExecute (ptoFrame 0 1) s = true ∧ (s.pto.drive .main).state = st ∧
      (s.pto.drive (otherDrive .main)).state ∉ [.requested, .windingDown] ∧ ¬ OtherShifts s .main ∧
      s.feedback .main = false) ∧
    FirstUnmet (releaseConditions (drv .main .engaged ready) .main false) (some .engineSpeed) ∧
    (drv .main .engaged (disc 1 true ready)).feedback .main = true ∧
    OtherShifts (drv .aux .shifting (drv .main .settling ready)) .main := by
  refine ⟨by decide +kernel, ?_, no_engine_speed _ (by decide +kernel), by decide +kernel, ?_⟩
  · unfold IgnitionOn OtherShifts; decide +kernel
  · unfold OtherShifts; decide +kernel

/-- An ENGAGED MAIN that every release condition lets go. -/
theorem witness_DisengageIsAnsweredByTheDriveState_released :
    let s := drv .main .engaged free
    IgnitionOn s ∧ mayExecute (ptoFrame 0 1) s = true ∧ FirstUnmet (releaseConditions s .main false) none := by
  refine ⟨by unfold IgnitionOn; decide +kernel, by decide +kernel, ?_⟩
  have h2 : (drv .main .engaged free).quantity 2 = some 0 := by decide +kernel
  have h5 : ¬ OtherShifts (drv .main .engaged free) .main := by unfold OtherShifts; decide +kernel
  have h6 : EngineSlow (drv .main .engaged free) := ⟨900, by decide +kernel, by decide +kernel⟩
  simp [FirstUnmet, releaseConditions, h2, h5, h6]

theorem witness_FaultClearNeedsTheFeedbackOff :
    (∀ b ∈ [0, 2], mayExecute { kind := 0x0F#8, tag := 1, payload := [.ofNat 8 b] } ready = true) ∧
    (let s := drv .main .fault ready
     mayExecute { kind := 0x0F#8, tag := 1, payload := [0] } s = true ∧ (s.pto.drive .main).state = .fault ∧
      s.feedback .main = false) ∧
    (let s := drv .main .fault (disc 1 true ready)
     mayExecute { kind := 0x0F#8, tag := 1, payload := [0] } s = true ∧ s.feedback .main = true) ∧
    (ready.pto.drive .main).state ≠ .fault := by decide +kernel

/-- D1 about to be taken at a level, MAIN in a state. -/
def feedbackComing (st : DriveState) (cause : Option DriveCause) (level : Bool) : State :=
  let s := counted 1 (!level) 3 ready
  { s with pto := { s.pto with main := { s.pto.main with state := st, cause := cause } } }

theorem witness_FeedbackMovesTheDrive :
    (∀ st ∈ [DriveState.shifting, .disengaged, .requested],
      let s := feedbackComing st none true
      let c := s.inputs.discrete[(1 : Fin 10)]
      IgnitionOn s ∧ (1 : Fin 10).val = driveIndex .main + 1 ∧ (s.pto.drive .main).state = st ∧
      sampleDue s.time.uptime c.next = true ∧ c.awaitFirst = false ∧ c.level = false ∧ c.count = 3 ∧
      s.settings.polarity[(1 : Fin 10)] = .activeHigh ∧ s.settings.pto.settleTime ≠ 0) ∧
    (∀ p ∈ [(DriveState.settling, none), (.engaged, none), (.windingDown, none), (.releasing, none),
        (.disengaged, none), (.requested, none), (.fault, some DriveCause.foundEngaged), (.fault, some .dropped)],
      let s := feedbackComing p.1 p.2 false
      let c := s.inputs.discrete[(1 : Fin 10)]
      IgnitionOn s ∧ (s.pto.drive .main).state = p.1 ∧ (s.pto.drive .main).cause = p.2 ∧
      sampleDue s.time.uptime c.next = true ∧ c.awaitFirst = false ∧ c.level = true ∧ c.count = 3) := by
  unfold IgnitionOn; decide +kernel

/-! ### Witnesses: pump governor and protection monitor -/

/-- The clauses of GovernorFollows, drive by drive. -/
def governorFacts (s : State) : Prop :=
  (s.gov.mode ∈ [.pressure, .speed, .hold] →
    s.gov.governed = some .main ∨ (s.gov.governed = some .aux ∧ s.vehicle = .stationary)) ∧
  (s.gov.mode = .roll → s.gov.governed = some .aux) ∧
  (s.gov.governed = some .aux → s.vehicle ≠ .stationary → s.gov.mode = .roll) ∧
  (s.gov.mode = .off → s.gov.governed = none ∧ s.gov.windDown = none) ∧
  (s.gov.governed = none → s.gov.mode = .off ∨ (s.gov.mode = .idle ∧ s.gov.windDown ≠ none)) ∧
  (∀ d ∈ [DriveId.main, .aux], s.gov.windDown = some d → s.gov.governed = .none ∧
    (s.pto.drive d).state = .windingDown ∧ (d = .aux → s.vehicle = .stationary)) ∧
  (s.gov.stop ≠ .none ↔ s.gov.mode = .roll ∧ s.vehicle = .stationary) ∧
  (s.gov.path = .lost ↔ s.chassis.port = .busOff ∨ s.chassis.port = .recovering) ∧
  (s.gov.mode ∈ [.pressure, .speed, .hold] → s.gov.path = .available)

/-- The clauses of RecordsFollow on the drives, the governed drive and P0's timer. -/
def driveFacts (s : State) : Prop :=
  (s.pto.main.ready = true ↔ s.pto.main.state = .engaged ∧ s.quantity 2 = some s.settings.pto.pumpGear ∧
    300 ≤ (s.inputs.pulse[(0 : Fin 3)]).eng) ∧
  (s.pto.aux.ready = true ↔ s.pto.aux.state = .engaged ∧ 300 ≤ (s.inputs.pulse[(1 : Fin 3)]).eng) ∧
  (s.gov.governed = some .main ↔ s.pto.main.ready = true) ∧
  (s.gov.governed = some .aux ↔ s.pto.main.ready = false ∧ s.pto.aux.ready = true) ∧
  (s.prot.qualification.isSome = true ↔
    s.settings.prot.enabled[(0 : Fin 5)] = true ∧ (s.prot.conds[(0 : Fin 5)]).state = .inactive ∧ CavitationFacts s)

/-- The clauses of RecordsFollow on the conditions and the contributing sets after the first evaluation. -/
def setFacts (s : State) : Prop :=
  s.lock.evaluated = true → (∀ i : Fin 11, (s.lock.conds[i]).active = conditionHolds s i) ∧
    (s.vehicle = .unknown ↔ s.quantity 0 = none) ∧
    ∀ a ∈ [ActionId.inhibit, .rollLimit, .idleCap], ∀ i : Fin 11,
      i ∈ (s.lock.action a).contributors ↔ Contributes s a i

/-- The other clauses of RecordsFollow on the lockout unit. -/
def lockFacts (s : State) : Prop :=
  ((s.lock.conds[(0 : Fin 11)]).active = true ↔ s.pto.main.state ≠ .disengaged) ∧
  (s.gauge.fill.active = true → (s.lock.conds[(2 : Fin 11)]).active = true) ∧
  (∀ i ∈ [(0 : Fin 11), 2], Contributes s .inhibit i → i ∈ s.lock.inhibit.contributors) ∧
  (s.lock.inhibit.state ≠ .pending ∧ s.lock.rollLimit.state ≠ .pending) ∧
  (s.lock.inhibit.contributors ≠ [] → s.lock.inhibit.state = .asserted) ∧
  (s.lock.rollLimit.contributors ≠ [] → s.lock.rollLimit.state = .asserted) ∧
  (s.lock.idleCap.contributors ≠ [] → s.lock.idleCap.state = .asserted ∨ s.lock.idleCap.state = .pending) ∧
  (s.lock.overspeed = .off ↔ s.pto.aux.state = .disengaged)

theorem records_follow {s : State} (h : driveFacts s) (g : governorFacts s) (k : setFacts s) (l : lockFacts s) :
    RecordsFollow s := by
  obtain ⟨h1, h2, h3, h4, h5⟩ := h
  obtain ⟨g1, g2, g3, g4, g5, g6, g7, g8, g9⟩ := g
  obtain ⟨l1, l2, l3, l4, l5, l6, l7, l8⟩ := l
  refine ⟨h1, h2, h3, h4, ⟨g1, g2, g3, g4, g5, fun d => g6 d (by cases d <;> simp), g7, g8, g9⟩, h5, fun e i => ?_,
    fun e a i => (k e).2.2 a (by cases a <;> simp) i, l1, l2, l3, l4, l5, l6, l7, l8⟩
  obtain ⟨k1, k2, _⟩ := k e
  rw [k1 i]
  match i with
  | 0 => simp [conditionHolds, ConditionMet]
  | 1 => simp [conditionHolds, ConditionMet]
  | 2 => simp [conditionHolds, ConditionMet]
  | 3 => simp [conditionHolds, ConditionMet]
  | 4 => simp [conditionHolds, ConditionMet]
  | 5 => simp [conditionHolds, ConditionMet]
  | 6 => simp [conditionHolds, ConditionMet, k2]
  | 7 => simp [conditionHolds, ConditionMet]
  | 8 => simp [conditionHolds, ConditionMet]
  | 9 => simp [conditionHolds, ConditionMet]
  | 10 => simp [conditionHolds, ConditionMet]

theorem witness_StepKeepsRecordsFollowing :
    let s := queued .governorStep (pumping .pressure)
    (s.working = true → RecordsFollow s) ∧ s.working = true ∧ ∃ t, step s = .next t :=
  ⟨fun _ => records_follow (by unfold driveFacts CavitationFacts; decide +kernel)
    (by unfold governorFacts; decide +kernel) (by unfold setFacts Contributes; decide +kernel)
    (by unfold lockFacts Contributes; decide +kernel),
    by decide +kernel, answers (by decide +kernel)⟩

/-- The governor in a mode with A0 in a state and value. -/
def governing (m : GovMode) (st : ChannelState) (v : Int) : State := chanIn 0 st (chan 0 v (pumping m))

theorem governing_steady (m : GovMode) (st : ChannelState) (v : Int) (hm : m ∈ [.idle, .pressure, .speed, .hold])
    (hv : v ∈ [1000, 985, 984, 1351]) (hs : st ∈ [.valid, .held, .warming]) : Steady (governing m st v) := by
  have : ∀ m ∈ [GovMode.idle, .pressure, .speed, .hold], ∀ st ∈ [ChannelState.valid, .held, .warming],
      ∀ v ∈ [(1000 : Int), 985, 984, 1351],
      fillReact (governing m st v) (governing m st v) = ((governing m st v).gauge, []) ∧
      powerReact (governing m st v) = governing m st v ∧
      refreshReady (ptoEnv (governing m st v)) (governing m st v).pto = (governing m st v).pto ∧
      governorReact (governing m st v) = ((governing m st v).gov, []) ∧
      lockoutReact (governing m st v) = ((governing m st v).lock, []) := by decide +kernel
  obtain ⟨h1, h2, h3, h4, h5⟩ := this m hm st hs v hv
  exact ⟨h1, h2, h3, h4, h5⟩

theorem least_ceiling (v : Int) (h : v ∈ [1000, 1351]) : LeastCeiling (governing .pressure .valid v) 2200 := by
  have key : ∀ v ∈ [(1000 : Int), 1351], LeastCeiling (governing .pressure .valid v) 2200 := by
    unfold LeastCeiling; decide +kernel
  exact key v h

/-- Setpoint 1000, deadband 15, fast-fall band 350: readings inside and just outside each. -/
theorem witness_GovernorStepMovesTheRequest :
    (∀ m ∈ [GovMode.idle, .pressure, .speed, .hold], ∀ st ∈ [ChannelState.valid, .held, .warming],
      ∀ v ∈ [(1000 : Int), 985, 984, 1351],
      let s := governing m st v
      s.working = true ∧ s.gov.mode = m ∧ due s.time.uptime s.gov.next = true ∧ 0 ≤ s.settings.gov.deadband ∧
      s.gov.governed = some .main ∧ (s.inputs.analog[(0 : Fin 10)]).state = st ∧
      (s.inputs.analog[(0 : Fin 10)]).eng = some v) ∧
    (Steady (governing .pressure .valid 1351) ∧ LeastCeiling (governing .pressure .valid 1351) 2200) ∧
    (Steady (governing .hold .valid 984)) ∧ Steady (governing .hold .warming 985) ∧
    IsDischarge (governing .hold .warming 985) (governing .hold .warming 985).inputs.analog[(0 : Fin 10)] ∧
    (let s : State := { ready with gov := { ready.gov with next := some 0#32 } }
     s.gov.mode = .off ∧ due s.time.uptime s.gov.next = true) :=
  ⟨by decide +kernel, ⟨governing_steady _ _ _ (by simp) (by simp) (by simp), least_ceiling _ (by simp)⟩,
    governing_steady _ _ _ (by simp) (by simp) (by simp), governing_steady _ _ _ (by simp) (by simp) (by simp),
    .inl ⟨by decide +kernel, rfl⟩, by decide +kernel⟩

/-- The governor in ROLL: AUX pumps while the vehicle rolls. -/
def rolling : State :=
  let s := slot 0 201 (disc 2 true ready)
  follow { s with
    pto := { s.pto with aux := { s.pto.aux with state := .engaged, ready := true } }
    inputs := { s.inputs with pulse := s.inputs.pulse.set 1 { s.inputs.pulse[1] with eng := 300 } }
    gov := { s.gov with mode := .roll, governed := some .aux, next := some 0#32, stop := none } }

theorem rolling_steady : Steady rolling :=
  ⟨by decide +kernel, by decide +kernel, by decide +kernel, by decide +kernel, by decide +kernel⟩

theorem witness_GovernorStepMovesTheRequest_roll :
    rolling.working = true ∧ Steady rolling ∧ rolling.gov.mode = .roll ∧ due rolling.time.uptime rolling.gov.next = true :=
  ⟨by decide +kernel, rolling_steady, rfl, by decide +kernel⟩

theorem witness_EngineRequestWithinTheCeilings :
    SettingsSound (pumping .idle) ∧ CeilingSound (pumping .idle) ∧
    (let s := governing .pressure .valid 1000
     LeastCeiling s 2200 ∧ s.gov.mode ≠ .off ∧ s.gov.mode ≠ .roll ∧ s.settings.gov.idleRpm ≤ s.gov.request ∧
      s.gov.request ≤ 2200) :=
  ⟨⟨factory_limits, factory_limits⟩, by unfold CeilingSound; decide +kernel, least_ceiling _ (by simp), by decide +kernel⟩

/-- ROLL with the vehicle standing again and the stop timer at its end. -/
def stopping : State :=
  let s := slot 0 200 rolling
  { s with gov := { s.gov with stop := some 0#32 } }

theorem witness_GovernorReturnsToIdle :
    (let s : State := { pumping .hold with gov := { (pumping .hold).gov with hold := some 0#32 } }
     s.working = true ∧ s.gov.mode = .hold ∧ due s.time.uptime s.gov.hold = true ∧
      fillReact s s = (s.gauge, []) ∧ powerReact s = s ∧ refreshReady (ptoEnv s) s.pto = s.pto ∧
      governorReact s = (s.gov, []) ∧ lockoutReact s = (s.lock, [])) ∧
    (let s := stopping
     s.working = true ∧ s.gov.mode = .roll ∧ due s.time.uptime s.gov.stop = true ∧
      fillReact s s = (s.gauge, []) ∧ powerReact s = s ∧ refreshReady (ptoEnv s) s.pto = s.pto ∧
      governorReact s = (s.gov, []) ∧ lockoutReact s = (s.lock, [])) ∧
    (∀ m ∈ [GovMode.pressure, .hold, .speed, .idle],
      mayExecute { kind := 0x0A#8, tag := 1, payload := [] } (pumping m) = true) ∧
    Steady (pumping .pressure) ∧ Steady (pumping .speed) ∧ Steady (pumping .idle) ∧ Steady rolling ∧ Steady ready ∧
    (mayExecute { kind := 0x0A#8, tag := 1, payload := [] } rolling = true ∧ rolling.gov.mode = .roll) ∧
    (mayExecute { kind := 0x0A#8, tag := 1, payload := [] } ready = true ∧ ready.gov.mode = .off) :=
  ⟨by decide +kernel, by decide +kernel, by decide +kernel, pumping_steady _ (by simp), pumping_steady _ (by simp),
    pumping_steady _ (by simp), rolling_steady, ready_steady, by decide +kernel, by decide +kernel⟩

/-- A GOVERN of a mode and setpoint. -/
def governFrame (m : Byte) (v : BitVec 16) : HostFrame := { kind := 0x08#8, tag := 1, payload := m :: bytes16 v }

theorem govern_taken (m : GovMode) (h : m ∈ [.idle, .pressure, .speed, .hold]) : GovernTaken (pumping m) := by
  cases m <;> simp at h <;> exact ⟨.inl (by decide +kernel), by decide +kernel, by decide +kernel⟩

theorem witness_GovernSetsModeAndSetpoint :
    (mayExecute (governFrame 1 0) (pumping .idle) = true ∧ Steady (pumping .idle)) ∧
    (mayExecute (governFrame 2 200) ready = true ∧ Steady ready ∧ ¬ GovernTaken ready) ∧
    (∀ m ∈ [GovMode.idle, .pressure, .speed, .hold], ∀ v ∈ [199, 200, 2400, 2401],
      mayExecute (governFrame 2 (.ofNat 16 v)) (pumping m) = true ∧
      mayExecute (governFrame 3 (.ofNat 16 v)) (pumping m) = true) ∧
    (∀ m ∈ [GovMode.idle, .pressure, .speed, .hold], Steady (pumping m) ∧ GovernTaken (pumping m)) := by
  refine ⟨⟨by decide +kernel, pumping_steady _ (by simp)⟩, ⟨by decide +kernel, ready_steady, ?_⟩, by decide +kernel,
    fun m h => ⟨pumping_steady m h, govern_taken m h⟩⟩
  rintro ⟨h | ⟨h, _⟩, _⟩ <;> exact absurd h (by decide +kernel)

/-- The protection monitor with the ceiling in a state and P2 ACTIVE or not. -/
def protecting (st : CeilState) (v : Int) (active : Bool) (steps : Option Nat) (m : AutoManual) (s : State) : State :=
  { s with
    settings := { s.settings with prot := { s.settings.prot with resumeMode := m } }
    prot := { s.prot with
      conds := s.prot.conds.set 2 { state := if active then .active else .inactive, activated := 0, entered := 0 }
      ceiling := { value := v, state := st, steps := steps, entered := 0 }, next := some 0#32 } }

theorem witness_ResumeCombinesGovernorAndMonitor :
    (let s : State := { pumping .idle with gov := { (pumping .idle).gov with resume := some .pressure } }
     mayExecute { kind := 0x09#8, tag := 1, payload := [] } s = true ∧ s.gov.mode = .idle ∧ s.gov.resume ≠ none ∧
      s.prot.ceiling.state ≠ .latched ∧ s.gov.governed = some .main ∧ s.gov.path = .available ∧
      powerReact s = s ∧ refreshReady (ptoEnv s) s.pto = s.pto ∧ governorReact s = (s.gov, []) ∧
      lockoutReact s = (s.lock, []) ∧ fillReact s s = (s.gauge, [])) ∧
    (∀ a ∈ [true, false], let s := protecting .latched 700 a none .manual ready
      mayExecute { kind := 0x09#8, tag := 1, payload := [] } s = true ∧ s.prot.ceiling.state = .latched ∧
      s.settings.prot.enabled[(2 : Fin 5)] = true ∧ decide ((s.prot.conds[(2 : Fin 5)]).state = .active) = a ∧
      (∀ j : Fin 5, j < 2 → ¬ (s.settings.prot.enabled[j] = true ∧ (s.prot.conds[j]).state = .active)) ∧
      powerReact s = s ∧ refreshReady (ptoEnv s) s.pto = s.pto ∧ governorReact s = (s.gov, []) ∧
      lockoutReact s = (s.lock, []) ∧ fillReact s s = (s.gauge, [])) ∧
    (let s := ready
     mayExecute { kind := 0x09#8, tag := 1, payload := [] } s = true ∧ Steady s ∧ s.prot.ceiling.state ≠ .latched ∧
      s.gov.mode ≠ .idle) :=
  ⟨by decide +kernel, by decide +kernel, by decide +kernel, ready_steady, by decide +kernel, by decide +kernel⟩

/-- A protection step with A7 at a value and P2 in a state. -/
def protAt (st : ChannelState) (v : Int) (p : ProtState) : State :=
  let s := chanIn 7 st (chan 7 v ready)
  { s with prot := { s.prot with next := some 0#32, conds := s.prot.conds.set 2 { state := p, activated := 0, entered := 0 } } }

/-- P2 activates at 750 and clears below 700. -/
theorem witness_ProtectionConditionsAreTested :
    (∀ v ∈ [(750 : Int), 749, 700, 699], ∀ p ∈ [ProtState.active, .inactive, .unknown],
      let s := protAt .valid v p
      s.working = true ∧ due s.time.uptime s.prot.next = true ∧ s.settings.prot.enabled[(2 : Fin 5)] = true ∧
      (s.prot.conds[(2 : Fin 5)]).state = p ∧ s.notices.entries.length ≤ 26) ∧
    (SourceGives (protAt .valid 699 .active) 2 699 ∧ SourceGives (protAt .valid 750 .inactive) 2 750) ∧
    (Activating factoryProt 2 750 ∧ ¬ Activating factoryProt 2 749 ∧ Clearing factoryProt 2 699 ∧
      ¬ Clearing factoryProt 2 700) ∧
    SourceLost (protAt .fault 0 .active) 2 ∧ SourceNotYetKnown (protAt .warming 0 .active) 2 ∧
    SourceNotApplicable ready 3 ∧
    (let s : State := { ready with prot := { ready.prot with qualification := some 0#32 } }
     s.working = true ∧ due s.time.uptime s.prot.qualification = true ∧
      (s.prot.conds[(0 : Fin 5)]).state = .inactive ∧ s.notices.entries.length < 32) := by
  refine ⟨by decide +kernel, ⟨⟨.inl ?_, ?_⟩, .inl ?_, ?_⟩, ?_, ?_, ?_, ?_, by decide +kernel⟩
  · decide +kernel
  · decide +kernel
  · decide +kernel
  · decide +kernel
  · simp [Activating, Clearing, factoryProt]
  · exact .inl (by decide +kernel)
  · show ((protAt .warming 0 .active).inputs.analog[(7 : Fin 10)]).state = .warming; decide +kernel
  · show ready.gov.governed = none; decide +kernel

theorem witness_CeilingFallsAndRises :
    (∀ st ∈ [CeilState.free, .falling, .floor, .waiting, .latched, .rising], ∀ v ∈ [(700 : Int), 725, 2160],
      let s := protecting st v true none .auto ready
      s.working = true ∧ due s.time.uptime s.prot.next = true ∧ s.prot.ceiling.state = st ∧
      (after (exec .protectionStep { s with inputs := (chan 7 749 s).inputs })).map (fun t =>
        (t.prot.conds[(2 : Fin 5)]).state) = some .active) ∧
    (∀ p ∈ [(CeilState.falling, AutoManual.auto, (none : Option Nat)), (.floor, .manual, none), (.waiting, .auto, some 2),
        (.waiting, .auto, some 1), (.rising, .auto, none), (.latched, .manual, none), (.free, .auto, none)],
      let s := protecting p.1 2160 false p.2.2 p.2.1 ready
      s.working = true ∧ due s.time.uptime s.prot.next = true ∧ s.prot.ceiling.state = p.1 ∧
      s.prot.ceiling.steps = p.2.2 ∧ s.settings.prot.resumeMode = p.2.1 ∧
      (after (exec .protectionStep s)).map (fun t => anyActive t.settings.prot t.prot.conds) = some false) := by
  decide +kernel

/-! ### Witnesses: tank gauge -/

theorem witness_VolumeFollowsTheStrappingTable :
    let w := factoryGauge.water.strap
    strapAscends w = true ∧ w ≠ [] ∧ (∀ p ∈ w, p.1 ≤ 1200) ∧ (∀ p ∈ w, 0 ≤ p.1) ∧
    w[0]? = some (0, 0) ∧ w[0 + 1]? = some (1200, 3000) ∧ 0 ≤ 1199 ∧ 1199 < 1200 := by decide +kernel

/-- The gauge at an event with the transducers of WATER at two levels and fifteen levels in the window. -/
def gauging (f b : Int) (sf sb : ChannelState) (st : TankState) (w : List Nat) : State :=
  let s := chanIn 4 sb (chanIn 3 sf (chan 4 b (chan 3 f ready)))
  { s with gauge := { s.gauge with
    next := some 0#32, water := { s.gauge.water with state := st, window := w, lastStable := some 100 } } }

/-- The hypotheses on the state that GaugeEventGaugesTheWater shares among its clauses. -/
def gaugeHyps (s : State) : Prop :=
  s.working = true ∧ due s.time.uptime s.gauge.next = true ∧ 0 < s.settings.gauge.spacing ∧
  s.gauge.water.state ≠ .absent ∧ s.gauge.water.state ≠ .filling ∧ s.gauge.fill.active = false

/-- A full window within its band of 12 and one just beyond it; the floor is 15. -/
theorem witness_GaugeEventGaugesTheWater :
    (let s := gauging 612 612 .valid .valid .sloshing (List.replicate 15 600)
     gaugeHyps s ∧ CentreLevel s 612 0 false ∧ WithinBand (newest 16 (s.gauge.water.window ++ [612])) 12 ∧
      (newest 16 (s.gauge.water.window ++ [612])).length = 16) ∧
    (let s := gauging 613 613 .valid .valid .stable (List.replicate 15 600)
     gaugeHyps s ∧ CentreLevel s 613 0 false ∧ ¬ WithinBand (newest 16 (s.gauge.water.window ++ [613])) 12) ∧
    (let s := gauging 16 15 .valid .held .unknown (List.replicate 14 0)
     gaugeHyps s ∧ CentreLevel s 16 0 true ∧ (newest 16 (s.gauge.water.window ++ [16])).length < 16) ∧
    (let s := gauging 15 16 .valid .valid .unknown []
     gaugeHyps s ∧ CentreLevel s 16 0 true) ∧
    (let s := gauging 15 0 .valid .fault .unknown []
     gaugeHyps s ∧ CentreLevel s 0 0 true) ∧
    (let s := gauging 0 0 .fault .disabled .stable []
     gaugeHyps s ∧ Lost s.inputs.analog[(3 : Fin 10)] ∧ Lost s.inputs.analog[(4 : Fin 10)]) ∧
    (let s := gauging 0 0 .warming .valid .stable []
     gaugeHyps s ∧ (s.inputs.analog[(3 : Fin 10)]).state = .warming) := by
  refine ⟨⟨?_, ⟨?_, .inl ⟨612, 612, 0, ?_, ?_, ?_, ?_, ?_, rfl⟩⟩, ?_, ?_⟩,
    ⟨?_, ⟨?_, .inl ⟨613, 613, 0, ?_, ?_, ?_, ?_, ?_, rfl⟩⟩, ?_⟩,
    ⟨?_, ⟨?_, .inr (.inr (.inl ⟨16, 0, ?_, .inr ⟨15, ?_, ?_⟩, ?_, ?_, ?_, rfl⟩))⟩, ?_⟩,
    ⟨?_, ?_, .inr (.inl ⟨16, 0, .inr ⟨15, ?_, ?_⟩, ?_, ?_, ?_, ?_, rfl⟩)⟩,
    ⟨?_, ?_, .inr (.inr (.inr ⟨.inr ⟨15, ?_, ?_⟩, .inl ?_, ?_, ?_, rfl⟩))⟩, ⟨?_, ?_, ?_⟩, ⟨?_, ?_⟩⟩ <;>
    ((try unfold gaugeHyps); (try unfold Wet); (try unfold Reads); (try unfold Lost); (try unfold RoundsHalfAway); (try unfold WithinBand); decide +kernel)

theorem witness_GaugeEventCountsTheDraw :
    let s : State := { ready with
      gauge := { ready.gauge with next := some 0#32, foam := .foamA }
      inputs := { ready.inputs with pulse := ready.inputs.pulse.set 2 { ready.inputs.pulse[2] with eng := 1200 } } }
    s.working = true ∧ due s.time.uptime s.gauge.next = true ∧ s.gauge.fill.active = false ∧
    (∀ k ∈ [TankId.water, .foamA, .foamB], (s.gauge.tank k).state ≠ .absent ∧ (s.gauge.tank k).state ≠ .filling ∧
      (s.gauge.tank k).consumed < 65535) ∧
    ((1200 : Nat) : Int) = (s.inputs.pulse[(2 : Fin 3)]).eng ∧ s.gauge.foam = .foamA ∧
    (s.gauge.tank .water).remainder + 1200 * 50 ≤ 4294967295 ∧
    (s.gauge.tank .water).consumed + ((s.gauge.tank .water).remainder + 1200 * 50) / 60000 ≤ 65535 ∧
    RoundsHalfUp (capacityOf factoryGauge.water.strap * 25) 100 750 ∧
    RoundsHalfUp (capacityOf factoryGauge.water.strap * 27) 100 810 := by
  unfold RoundsHalfUp; decide +kernel

/-- A standing vehicle, with WATER reporting a volume. -/
def standing (r : Option Nat) (active : Bool) : State :=
  let s := slot 0 200 ready
  { s with gauge := { s.gauge with
    water := { s.gauge.water with state := if active then .filling else .sloshing, reported := r, lastStable := r }
    fill := { s.gauge.fill with active := active, target := if active then some 1000 else none,
                                timer := if active then some 0#32 else none } } }

/-- The frame of FILL START. -/
def fillFrame (v : Nat) : HostFrame := { kind := 0x0D#8, tag := 1, payload := 0#8 :: bytes16 (.ofNat 16 v) }

theorem witness_FillsOpenAndShutTheValve :
    (mayExecute (fillFrame 1000) ready = true ∧ IgnitionOn ready ∧ ¬ FillTaken ready) ∧
    (∀ r ∈ [none, some 2999, some 3000], mayExecute (fillFrame 3001) (standing r false) = true ∧
      IgnitionOn (standing r false) ∧ FillTaken (standing r false)) ∧
    (min (3001#16).toNat (capacityOf (standing none false).settings.gauge.water.strap) = 3000) ∧
    (∀ a ∈ [true, false], mayExecute { kind := 0x0D#8, tag := 1, payload := [1#8] } (standing (some 5) a) = true ∧
      (standing (some 5) a).gauge.fill.active = a) ∧
    (let s := standing (some 5) true
     s.working = true ∧ s.gauge.fill.active = true ∧ due s.time.uptime s.gauge.fill.timer = true) := by
  unfold IgnitionOn FillTaken; decide +kernel

theorem witness_FoamSelectsATank :
    (∀ b ∈ [0, 1, 2, 3], ∀ r ∈ [none, some (0#8), some 1#8, some 60#8, some 61#8],
      mayExecute { kind := 0x0E#8, tag := 1, payload := .ofNat 8 b :: r.toList } ready = true) ∧
    (∀ k ∈ [TankId.foamA, .foamB], (ready.gauge.tank k).state ≠ .absent) ∧
    (let s : State := { ready with gauge := { ready.gauge with foamB := tankStart [] } }
     mayExecute { kind := 0x0E#8, tag := 1, payload := [2] } s = true ∧ (s.gauge.tank .foamB).state = .absent) := by
  decide +kernel

/-- The leak watch in a burst after `n` events, with a reference and the window of WATER. -/
def bursting (n : Nat) (w : List Nat) (ref : Option Nat) (f b : Int) (st : ChannelState) : State :=
  let s := chanIn 3 st (chan 4 b (chan 3 f (parkedIn .watch)))
  { s with gauge := { s.gauge with
    water := { s.gauge.water with window := w }
    leak := { s.gauge.leak with armed := true, timer := some 0#32, burst := some n, burstNext := some 0#32,
                                reference := ref } } }

/-- What the clauses on a burst event share. -/
def burstHyps (s : State) (n : Nat) : Prop :=
  s.powered = true ∧ s.power.state = .watch ∧ s.gauge.leak.burst = some n ∧
  due s.time.uptime s.gauge.leak.burstNext = true ∧ 0 < s.settings.gauge.spacing

/-- A level of 600 mm in both transducers is 1500 L; the leak limit is 40 L. -/
theorem witness_LeakWatchTakesBursts :
    (let s := bursting 0 [] none 600 600 .valid
     s.gauge.leak.armed = true ∧ due s.time.uptime s.gauge.leak.timer = true) ∧
    (let s := bursting 15 (List.replicate 15 600) (some 1541) 600 600 .valid
     burstHyps s 15 ∧ CentreLevel s 600 0 false ∧ ¬ Lost s.inputs.analog[(3 : Fin 10)] ∧
      ¬ Lost s.inputs.analog[(4 : Fin 10)] ∧ (newest 16 (s.gauge.water.window ++ [600])).length = 16 ∧
      WithinBand (newest 16 (s.gauge.water.window ++ [600])) s.settings.gauge.water.settleBand ∧
      RoundsHalfUp (newest 16 (s.gauge.water.window ++ [600])).sum 16 600 ∧
      1500 = volumeOf s.settings.gauge.water.strap 600 ∧ s.gauge.leak.reference = some 1541 ∧
      1500 + s.settings.gauge.leakLimit < 1541) ∧
    (let s := bursting 15 (List.replicate 15 600) (some 1540) 600 600 .valid
     burstHyps s 15 ∧ s.gauge.leak.reference = some 1540 ∧ 1540 ≤ 1500 + s.settings.gauge.leakLimit) ∧
    (let s := bursting 15 (List.replicate 15 587) none 600 600 .valid
     burstHyps s 15 ∧ CentreLevel s 600 0 false ∧ s.gauge.leak.reference = none ∧
      ¬ WithinBand (newest 16 (s.gauge.water.window ++ [600])) s.settings.gauge.water.settleBand) ∧
    (∀ n ∈ [38, 39], let s := bursting n [] none 600 600 .valid
     burstHyps s n ∧ (newest 16 (s.gauge.water.window ++ [600])).length < 16) ∧
    CentreLevel (bursting 39 [] none 600 600 .valid) 600 0 false ∧
    (let s := bursting 0 [] none 600 600 .fault
     burstHyps s 0 ∧ Lost s.inputs.analog[(3 : Fin 10)]) := by
  refine ⟨?_, ⟨?_, ⟨?_, .inl ⟨600, 600, 0, ?_, ?_, ?_, ?_, ?_, rfl⟩⟩, ?_, ?_, ?_, ?_, ?_, ?_, ?_, ?_⟩, ?_,
    ⟨?_, ⟨?_, .inl ⟨600, 600, 0, ?_, ?_, ?_, ?_, ?_, rfl⟩⟩, ?_, ?_⟩, ?_,
    ⟨?_, .inl ⟨600, 600, 0, ?_, ?_, ?_, ?_, ?_, rfl⟩⟩, ?_⟩ <;>
    ((try unfold burstHyps); (try unfold Wet); (try unfold Reads); (try unfold Lost); (try unfold RoundsHalfAway); (try unfold RoundsHalfUp); (try unfold WithinBand); decide +kernel)

/-! ### Witnesses: lockout unit -/

/-- Every discrete sampled, D6 and D7 at 1, the vehicle standing: no condition but C10 can be active. -/
def quiet : State :=
  slot 0 200 (disc 0 false (disc 1 false (disc 2 false (disc 3 false (disc 4 false (disc 5 false
    (disc 6 true (disc 7 true (disc 9 false ready)))))))))

/-- The quiet part after its first evaluation, with C10 and the contributing set of INHIBIT as asked. -/
def evaluated (c10 : Bool) (st : ActionState) : State :=
  { quiet with
    lock := { quiet.lock with
      evaluated := true, starting := false, forced := c10
      conds := quiet.lock.conds.set 10 { active := c10, changed := 0 }
      inhibit := { quiet.lock.inhibit with state := st, contributors := if c10 then [10] else [] } }
    outputs := { quiet.outputs with o2 := decide (st = .released) } }

theorem evaluated_follows (c10 : Bool) (st : ActionState) (h : (c10, st) ∈ [(true, ActionState.asserted),
    (false, .released), (false, .latched), (false, .holdingOff)]) : RecordsFollow (evaluated c10 st) := by
  have k1 : ∀ p ∈ [(true, ActionState.asserted), (false, .released), (false, .latched), (false, .holdingOff)],
      driveFacts (evaluated p.1 p.2) := by unfold driveFacts CavitationFacts; decide +kernel
  have k2 : ∀ p ∈ [(true, ActionState.asserted), (false, .released), (false, .latched), (false, .holdingOff)],
      governorFacts (evaluated p.1 p.2) := by unfold governorFacts; decide +kernel
  have k3 : ∀ p ∈ [(true, ActionState.asserted), (false, .released), (false, .latched), (false, .holdingOff)],
      setFacts (evaluated p.1 p.2) := by unfold setFacts Contributes; decide +kernel
  have k4 : ∀ p ∈ [(true, ActionState.asserted), (false, .released), (false, .latched), (false, .holdingOff)],
      lockFacts (evaluated p.1 p.2) := by unfold lockFacts Contributes; decide +kernel
  exact records_follow (k1 _ h) (k2 _ h) (k3 _ h) (k4 _ h)

theorem witness_PermitOnlyWithMainDisengaged :
    let s := queued .millisecondEnd (evaluated false .released)
    PermitSound (evaluated false .released) ∧ PermitSound s ∧
    (after (step s)).map (fun t => (t.outputs.o2, t.lock.evaluated)) = some (true, true) := by
  have o : OutputsSound (evaluated false .released) := ⟨by decide +kernel, by decide +kernel, by decide +kernel,
    by decide +kernel, by decide +kernel, by decide +kernel, by decide +kernel, by decide +kernel⟩
  have f : FixedActions (evaluated false .released).settings := by unfold FixedActions; decide +kernel
  have g : FixedActions (evaluated false .released).nv.stored := by unfold FixedActions; decide +kernel
  have r := evaluated_follows false .released (by simp)
  exact ⟨⟨f, g, o, fun _ => r⟩, ⟨f, g, ⟨o.1, o.2, o.3, o.4, o.5, o.6, o.7, o.8⟩,
    fun _ => records_follow (by unfold driveFacts CavitationFacts; decide +kernel)
    (by unfold governorFacts; decide +kernel) (by unfold setFacts Contributes; decide +kernel)
    (by unfold lockFacts Contributes; decide +kernel)⟩,
    by decide +kernel⟩

/-- What a command leaves of an action, after an evaluated part has executed it. -/
def leaves (c : Instr) (s : State) (a : ActionId) : Option (Bool × Bool × List (Fin 11) × ActionState) :=
  (after (exec c s)).map fun t =>
    (t.working, t.lock.evaluated, (t.lock.action a).contributors, (t.lock.action a).state)

/-- C10 also feeds IDLE_CAP and ROLL_LIMIT, MANUAL latches. -/
def feeding (s : State) : State :=
  { s with settings := { s.settings with lock := { s.settings.lock with
    actionSets := s.settings.lock.actionSets.set 10 [.inhibit, .rollLimit, .idleCap]
    inhibit := { holdOff := 0, mode := .manual } } } }

theorem witness_ActionsFollowTheirContributors :
    (evaluated true .asserted).working = true ∧ (evaluated true .asserted).lock.evaluated = true ∧
    RecordsFollow (evaluated true .asserted) ∧ (evaluated true .asserted).lock.inhibit.contributors ≠ [] ∧
    leaves (.force 1 0) (evaluated true .asserted) .inhibit = some (true, true, [], .holdingOff) ∧
    RecordsFollow (evaluated false .released) ∧
    leaves (.force 1 1) (evaluated false .released) .inhibit = some (true, true, [10], .asserted) ∧
    ((evaluated false .latched).lock.action .inhibit).state = .latched ∧
    leaves .gaugeEvent (evaluated false .latched) .inhibit = some (true, true, [], .latched) ∧
    leaves (.force 1 0) (feeding (evaluated true .asserted)) .inhibit = some (true, true, [], .latched) ∧
    leaves (.force 1 1) (feeding (evaluated false .released)) .idleCap = some (true, true, [10], .asserted) ∧
    leaves (.force 1 1) (feeding (slot 0 201 (evaluated false .released))) .idleCap = some (true, true, [10], .pending) :=
  ⟨by decide +kernel, by decide +kernel, evaluated_follows _ _ (by simp), by decide +kernel, by decide +kernel,
    evaluated_follows _ _ (by simp), by decide +kernel, by decide +kernel, by decide +kernel, by decide +kernel,
    by decide +kernel, by decide +kernel⟩

/-- INHIBIT holds off, its timer at its end. -/
def holdingOff : State :=
  let s := evaluated false .holdingOff
  { s with lock := { s.lock with inhibit := { s.lock.inhibit with holdOff := some 0#32 } } }

theorem holdingOff_steady : Steady holdingOff :=
  ⟨by decide +kernel, by decide +kernel, by decide +kernel, by decide +kernel, by decide +kernel⟩

theorem latched_steady : Steady (evaluated false .latched) :=
  ⟨by decide +kernel, by decide +kernel, by decide +kernel, by decide +kernel, by decide +kernel⟩

theorem witness_ActionsAreReleasedAndForced :
    (holdingOff.working = true ∧ Steady holdingOff ∧ holdingOff.lock.inhibit.state = .holdingOff ∧
      due holdingOff.time.uptime holdingOff.lock.inhibit.holdOff = true) ∧
    (∀ b ∈ [0, 1, 2, 3], mayExecute { kind := 0x0B#8, tag := 1, payload := [.ofNat 8 b] } ready = true ∧
      mayExecute { kind := 0x0C#8, tag := 1, payload := [.ofNat 8 b] } ready = true) ∧
    (mayExecute { kind := 0x0B#8, tag := 1, payload := [0] } (evaluated false .latched) = true ∧
      Steady (evaluated false .latched) ∧ ((evaluated false .latched).lock.action .inhibit).state = .latched) ∧
    (mayExecute { kind := 0x0B#8, tag := 1, payload := [0] } (evaluated false .released) = true ∧
      ((evaluated false .released).lock.action .inhibit).state = .released) ∧
    (mayExecute { kind := 0x0B#8, tag := 1, payload := [0] } (evaluated true .asserted) = true ∧
      ((evaluated true .asserted).lock.action .inhibit).state = .asserted ∧
      ((evaluated true .asserted).lock.action .inhibit).contributors = [10]) ∧
    (ready.lock.conds[(10 : Fin 11)]).active = false ∧ ((evaluated true .asserted).lock.conds[(10 : Fin 11)]).active = true :=
  ⟨⟨by decide +kernel, holdingOff_steady, by decide +kernel, by decide +kernel⟩, by decide +kernel,
    ⟨by decide +kernel, latched_steady, by decide +kernel⟩, by decide +kernel, by decide +kernel, by decide +kernel,
    by decide +kernel⟩

/-- AUX rolls just over the threshold of 14.00 km/h, with the overspeed timer at its end. -/
def overspeeding (drop fb : Bool) : State :=
  let s := slot 0 1401 (disc 2 fb rolling)
  { s with lock := { s.lock with overspeed := .timing, overspeedTimer := some 0#32 }
           settings := { s.settings with lock := { s.settings.lock with autoDrop := drop } } }

theorem witness_OverspeedTripsAndDropsAux :
    ∀ p ∈ [(true, true), (true, false), (false, true)],
      let s := overspeeding p.1 p.2
      IgnitionOn s ∧ s.lock.overspeed = .timing ∧ due s.time.uptime s.lock.overspeedTimer = true ∧
      s.quantity 0 = some 1401 ∧ s.settings.lock.rollSpeedLimit + 200 < 1401 ∧
      s.pto.aux.state ∈ [.engaged, .settling, .shifting] ∧ ¬ OtherShifts s .aux ∧ s.notices.entries.length < 32 ∧
      s.settings.lock.autoDrop = p.1 ∧ s.feedback .aux = p.2 := by
  unfold IgnitionOn OtherShifts; decide +kernel

/-! ### Witnesses: panel link -/

theorem witness_FramesCarryTheirContents :
    (List.replicate 248 (0xFF#8)).length ≤ 248 ∧
    frameLayout (buildFrame 0x02#8 7#8 [14, 0]) = true ∧ crcMatches (buildFrame 0x02#8 7#8 [14, 0]) = true := by
  decide +kernel

/-- The receiver with a frame in assembly and a line parity. -/
def assembling (bs : List Byte) (p : Parity) : State :=
  { ready with link := { ready.link with assembly := bs, interByte := some 0#32, lineParity := p } }

theorem witness_ReceiverAssemblesFrames :
    (ready.working = true ∧ ready.link.assembly = [] ∧ (0xA4#8) ≠ 0xA5#8) ∧
    ((assembling [0xA5] .none).link.assembly.length = 1 ∧ (1#8).toNat < 2 ∧ 250 < (251#8).toNat ∧
      (2 ≤ (2#8).toNat ∧ (2#8).toNat ≤ 250) ∧ (2 ≤ (250#8).toNat ∧ (250#8).toNat ≤ 250)) ∧
    (let l := (assembling [0xA5, 2, 1, 1] .none).link
     2 ≤ l.assembly.length ∧ l.assembly[1]? = some 2 ∧ l.assembly.length + 1 < (2#8).toNat + 4) ∧
    (let f := buildFrame 1 1 []
     let l := (assembling f.dropLast .none).link
     4 ≤ l.assembly.length ∧ frameLayout (l.assembly ++ [f.getLast?.getD 0]) = true ∧ l.assembly <+: f ∧
      crcMatches f = true) ∧
    (let f : List Byte := [0xA5, 2, 1, 1, 0, 0]
     frameLayout f = true ∧ (assembling [0xA5, 2] .none).link.assembly <+: f ∧ crcMatches f = false) ∧
    ((assembling [] .even).link.lineParity = .even ∧ (assembling [] .none).link.lineParity = .none ∧
      due ready.time.uptime (assembling [] .none).link.interByte = true) := by decide +kernel

/-- A frame awaits execution. -/
def awaiting (f : HostFrame) : State := { ready with link := { ready.link with awaiting := some f } }

theorem witness_ExecutionStartIsTheRequestsRow :
    (let i := Instr.set 9 6 0 [{ field := 19, value := [50] }]
     let f : HostFrame := { kind := 0x04#8, tag := 9, payload := [6, 0, 19, 1, 50] }
     requestFrame i = some f ∧ i.wf = true ∧ (awaiting f).link.awaiting = some f ∧ linkFree f (awaiting f) = true) ∧
    (let i := Instr.unknownKind 9 0x14
     let f : HostFrame := { kind := 0x14#8, tag := 9, payload := [] }
     requestFrame i = some f ∧ i.wf = true ∧ (awaiting f).link.awaiting = some f) := by decide +kernel

/-- A request of a kind with a payload and tag 9 is served. -/
def served (k : Byte) (p : List Byte) (s : State) : Bool := mayExecute { kind := k, tag := 9, payload := p } s

theorem witness_RequestsThatTell :
    served 1 [] ready = true ∧
    (served 2 [17, 1] ready = true ∧ objectOf (17#8).toNat (1#8).toNat = none) ∧
    (served 2 [1, 22] ready = true ∧ objectOf (1#8).toNat (22#8).toNat = some (.channel 22)) ∧
    (served 2 [14, 0] ready = true ∧ objectOf (14#8).toNat (0#8).toNat = some .link) ∧ served 3 [] ready = true ∧
    (isHostKind 0x14 = false ∧ isHostKind 0 = false ∧ linkFree { kind := 0x14, tag := 9, payload := [] } ready = true ∧ ready.link.awaiting = none) ∧
    (linkFree { kind := 0x14, tag := 9, payload := [] } (awaiting { kind := 0x14, tag := 9, payload := [1, 2] }) = true ∧
      (awaiting { kind := 0x14, tag := 9, payload := [1, 2] }).link.awaiting =
        some { kind := 0x14, tag := 9, payload := [1, 2] }) := by decide +kernel

theorem witness_SetChecksAndApplies :
    (served 4 [6, 0] ready = true ∧ entriesLength [] ≤ 246) ∧
    (let es : List FieldEntry := [{ field := 1, value := [] }]
     served 4 (18 :: 0 :: entriesBytes es) ready = true ∧ es ≠ [] ∧ objectOf (18#8).toNat (0#8).toNat = none) ∧
    (let es : List FieldEntry := [{ field := 7, value := [0, 0] }]
     served 4 (5 :: 0 :: entriesBytes es) (drv .main .fault ready) = true ∧
      objectOf (5#8).toNat (0#8).toNat = some (.drive .main) ∧
      ¬ ((drv .main .fault ready).pto.main.state = .disengaged ∧ (drv .main .fault ready).pto.aux.state = .disengaged)) ∧
    (let es : List FieldEntry := [{ field := 1, value := [0] }]
     served 4 (6 :: 0 :: entriesBytes es) ready = true ∧ objectOf (6#8).toNat (0#8).toNat = some .governor) ∧
    (let e : FieldEntry := { field := 19, value := [50] }
     served 4 (6 :: 0 :: entriesBytes [e, e]) ready = true ∧ [e, e][0]? = some e ∧ [e, e][1]? = some e) ∧
    (ready.settings.gov.idleRpm ≤ ready.settings.gov.speedSetpoint ∧
      ready.settings.gov.speedSetpoint ≤ ready.settings.gov.govMax ∧
      ready.settings.gauge.gauging ≤ ready.settings.gauge.spacing ∧
      ready.settings.prot.warn ≤ ready.settings.prot.critical - 50) ∧
    (let s := protecting .floor 700 true none .auto ready
     served 4 [6, 0, 14, 2, 0xBD, 2] s = true ∧
      (701 : Int) = max 500 (min (min 1000 (s.settings.lock.rollRpmMax - 100)) ((0xBD#8).toNat + 256 * (2#8).toNat)) ∧
      s.settings.gov.idleRpm < 701 ∧ s.prot.ceiling.value < 701 ∧ s.settings.prot.enabled[(2 : Fin 5)] = true ∧
      (s.prot.conds[(2 : Fin 5)]).state = .active ∧
      (∀ j : Fin 5, j < 2 → ¬ (s.settings.prot.enabled[j] = true ∧ (s.prot.conds[j]).state = .active))) ∧
    (∀ b ∈ [4, 5, 200, 201], served 4 [6, 0, 19, 1, .ofNat 8 b] ready = true) ∧ Steady ready := by
  refine ⟨?_, ?_, ?_, ?_, ?_, ?_, ?_, ?_, ready_steady⟩ <;> decide +kernel

theorem witness_StoreAndRecallMoveTheSettings :
    (served 5 [] ready = true ∧ ready.nv.activity = .idle) ∧
    (served 5 [] (writing false false false .awake true) = true ∧
      (writing false false false .awake true).nv.activity ≠ .idle) ∧
    (let s := writing false false true .awake true
     s.powered = true ∧ s.nv.activity = .meterWrite 1 2 3 false false ∧ s.nv.storeWaiting = true) ∧
    (∀ d ∈ [true, false],
      let s : State := { ready with nv := { ready.nv with activity := .store }
                                    link := { ready.link with executing := some (.store 9 d) } }
      s.powered = true ∧ s.nv.activity = .store ∧ s.link.executing = some (.store 9 d)) ∧
    (served 6 [] (drv .main .fault ready) = true ∧ (drv .main .fault ready).pto.main.state ≠ .disengaged) ∧
    (let s : State := { ready with store := { ready.store with copy := .invalid } }
     served 6 [] s = true ∧ s.store.copy ≠ .valid) ∧
    (let p := protecting .floor 700 true none .auto ready
     let s : State := { p with nv := { p.nv with stored := { p.nv.stored with gov := { p.nv.stored.gov with
       idleRpm := 701 } } } }
     served 6 [] s = true ∧ s.pto.main.state = .disengaged ∧ s.pto.aux.state = .disengaged ∧ s.store.copy = .valid ∧
      s.settings.gov.idleRpm < s.nv.stored.gov.idleRpm ∧ s.prot.ceiling.value < s.nv.stored.gov.idleRpm ∧
      s.settings.prot.enabled[(2 : Fin 5)] = true ∧ (s.prot.conds[(2 : Fin 5)]).state = .active ∧
      (∀ j : Fin 5, j < 2 → ¬ (s.settings.prot.enabled[j] = true ∧ (s.prot.conds[j]).state = .active))) ∧
    (served 6 [] ready = true ∧ ready.pto.main.state = .disengaged ∧ ready.pto.aux.state = .disengaged ∧
      ready.store.copy = .valid ∧ ready.nv.stored.gov.idleRpm ≤ ready.settings.gov.idleRpm) := by
  refine ⟨?_, ?_, ?_, ?_, ?_, ?_, ?_, ?_⟩ <;> decide +kernel

/-- A monitor list of a length, its first item with a change pending and its spacing at the end. -/
def monitoring (n : Nat) : State :=
  { ready with link := { ready.link with
    monitors := List.replicate n { ref := .timebase, spacing := some 0#32, changePending := true } } }

theorem witness_ReportsAreOrderedAndTimed :
    (objectOf (17#8).toNat (0#8).toNat = some .identity ∧ served 0x11 [0, 17, 0] ready = true ∧
      served 0x11 [1, 17, 0] ready = true) ∧
    (objectOf (0#8).toNat (0#8).toNat = none ∧ served 0x11 [0, 0, 0] ready = true) ∧
    (objectOf (6#8).toNat (0#8).toNat = some .governor ∧ Obj.governor ≠ .identity ∧
      (∀ n ∈ [3, 4], served 0x11 [0, 6, 0] (monitoring n) = true ∧ served 0x11 [1, 6, 0] (monitoring n) = true ∧
        .governor ∉ (monitoring n).link.monitors.map (·.ref) ∧ (monitoring n).link.monitors.length = n)) ∧
    (objectOf (12#8).toNat (0#8).toNat = some .timebase ∧ served 0x11 [0, 12, 0] (monitoring 1) = true ∧
      .timebase ∈ (monitoring 1).link.monitors.map (·.ref)) ∧
    (let m : MonItem := { ref := .timebase, spacing := some 0#32, changePending := true }
     let s := monitoring 1
     s.working = true ∧ s.link.monitors[(0 : Fin 4).val]? = some m ∧ due s.time.uptime m.spacing = true ∧
      m.changePending = true) ∧
    (∀ v ∈ [0, 1, 99, 100, 500, 5000, 5001], served 0x12 (bytes16 (.ofNat 16 v)) ready = true) ∧
    (let s : State := { ready with link := { ready.link with statusTimer := some 0#32 } }
     s.working = true ∧ due s.time.uptime s.link.statusTimer = true) := by
  refine ⟨?_, ?_, ?_, ?_, ?_, ?_, ?_⟩ <;> decide +kernel

/-- A notice queue entry of a class. -/
def entry (cls : NoticeClass) (sending : Bool) (subject : Nat) : Entry :=
  { kind := .protect, cls := cls, subject := subject, stamp := 0, repeats := 1, detail := [], sending := sending }

/-- The transmitter with a queue, ready reports and a due STATUS, nothing on the line. -/
def speaking (q : List Entry) (r : List Obj) (due : Bool) : State :=
  { ready with notices := { entries := q, lost := true }
               link := { ready.link with ready := r, statusDue := due } }

/-- A reply of a body's length with some parts begun. -/
def replying (n begun : Nat) (pending : Bool) (tx : Option TxFrame) : State :=
  { ready with link := { ready.link with
    reply := some { tag := 9, code := .ok, body := List.replicate n 0, begun := begun }, linePending := pending, tx := tx } }

/-- A frame of a kind on the line. -/
def onLine (k : TxKind) : Option TxFrame := some { kind := k, bytes := [] }

theorem witness_TransmitterSendsInOrder_start :
    (∀ p ∈ [(0, 0), (245, 0), (246, 1)], (replying p.1 p.2 false none).working = true ∧
      (replying p.1 p.2 false none).link.tx = none ∧ p.2 < partCount (List.replicate p.1 (0#8))) ∧
    (let s := speaking [entry .info false 0, entry .alarm false 1] [.governor] true
     s.link.reply = none ∧ s.notices.entries = [entry .info false 0] ++ entry .alarm false 1 :: [] ∧
      (∀ x ∈ [entry .info false 0], x.sending = true ∨ x.cls ≠ .alarm) ∧ (entry .alarm false 1).sending = false ∧
      (entry .alarm false 1).cls = .alarm) ∧
    (let s := speaking [entry .alarm true 0, entry .info false 1] [] true
     s.notices.entries = [entry .alarm true 0] ++ entry .info false 1 :: [] ∧
      (∀ x ∈ s.notices.entries, x.sending = true ∨ x.cls ≠ .alarm) ∧ (∀ x ∈ [entry .alarm true 0], x.sending = true) ∧
      s.link.ready = [] ∧ s.link.changeTail = []) ∧
    (let s := speaking [entry .info false 1] [.governor, .power] true
     (∀ x ∈ s.notices.entries, x.sending = true ∨ x.cls ≠ .alarm) ∧ s.link.changeTail = [] ∧
      s.link.ready = .governor :: [.power] ∧ (recordBytes s .governor).length ≤ 246) ∧
    (∀ d ∈ [true, false], let s := speaking [] [] d
     s.working = true ∧ s.link.tx = none ∧ s.link.reply = none ∧ (∀ x ∈ s.notices.entries, x.sending = true) ∧
      s.link.ready = [] ∧ s.link.changeTail = [] ∧ s.link.statusDue = d) := by
  refine ⟨?_, ?_, ?_, ?_, ?_⟩ <;> decide +kernel

theorem witness_TransmitterSendsInOrder_end :
    (∀ k ∈ [TxKind.notice, .change, .status],
      let s : State := { ready with link := { ready.link with tx := onLine k } }
      s.powered = true ∧ s.link.tx = some { kind := k, bytes := [] }) ∧
    (∀ p ∈ [(246, 1, false), (245, 1, false), (245, 1, true)],
      let s := replying p.1 p.2.1 p.2.2 (onLine .reply)
      s.powered = true ∧ s.link.linePending = p.2.2 ∧ s.link.assembly = []) ∧
    1 < partCount (List.replicate 246 (0#8)) ∧ partCount (List.replicate 245 (0#8)) ≤ 1 := by
  refine ⟨?_, ?_, ?_, ?_⟩ <;> decide +kernel

/-! ### Witnesses: restart, power states, notices -/

/-- D8 about to be taken at a level, in a power state. -/
def ignitionComing (p : PowerState) (level : Bool) (s : State) : State :=
  let s := counted 8 (!level) 3 s
  { s with power := { s.power with state := p, silence := some 0#32, rundown := some 0#32, settling := some 0#32 } }

theorem witness_RestartAndBreak :
    (served 0x13 [] ready = true ∧ ready.pto.main.state = .disengaged ∧ ready.pto.aux.state = .disengaged ∧
      ready.gauge.fill.active = false) ∧
    (served 0x13 [] (drv .aux .fault ready) = true ∧ (drv .aux .fault ready).pto.aux.state ≠ .disengaged) ∧
    (let s : State := { ready with link := { ready.link with executing := some (.restart false) } }
     s.working = true ∧ s.link.executing = some (.restart false) ∧ s.link.reply = none) ∧
    (ready.working = true ∧ ready.link.linePending = false) ∧
    ((parkedIn .watch).powered = true ∧ (parkedIn .watch).power.state = .watch ∧
      (parkedIn .waking).power.state = .waking) ∧
    (let s := ignitionComing .watch true ready
     let d := s.inputs.discrete[(8 : Fin 10)]
     s.powered = true ∧ s.power.state = .watch ∧ s.settings.polarity[(8 : Fin 10)] = .activeHigh ∧
      sampleDue s.time.uptime d.next = true ∧ d.awaitFirst = false ∧ d.level = false ∧ d.count = 3) := by
  refine ⟨?_, ?_, ?_, ?_, ?_, ?_⟩ <;> decide +kernel

theorem witness_PowerStatesFollowTheIgnition :
    (let s := ignitionComing .awake false ready
     s.working = true ∧ due s.time.uptime s.power.silence = true ∧ s.power.state = .awake ∧ s.level 8 = true) ∧
    (let s := drv .aux .fault (ignitionComing .awake true ready)
     s.working = true ∧ due s.time.uptime s.power.silence = true ∧ s.power.state = .awake ∧ s.level 8 = false ∧
      (s.inputs.discrete[(8 : Fin 10)]).awaitFirst = false ∧ (s.pto.drive .main).state = .disengaged ∧
      (s.pto.drive .aux).state = .fault ∧ s.feedback .aux = false ∧ s.gauge.fill.active = false ∧
      s.power.watchPending = false) ∧
    (let s := drv .main .engaged (ignitionComing .awake false (disc 1 true ready))
     let d := s.inputs.discrete[(8 : Fin 10)]
     s.powered = true ∧ s.settings.polarity[(8 : Fin 10)] = .activeHigh ∧ sampleDue s.time.uptime d.next = true ∧
      d.awaitFirst = false ∧ d.count = 3 ∧ s.power.state = .awake ∧ d.level = true ∧
      s.pto.main.state = .engaged ∧ s.level 1 = true ∧ s.pto.aux.state = .disengaged) ∧
    (let s := ignitionComing .rundown true ready
     s.power.state = .rundown ∧ (s.inputs.discrete[(8 : Fin 10)]).level = false ∧ s.working = true ∧
      due s.time.uptime s.power.rundown = true ∧ s.level 8 = false) ∧
    (let s := ignitionComing .waking true ready
     s.powered = true ∧ s.power.state = .waking ∧ due s.time.uptime s.power.settling = true) ∧
    ready.lock.inhibit.state ≠ .latched ∧ (evaluated false .latched).lock.inhibit.state = .latched := by
  refine ⟨?_, ?_, ?_, ?_, ?_, ?_, ?_⟩ <;> decide +kernel

/-- A notice of class ALARM or WARNING about condition 1. -/
def about (cls : NoticeClass) : Notice := { kind := .protect, cls := cls, subject := 1, detail := [7] }

theorem witness_NoticesAreCoalescedOrAppended :
    (let q := [entry .info true 1] ++ entry .warning false 1 :: [entry .info false 2]
     (∀ x ∈ [entry .info true 1], ¬ (x.sending = false ∧ x.kind = (about .alarm).kind ∧ x.subject = (about .alarm).subject)) ∧
      (entry .warning false 1).sending = false ∧ (entry .warning false 1).kind = (about .alarm).kind ∧
      (entry .warning false 1).subject = (about .alarm).subject ∧ q.length = 3) ∧
    (∀ n ∈ [31, 32], ∀ x ∈ (List.range n).map (fun k => entry .alarm false (k + 2)),
      ¬ (x.sending = false ∧ x.kind = (about .alarm).kind ∧ x.subject = (about .alarm).subject)) ∧
    (let q := [entry .alarm false 9] ++ entry .info false 10 :: (List.range 30).map (fun k => entry .alarm false (k + 11))
     32 ≤ q.length ∧ (about .alarm).cls = .alarm ∧ (∀ x ∈ [entry .alarm false 9], x.sending = true ∨ x.cls = .alarm) ∧
      (entry .info false 10).sending = false ∧ (entry .info false 10).cls ≠ .alarm ∧
      (∀ x ∈ q, ¬ (x.sending = false ∧ x.kind = (about .alarm).kind ∧ x.subject = (about .alarm).subject))) ∧
    (let q := (List.range 32).map (fun k => entry .alarm false (k + 2))
     32 ≤ q.length ∧ (about .warning).cls ≠ .alarm ∧ (∀ x ∈ q, x.sending = true ∨ x.cls = .alarm)) := by
  refine ⟨?_, ?_, ?_, ?_⟩ <;> decide +kernel

/-! ### Witnesses: the clauses on rarer ways -/

/-- The completion of a meter write that an entry to WATCH awaits, with a RESTART being executed. -/
theorem witness_MeterWriteCompletionGoesOn_entry :
    (∀ p ∈ [(PowerState.rundown, true), (.awake, false)],
      let s : State := { writing true false false p.1 p.2 with link := { ready.link with executing := some (.restart true) } }
      s.powered = true ∧ s.nv.activity = .meterWrite 1 2 3 true false ∧ s.nv.storeWaiting = false ∧
      s.power.watchPending = true ∧ (true = true ↔ s.power.state = .rundown ∨ (s.power.state = .awake ∧
        s.level 8 = false ∧ s.drivesReleased = true ∧ s.gauge.fill.active = false ∧ s.power.silence = none)) ∧
      s.link.executing = some (.restart true)) ∧
    (∀ s ∈ [writing true false false .awake true,
        { writing true false false .awake false with power.silence := some 0#32 },
        { writing true false false .awake false with
          chassis := (slot 0 200 ready).chassis, gauge := { ready.gauge with fill := { ready.gauge.fill with active := true } } }],
      s.powered = true ∧ s.nv.activity = .meterWrite 1 2 3 true false ∧ s.power.watchPending = true ∧
      s.power.state = .awake ∧ (false = true ↔ s.power.state = .rundown ∨ (s.power.state = .awake ∧
        s.level 8 = false ∧ s.drivesReleased = true ∧ s.gauge.fill.active = false ∧ s.power.silence = none)) ∧
      (s.level 8 = true ∨ (s.drivesReleased = true ∧
        (s.power.silence ≠ none ∨ (s.gauge.fill.active = true ∧ s.vehicle = .stationary))))) := by decide +kernel

/-- The agreement monitor at the end of its timer, with a park brake byte or none, and D0. -/
def braking (q : Option Int) (d0 : Bool) : State :=
  let s := disc 0 d0 ready
  let s := match q with | none => s | some v => slot 3 v s
  { s with inputs := { s.inputs with brake := { state := .disagreeTiming, timer := some 0#32 } } }

theorem witness_ScannerTimersExpire_agreement :
    (let s := braking none true
     s.working = true ∧ s.inputs.brake.state = .disagreeTiming ∧ due s.time.uptime s.inputs.brake.timer = true ∧
      s.quantity 3 = none) ∧
    (∀ p ∈ [(1, true), (0, false)], let s := braking (some p.1) p.2
     s.quantity 3 = some p.1 ∧ (p.1 ≠ 0 ↔ s.level 0 = true)) ∧
    (∀ p ∈ [(1, false), (0, true)], let s := braking (some p.1) p.2
     s.quantity 3 = some p.1 ∧ ¬ (p.1 ≠ 0 ↔ s.level 0 = true)) ∧ RoomLeft ready.notices := by
  unfold RoomLeft; decide +kernel

/-- A bound and an unbound slot go stale with room in the queue. -/
theorem witness_ReceiveSlotsFillAndAge_room :
    (∀ k ∈ [(0 : Fin 16), 6],
      let s := { slot k 100 ready with time.uptime := 300#32 }
      s.working = true ∧ due s.time.uptime (s.chassis.rx[k]).age = true ∧ RoomLeft s.notices) ∧
    (ready.settings.rx[(0 : Fin 16)]).bound = some 0 ∧ (ready.settings.rx[(6 : Fin 16)]).bound = none := by
  unfold RoomLeft; decide +kernel

/-- T0's frame, offered as 0x0C0, loses to a lower identifier, of data or remote. -/
theorem witness_PortFollowsErrorsAndRecovery_arbitration :
    (∀ f ∈ [BusFrame.data { ext := false, num := 0x0BF } [1], .remote { ext := false, num := 0 }],
      f.wf = true ∧ precedes (frameId f) { ext := false, num := 0x0C0 } = true) ∧
    (let s := sendingAt 0 0 .errorActive
     s.working = true ∧ onBus s.chassis = true ∧ sendingSlot s.chassis = some 0 ∧
      s.chassis.content = some { slot := 0, id := { ext := false, num := 0x0C0 }, bytes := [] } ∧
      (s.settings.tx[(0 : Fin 4)]).enabled = true ∧ (∃ t, exec (.rxDataFrame { ext := false, num := 0x0BF } [1]) s = .next t)) :=
  ⟨by decide +kernel, by decide +kernel, by decide +kernel, by decide +kernel, by decide +kernel, by decide +kernel,
    executes (by decide +kernel)⟩

/-! #### Changes of the governed drive -/

/-- A drive at the end of its settle timer, everything else ready for it, the vehicle at a speed. -/
def engaging (d : DriveId) (v : Int) : State :=
  let s := slot 2 4 (slot 0 v (disc 1 true (disc 2 true ready)))
  let turn (p : PulseChan) : PulseChan := { p with eng := 300 }
  follow { s with
    pto := s.pto.setDrive d { s.pto.drive d with state := .settling, settle := some 0#32 }
    inputs := { s.inputs with pulse := s.inputs.pulse.map turn } }

/-- Both drives pump, MAIN governed. -/
def twoPumps (v : Int) : State :=
  let s := slot 0 v (disc 2 true (pumping .pressure))
  follow { s with
    pto := { s.pto with aux := { s.pto.aux with state := .engaged, ready := true } }
    inputs := { s.inputs with pulse := s.inputs.pulse.set 1 { s.inputs.pulse[1] with eng := 300 } } }

/-- MAIN winds down in a gear, the engine slow, the resume mode kept. -/
def winding (gear : Int) : State :=
  let s := pumping .idle
  follow (slot 1 900 (slot 2 gear { s with
    pto := { s.pto with main := { s.pto.main with state := .windingDown, ready := false, recheck := some 0#32 } }
    gov := { s.gov with governed := none, windDown := some .main, resume := some .pressure } }))

/-- AUX pumps in SPEED in a standing vehicle, the port on the bus. -/
def auxPumping : State :=
  let s := slot 0 200 rolling
  { s with gov := { s.gov with mode := .speed, stop := none }, chassis := { s.chassis with joined := true } }

/-- The last transmit error before BUS_OFF, MAIN pumping. -/
def failing (m : GovMode) : State :=
  let s := pumping m
  { s with chassis := { s.chassis with
    tx := s.chassis.tx.set 1 { state := .sending, dueAgain := false, lastSent := 0 }, txErrors := 248, joined := true
    port := .errorPassive } }

/-- What the governor's clauses ask of the state after a command in a part that works on. -/
structure Turn where
  works : Bool
  governed : Option DriveId
  windDown : Option DriveId
  mode : GovMode
  stands : Bool
  path : ThrottlePath
  deriving DecidableEq

/-- The governor after a command. -/
def turns (c : Instr) (s : State) : Option Turn :=
  (after (exec c s)).map fun t => ⟨t.working, t.gov.governed, t.gov.windDown, t.gov.mode, t.stationary, t.gov.path⟩

/-- The frame of a vehicle speed. -/
def speed (v : Nat) : Instr := .rxDataFrame { ext := false, num := 0x1A0 } (u16 v)

/-- MAIN is about to be governed from OFF, in which idle_rpm has been lowered from 700. -/
def lowered : State := { engaging .main 200 with settings.gov.idleRpm := 600 }

/-- The states from which the governor's clauses start. -/
def governorStarts : List State :=
  [engaging .main 200, engaging .aux 200, engaging .aux 201, pumping .pressure, pumping .hold, pumping .speed,
   twoPumps 200, twoPumps 201, winding 4, winding 0, auxPumping, { rolling with chassis.joined := true }, stopping,
   failing .pressure, failing .idle, lowered]

theorem starts_follow : ∀ s ∈ governorStarts, s.working = true ∧ RecordsFollow s := by
  have k1 : ∀ s ∈ governorStarts, s.working = true ∧ driveFacts s := by
    unfold driveFacts CavitationFacts; decide +kernel
  have k2 : ∀ s ∈ governorStarts, governorFacts s := by unfold governorFacts; decide +kernel
  have k3 : ∀ s ∈ governorStarts, setFacts s := by unfold setFacts Contributes; decide +kernel
  have k4 : ∀ s ∈ governorStarts, lockFacts s := by unfold lockFacts Contributes; decide +kernel
  exact fun s h => ⟨(k1 s h).1, records_follow (k1 s h).2 (k2 s h) (k3 s h) (k4 s h)⟩

theorem witness_GovernorReturnsToIdle_turns :
    (∀ p ∈ [(Instr.settleExpiry .main, engaging .main 200, Turn.mk true (some .main) none .idle true .available),
        (.settleExpiry .main, lowered, ⟨true, some .main, none, .idle, true, .available⟩),
        (.settleExpiry .aux, engaging .aux 200, ⟨true, some .aux, none, .idle, true, .available⟩),
        (.settleExpiry .aux, engaging .aux 201, ⟨true, some .aux, none, .roll, false, .available⟩),
        (.ptoEngage 1 0, winding 4, ⟨true, some .main, none, .idle, true, .available⟩),
        (.discreteSample 1 false, twoPumps 200, ⟨true, some .aux, none, .idle, true, .available⟩),
        (.discreteSample 1 false, twoPumps 201, ⟨true, some .aux, none, .roll, false, .available⟩),
        (.ptoDisengage 1 0, pumping .pressure, ⟨true, none, some .main, .idle, true, .available⟩),
        (.discreteSample 1 false, pumping .hold, ⟨true, none, none, .off, true, .available⟩),
        (.windDownRecheck .main, winding 0, ⟨true, none, none, .off, true, .available⟩),
        (speed 201, auxPumping, ⟨true, some .aux, none, .roll, false, .available⟩),
        (speed 200, { rolling with chassis.joined := true }, ⟨true, some .aux, none, .roll, true, .available⟩),
        (.gaugeEvent, stopping, ⟨true, some .aux, none, .roll, true, .available⟩),
        (.transmitError, failing .pressure, ⟨true, some .main, none, .idle, true, .lost⟩),
        (.transmitError, failing .idle, ⟨true, some .main, none, .idle, true, .lost⟩)],
      turns p.1 p.2.1 = some p.2.2) ∧
    ∀ m ∈ [GovMode.pressure, .idle], (failing m).gov.path = .available ∧ RoomLeft (failing m).notices := by
  unfold RoomLeft; decide +kernel

/-- T0 falls due as OFF is left and entered, T1 at a change of its fields. -/
theorem witness_SlotsFallDue_changes :
    (∀ p ∈ [(Instr.settleExpiry .main, engaging .main 200), (.discreteSample 1 false, pumping .idle)],
      p.2.working = true ∧ (after (exec p.1 p.2)).map (fun t => (t.working, t.chassis.port)) =
        some (true, .errorActive) ∧
      (after (exec p.1 p.2)).map (fun t => decide (frameContent p.2 1 ≠ frameContent t 1)) = some true) ∧
    ((engaging .main 200).gov.mode = .off ∧ (pumping .idle).gov.mode ≠ .off) := by decide +kernel

/-- D3 about to be found at 1 by its first sample, or by its fourth differing sample. -/
def cabAsks (first : Bool) (s : State) : State :=
  { s with inputs := { s.inputs with
    discrete := s.inputs.discrete.set 3 { raw := false, level := false, count := 3, awaitFirst := first, next := some 0#32 } } }

theorem witness_EngageIsAnsweredByTheDriveState_cab :
    (∀ st ∈ [DriveState.requested, .shifting, .settling, .engaged, .releasing, .fault, .disengaged, .windingDown],
      ∀ first ∈ [true, false],
      let s := cabAsks first (drv .main st ready)
      let d := s.inputs.discrete[(3 : Fin 10)]
      IgnitionOn s ∧ s.pto.main.state = st ∧ s.pto.main.waiver = false ∧ s.pto.aux.state ∉ [.requested, .windingDown] ∧
      sampleDue s.time.uptime d.next = true ∧ true = decide (s.settings.polarity[(3 : Fin 10)] = .activeHigh) ∧
      d.awaitFirst = first ∧ d.level = false ∧ d.count = 3 ∧ RoomLeft s.notices) ∧
    FirstUnmet (engageConditions (cabAsks false ready) .main) (some .notStationary) := by
  refine ⟨by unfold IgnitionOn RoomLeft; decide +kernel, ?_⟩
  have h : ¬ (cabAsks false ready).vehicle = .stationary := by decide +kernel
  simp [FirstUnmet, engageConditions, h]

theorem witness_refused_notices_have_room :
    RoomLeft (requested free).notices ∧ RoomLeft (windingDown free).notices ∧
    (requested free).pto.main.reason = some .gear := by unfold RoomLeft; decide +kernel

/-- D1's first sample, MAIN DISENGAGED with its uncommanded-feedback timer running or not. -/
theorem witness_FeedbackMovesTheDrive_first :
    (let s := ready
     let c := s.inputs.discrete[(1 : Fin 10)]
     IgnitionOn s ∧ (s.pto.drive .main).state = .disengaged ∧ sampleDue s.time.uptime c.next = true ∧
      c.awaitFirst = true ∧ c.level = false ∧ s.notices.entries.length < 32) ∧
    (∀ level ∈ [true, false], ∀ p ∈ [Polarity.activeHigh, .activeLow],
      let s : State := { ready with settings := { ready.settings with polarity := ready.settings.polarity.set 1 p } }
      s.settings.polarity[(1 : Fin 10)] = p ∧
      (if p = .activeHigh then level else !level) =
        (if s.settings.polarity[(1 : Fin 10)] = .activeHigh then level else !level)) := by
  unfold IgnitionOn; decide +kernel

theorem witness_EngineRequestWithinTheCeilings_frames :
    (let s := governing .pressure .valid 1000
     LeastCeiling s 2200 ∧ s.gov.governed = some .main ∧ IsDischarge s s.inputs.analog[(0 : Fin 10)] ∧
      (s.inputs.analog[(0 : Fin 10)]).state = .valid ∧ (s.inputs.analog[(0 : Fin 10)]).eng = some 1000 ∧
      s.engineRequest = some s.gov.request) ∧
    (LeastCeiling ready 2200 ∧ ready.gov.governed = none ∧ ready.gov.mode = .off) ∧
    (LeastCeiling rolling 1600 ∧ rolling.gov.mode = .roll ∧ rolling.lock.rollLimit.state = .asserted) ∧
    twoBytes 0xFFFF = [0xFF, 0xFF] ∧ twoBytes 0x7FFF = [0xFF, 0x7F] ∧ twoBytes (-2) = [0xFE, 0xFF] :=
  ⟨⟨least_ceiling _ (by simp), by decide +kernel, .inl ⟨by decide +kernel, rfl⟩, by decide +kernel⟩,
    by unfold LeastCeiling; decide +kernel, by unfold LeastCeiling; decide +kernel, by decide⟩

/-- Foam tank A at an event with A5 in a state at 400 mm, a window of fifteen levels, and a last stable volume. -/
def foaming (st : ChannelState) (t : TankState) (w : List Nat) (last : Option Nat) : State :=
  let s := chanIn 5 st (chan 5 400 ready)
  { s with
    gauge := { s.gauge with
      next := some 0#32, foamA := { s.gauge.foamA with state := t, window := w, lastStable := last, consumed := 1 } }
    notices := { s.notices with entries := [] } }

/-- Foam tank A: STABLE and reconciled beyond the limit of 10 L (400 mm is 100 L), SLOSHING, its transmitter lost at and
after the entry to FAULT, and awaited. -/
theorem witness_GaugeEventGaugesTheWater_foam :
    (∀ p ∈ [(90, 111), (90, 110)],
      let s := foaming .valid .sloshing (List.replicate 15 400) (some p.2)
      s.working = true ∧ due s.time.uptime s.gauge.next = true ∧ s.gauge.fill.active = false ∧
      s.gauge.foamA.state = .sloshing ∧ Reads s.inputs.analog[(5 : Fin 10)] 400 ∧ ((400 : Nat) : Int) = max 0 400 ∧
      s.notices.entries = [] ∧ (s.inputs.pulse[(2 : Fin 3)]).eng = 0 ∧
      (after (exec .gaugeEvent s)).map (fun t => (t.gauge.foamA.state, t.gauge.foamA.reported)) =
        some (.stable, some 100)) ∧
    (let s := foaming .valid .sloshing (List.replicate 15 387) none
     ¬ WithinBand (newest 16 (s.gauge.foamA.window ++ [400])) s.settings.gauge.foamA.settleBand ∧
      (newest 16 (s.gauge.foamA.window ++ [400])).length = 16) ∧
    (∀ t ∈ [TankState.fault, .sloshing], let s := foaming .fault t [400] (some 50)
     s.gauge.foamA.state = t ∧ Lost s.inputs.analog[(5 : Fin 10)]) ∧
    ((foaming .warming .stable [400] (some 50)).inputs.analog[(5 : Fin 10)]).state = .warming ∧
    (let s : State := { ready with gauge := { ready.gauge with foamB := tankStart [] } }
     (s.gauge.tank .foamB).state = .absent) := by
  unfold Reads Lost WithinBand; decide +kernel

/-- A fill under way with a target, A3 and A4 at a level, and the window of WATER. -/
def filling (h : Int) (target : Nat) (w : List Nat) : State :=
  let s := slot 0 200 (gauging h h .valid .valid .filling w)
  { s with
    gauge := { s.gauge with fill := { s.gauge.fill with active := true, target := some target, timer := none } }
    notices := { s.notices with entries := [] } }

/-- A fill goes on at 1500 L of 1501, ends with TARGET at 1500 of 1500, and with FULL at 1200 mm. -/
theorem witness_FillsOpenAndShutTheValve_levels :
    (∀ p ∈ [((600 : Nat), 1501, 1500), (600, 1500, 1500), (1200, 2999, 3000)],
      let s := filling (p.1 : Int) p.2.1 (List.replicate 16 p.1)
      IgnitionOn s ∧ due s.time.uptime s.gauge.next = true ∧ 0 < s.settings.gauge.spacing ∧
      s.gauge.fill.active = true ∧ s.gauge.water.state = .filling ∧ s.vehicle = .stationary ∧
      p.2.2 = volumeOf s.settings.gauge.water.strap p.1 ∧ s.settings.gauge.water.strap.getLast?.map Prod.fst = some 1200 ∧
      s.gauge.fill.target = some p.2.1 ∧ s.notices.entries = []) ∧
    (let w := newest 16 ([1100, 1100, 1100] ++ [1200])
     RoundsHalfUp (newest 4 w).sum (newest 4 w).length 1125 ∧
      volumeOf (filling 1200 3000 [1100, 1100, 1100]).settings.gauge.water.strap 1125 < 3000) ∧
    (let w := newest 16 (List.replicate 16 600 ++ [600])
     RoundsHalfUp (newest 4 w).sum (newest 4 w).length 600) ∧
    CentreLevel (filling 600 1501 (List.replicate 16 600)) 600 0 false ∧
    ((chanIn 3 .warming (filling 600 1501 [])).inputs.analog[(3 : Fin 10)]).state = .warming := by
  refine ⟨?_, ?_, ?_, ⟨?_, .inl ⟨600, 600, 0, ?_, ?_, ?_, ?_, ?_, rfl⟩⟩, ?_⟩ <;>
    ((try unfold IgnitionOn); (try unfold Wet); (try unfold Reads); (try unfold Lost); (try unfold RoundsHalfAway); (try unfold RoundsHalfUp); decide +kernel)

/-- The other ends of a fill: the second transducer lost, the speed lost, D8 at 0 with MAIN ENGAGED. -/
theorem witness_FillsOpenAndShutTheValve_ends :
    (∀ p ∈ [((3 : Fin 10), (4 : Fin 10)), (4, 3)],
      let s0 := chanIn p.2 .fault (filling 600 1501 [600])
      let s := withAnalog p.1 { s0.inputs.analog[p.1] with
        state := .held, hold := some 0#32, lastReject := some .rateJump } s0
      s.working = true ∧ s.gauge.fill.active = true ∧ (s.inputs.analog[p.1]).state = .held ∧
      due s.time.uptime (s.inputs.analog[p.1]).hold = true ∧ (s.inputs.analog[p.1]).lastReject = some .rateJump ∧
      Lost s.inputs.analog[p.2] ∧ RoomLeft s.notices) ∧
    (let s := { filling 600 1501 [600] with time.uptime := 300#32 }
     s.working = true ∧ s.gauge.fill.active = true ∧ boundSlot s.settings 0 = some 0 ∧
      (s.chassis.rx[(0 : Fin 16)]).state = .fresh ∧ due s.time.uptime (s.chassis.rx[(0 : Fin 16)]).age = true ∧
      RoomLeft s.notices) ∧
    (let s := drv .main .engaged (counted 8 true 3 (disc 1 true (filling 600 1501 [600])))
     let d := s.inputs.discrete[(8 : Fin 10)]
     s.powered = true ∧ s.power.state = .awake ∧ s.gauge.fill.active = true ∧ s.vehicle = .stationary ∧
      s.pto.main.state = .engaged ∧ s.level 1 = true ∧ s.settings.polarity[(8 : Fin 10)] = .activeHigh ∧
      sampleDue s.time.uptime d.next = true ∧ d.awaitFirst = false ∧ d.level = true ∧ d.count = 3 ∧
      RoomLeft s.notices) := by
  unfold Lost RoomLeft; decide +kernel

/-- C10 feeds IDLE_CAP too, which is PENDING with it in a vehicle that moves. -/
def deferred : State :=
  let s := feeding (slot 0 201 (evaluated true .asserted))
  { s with lock := { s.lock with
    rollLimit := { s.lock.rollLimit with state := .asserted, contributors := [10] }
    idleCap := { s.lock.idleCap with state := .pending, contributors := [10] } }
           chassis := { s.chassis with joined := true, rx := s.chassis.rx.set 0 { s.chassis.rx[0] with
             state := .fresh, decoded := some 201, age := some 300#32 } } }

theorem witness_ActionsFollowTheirContributors_deferred :
    deferred.working = true ∧ deferred.lock.evaluated = true ∧ RecordsFollow deferred ∧
    deferred.lock.idleCap.state = .pending ∧ deferred.lock.idleCap.contributors ≠ [] ∧
    leaves (.force 1 0) deferred .idleCap = some (true, true, [], .released) ∧
    (after (exec (.force 1 0) deferred)).map (·.stationary) = some false ∧
    leaves (.rxDataFrame { ext := false, num := 0x1A0 } (u16 200)) deferred .idleCap = some (true, true, [10], .asserted) ∧
    (after (exec (.rxDataFrame { ext := false, num := 0x1A0 } (u16 200)) deferred)).map (·.stationary) = some true ∧
    (let s := evaluated false .latched
     (s.lock.action .inhibit).state = .latched ∧ leaves (.force 1 1) s .inhibit = some (true, true, [10], .asserted)) :=
  ⟨by decide +kernel, by decide +kernel,
    records_follow (by unfold driveFacts CavitationFacts; decide +kernel) (by unfold governorFacts; decide +kernel)
      (by unfold setFacts Contributes; decide +kernel) (by unfold lockFacts Contributes; decide +kernel),
    by decide +kernel, by decide +kernel, by decide +kernel, by decide +kernel, by decide +kernel, by decide +kernel,
    by decide +kernel⟩

theorem witness_ExecutionStartIsTheRequestsRow_meterWrite :
    let i := Instr.identify 9
    let f : HostFrame := { kind := 0x01, tag := 9, payload := [] }
    let s : State := { writing false false false .awake true with link := { ready.link with awaiting := some f } }
    requestFrame i = some f ∧ i.wf = true ∧ s.link.awaiting = some f ∧ s.working = true ∧
    s.nv.activity = .meterWrite 1 2 3 false false ∧ f.kind ≠ 0x05#8 := by decide +kernel

/-- The settings of a SET of rise_limit, and of the floor of WATER, which restarts its gauging. -/
theorem witness_SetChecksAndApplies_accepted :
    (let es : List FieldEntry := [{ field := 19, value := [50] }]
     served 4 (6 :: 0 :: entriesBytes es) ready = true ∧ es ≠ [] ∧ objectOf (6#8).toNat (0#8).toNat = some .governor ∧
      ready.pto.main.state = .disengaged ∧ ready.pto.aux.state = .disengaged ∧
      newSettings .governor es ready.settings =
        some { ready.settings with gov := { ready.settings.gov with riseLimit := 50 } } ∧
      ready.gauge.fill.active = false) ∧
    (let es : List FieldEntry := [{ field := 33, value := [16] }]
     let s := filling 600 1501 []
     served 4 (8 :: 0 :: entriesBytes es) s = true ∧ objectOf (8#8).toNat (0#8).toNat = some (.tank .water) ∧
      newSettings (.tank .water) es s.settings =
        some { s.settings with gauge := { s.settings.gauge with floor := 16 } } ∧ s.gauge.fill.active = true ∧
      s.settings.gauge.floor ≠ 16) ∧ Steady ready := by
  refine ⟨?_, ?_, ready_steady⟩ <;> decide +kernel

/-- idle_rpm from 700 to the ceiling at 2200 and below: 499 and 1001 are taken to 500 and 1000. -/
theorem witness_SetChecksAndApplies_idle :
    (∀ v ∈ [499, 500, 700, 1000, 1001],
      served 4 (6 :: 0 :: entriesBytes [{ field := 14, value := [.ofNat 8 v, .ofNat 8 (v / 256)] }]) ready = true ∧
      max 500 (min (min 1000 (ready.settings.lock.rollRpmMax - 100))
        ((BitVec.ofNat 8 v).toNat + 256 * (BitVec.ofNat 8 (v / 256)).toNat)) ≤ ready.prot.ceiling.value) ∧
    ready.gov.mode = .off := by decide +kernel

theorem witness_StoreAndRecallMoveTheSettings_fill :
    let p := filling 600 1501 []
    let s : State := { p with nv := { p.nv with stored := { p.nv.stored with gauge := { p.nv.stored.gauge with
      floor := 16 } } } }
    served 6 [] s = true ∧ s.pto.main.state = .disengaged ∧ s.pto.aux.state = .disengaged ∧ s.store.copy = .valid ∧
    s.nv.stored.gov.idleRpm ≤ s.settings.gov.idleRpm ∧ s.gauge.fill.active = true ∧
    s.settings.gauge.floor ≠ s.nv.stored.gauge.floor := by decide +kernel

theorem witness_TransmitterSendsInOrder_tail :
    (let s : State := { speaking [entry .info false 1] [.governor] true with
      link := { (speaking [] [.governor] true).link with changeTail := [[1], [2]] } }
     s.working = true ∧ s.link.tx = none ∧ s.link.reply = none ∧
      (∀ x ∈ s.notices.entries, x.sending = true ∨ x.cls ≠ .alarm) ∧ s.link.changeTail = [1] :: [[2]]) ∧
    (let s : State := { ready with link := { ready.link with tx := onLine .status } }
     s.working = true ∧ s.link.tx ≠ none) ∧
    ((parkedIn .watch).powered = true ∧ (parkedIn .watch).link.tx = none) ∧ Steady ready :=
  ⟨by decide +kernel, by decide +kernel, by decide +kernel, ready_steady⟩

theorem witness_RestartAndBreak_parked :
    ∀ p ∈ [PowerState.watch, .waking, .awake],
      let s : State := { parkedIn p with link := { ready.link with executing := some (.restart false) } }
      s.powered = true ∧ s.power.state = p ∧ s.link.executing = some (.restart false) ∧ s.link.reply = none := by
  decide +kernel

/-- ENGAGE at D8 0, before and after the first evaluation. -/
theorem witness_PowerStatesFollowTheIgnition_engage :
    (∀ p ∈ [((0 : Byte), DriveId.main, (0 : Fin 11), disc 8 false State.reset),
        (0, .main, 0, disc 8 false (evaluated false .released)), (1, .aux, 1, disc 8 false (evaluated false .released))],
      let s := p.2.2.2
      mayExecute (ptoFrame p.1 0) s = true ∧ s.power.state = .awake ∧ s.level 8 = false ∧
      (s.inputs.discrete[(8 : Fin 10)]).awaitFirst = false ∧ p.1.toNat = driveIndex p.2.1 ∧
      (s.pto.drive p.2.1).state = .disengaged ∧ (s.pto.drive (otherDrive p.2.1)).state = .disengaged ∧
      p.2.2.1.val = driveIndex p.2.1 ∧ (p.2.1 = .main ∨ s.lock.evaluated = true) ∧
      (s.settings.tx[(1 : Fin 4)]).enabled = true ∧ s.chassis.port = .errorActive ∧ RoomLeft s.notices) ∧
    (let s := ignitionComing .waking true (bursting 3 [] none 600 600 .valid)
     s.powered = true ∧ s.power.state = .waking ∧ due s.time.uptime s.power.settling = true ∧
      s.gauge.leak.burst ≠ none ∧ RoomLeft s.notices ∧ s.gauge.water.state ≠ .absent) := by
  unfold RoomLeft; decide +kernel

theorem witness_NoticesAreCoalescedOrAppended_lost :
    let s : State := { ready with notices := { ready.notices with lost := true } }
    s.notices.lost = true ∧ ∃ t, exec .lineBreak s = .next t := ⟨by decide +kernel, executes (by decide +kernel)⟩

/-- What shows that a command continues: the part works after it, and it changes the part. -/
def goesOn {α : Type} (c : Instr) (s : State) (f : State → α) : Option (Bool × α) :=
  (after (exec c s)).map fun t => (s.working && t.working && decide (t ≠ s), f t)

theorem witness_OnlyNamedCommandsChangeSettingsTimeAndStore_meterWrite :
    let s := writing true false false .rundown false
    ¬ Restarts .meterWriteComplete s ∧ ∃ t, exec .meterWriteComplete s = .next t :=
  ⟨by simp [Restarts, writing, disc], executes (by decide +kernel)⟩

/-- A RESTART's meter write completes in WAKING, and outside it. -/
theorem witness_MeterWriteCompletionGoesOn_settling :
    ∀ p ∈ [PowerState.waking, .watch, .awake], let s := writing false true false p true
      s.powered = true ∧ s.nv.activity = .meterWrite 1 2 3 false true ∧ s.nv.storeWaiting = false ∧ s.power.state = p := by
  decide +kernel

/-- A3 is sampled in a burst of the leak watch. -/
theorem witness_AnalogSamplesAreJudged_burst :
    let s := bursting 3 [] none 600 600 .valid
    SampledNow 3 s ∧ (s.inputs.analog[(3 : Fin 10)]).state = .valid ∧ s.working = false ∧
      Passes s.settings.analog[(3 : Fin 10)] 600 1394 := by
  unfold SampledNow Passes; decide +kernel

/-- D0 about to be taken at 1, with a park brake byte or none and the agreement monitor in a state. -/
def switching (q : Option Int) (b : BrakeAgreement) : State :=
  let s := counted 0 false 3 ready
  let s := match q with | none => s | some v => slot 3 v s
  { s with inputs := { s.inputs with brake := { state := b, timer := none } } }

theorem witness_ScannerTimersExpire_brake :
    (∀ q ∈ [none, some (1 : Int), some 0], ∀ b ∈ [BrakeAgreement.notChecked, .agree, .disagreeTiming, .disagree],
      goesOn (.discreteSample 0 true) (switching q b) (fun t => (t.level 0, t.quantity 3,
        (t.inputs.discrete[(0 : Fin 10)]).awaitFirst)) = some (true, true, q, false) ∧
      (switching q b).level 0 = false ∧ (switching q b).quantity 3 = q ∧ (switching q b).inputs.brake.state = b) ∧
    goesOn .gaugeEvent { switching (some 0) .agree with gauge.next := some 0#32 } (fun t => (t.level 0, t.quantity 3)) =
      some (true, false, some 0) := by decide +kernel

/-- The part in RUNDOWN. -/
def rundown (s : State) : State := disc 8 false { s with power := { s.power with state := .rundown } }

/-- AUX would shift in a part that is not in RUNDOWN. -/
theorem rundown_waits : FirstUnmet (engageConditions (rundown free) .aux) (some .powerState) := by
  have h1 : ∃ v, (rundown free).quantity 0 = some v ∧ v ≤ (rundown free).settings.pto.auxEngageSpeed :=
    ⟨200, by decide +kernel, by decide +kernel⟩
  have h2 : EngineSlow (rundown free) := ⟨900, by decide +kernel, by decide +kernel⟩
  have h3 : (rundown free).level 0 = true := by decide +kernel
  have h4 : (rundown free).power.state = .rundown := by decide +kernel
  simp [FirstUnmet, engageConditions, h1, h2, h3, h4]

theorem witness_EngageIsAnsweredByTheDriveState_rundown :
    (∀ p ∈ [(DriveState.shifting, true), (.disengaged, true), (.disengaged, false)],
      let s := rundown (disc 1 p.2 (drv .aux p.1 (drv .main .windingDown free)))
      mayExecute (ptoFrame 0 0) s = true ∧ s.pto.main.state = .windingDown ∧ s.pto.main.waiver = false ∧ InRundown s ∧
      (OtherShifts s .main ↔ p.1 = .shifting) ∧ s.feedback .main = p.2) ∧
    (mayExecute (ptoFrame 1 0) (rundown free) = true ∧ InRundown (rundown free) ∧
      (rundown free).pto.aux.state = .disengaged ∧ (rundown free).pto.main.state ∉ [.requested, .windingDown] ∧
      FirstUnmet (engageConditions (rundown free) .aux) (some .powerState)) ∧
    (let s := cabAsks false (rundown ready)
     InRundown s ∧ s.pto.main.state = .disengaged ∧ sampleDue s.time.uptime (s.inputs.discrete[(3 : Fin 10)]).next = true ∧
      s.pto.aux.state ∉ [.requested, .windingDown]) := by
  refine ⟨by unfold InRundown OtherShifts; decide +kernel, ⟨by decide +kernel, ?_, by decide +kernel, by decide +kernel,
    rundown_waits⟩, ?_⟩ <;> (unfold InRundown; decide +kernel)

/-- A7 about to become VALID with a value, and HELD at the end of its hold timer. -/
def warmA7 (v : Int) : State :=
  withAnalog 7 { ready.inputs.analog[7] with state := .warming, lastGood := v, good := 3, next := some 0#32 } ready

/-- The recirculation flag is set at 60.0 C and cleared below 55.0 C. -/
theorem witness_ProtectionConditionsAreTested_recirc :
    ready.settings.prot.warn = 600 ∧ (warmA7 600).inputs.analog[(7 : Fin 10)].state = .warming ∧
    (∀ p ∈ [((600 : Int), (2134 : BitVec 12)), (599, 2132), (550, 2048), (549, 2046)],
      goesOn (.analogSample 7 p.2) (warmA7 p.1) (fun t => ((t.inputs.analog[(7 : Fin 10)]).state,
        (t.inputs.analog[(7 : Fin 10)]).eng)) = some (true, .valid, some p.1)) ∧
    (let s := withAnalog 7 { ready.inputs.analog[7] with
      state := .held, eng := some 600, hold := some 0#32, lastReject := some .rateJump } ready
     goesOn (.holdExpiry 7) s (fun t => (t.inputs.analog[(7 : Fin 10)]).state) = some (true, .fault)) := by
  decide +kernel

/-- In ROLL with a stored request above idle_rpm, and in PRESSURE. -/
theorem witness_CeilingFallsAndRises_request :
    (let s := protecting .free 2160 true none .auto { rolling with gov.request := 900 }
     s.working = true ∧ due s.time.uptime s.prot.next = true ∧ s.gov.mode = .roll ∧ s.gov.request ≠ s.settings.gov.idleRpm) ∧
    (protecting .free 2160 true none .auto (pumping .pressure)).gov.mode = .pressure := by decide +kernel

/-- The foam tanks hold 200 L. -/
theorem witness_GaugeEventCountsTheDraw_foam :
    RoundsHalfUp (capacityOf factoryGauge.foamA.strap * 5) 100 10 ∧
    RoundsHalfUp (capacityOf factoryGauge.foamA.strap * 7) 100 14 := by unfold RoundsHalfUp; decide +kernel

theorem witness_FillsOpenAndShutTheValve_rundown :
    mayExecute (fillFrame 1000) (rundown (standing (some 5) false)) = true ∧ ¬ FillTaken (rundown (standing (some 5) false)) := by
  unfold FillTaken; decide +kernel

/-- A burst event with A3 not yet known, and a STABLE result that reconciles 1900 L to 1500 L. -/
theorem witness_LeakWatchTakesBursts_warming :
    (∀ n ∈ [38, 39], let s := bursting n [] none 600 600 .warming
     burstHyps s n ∧ (s.inputs.analog[(3 : Fin 10)]).state = .warming ∧ ¬ Lost s.inputs.analog[(3 : Fin 10)] ∧
      ¬ Lost s.inputs.analog[(4 : Fin 10)]) ∧
    (let b := bursting 15 (List.replicate 15 600) none 600 600 .valid
     let s : State := { b with gauge.water := { b.gauge.water with state := .sloshing, lastStable := some 1900 } }
     burstHyps s 15 ∧ s.gauge.water.state = .sloshing ∧ s.gauge.water.lastStable = some 1900 ∧
      s.settings.gauge.water.reconcileLimit < ((1500 : Int) - 1900).natAbs ∧ s.notices.entries.length ≤ 28) := by
  unfold burstHyps Lost; decide +kernel

theorem witness_ActionsFollowTheirContributors_driving :
    goesOn (.force 1 1) (slot 0 201 (evaluated false .released)) (fun t =>
      (t.lock.inhibit.state, t.vehicle, t.lock.inhibit.contributors)) =
      some (true, .asserted, .moving, [10]) ∧
    (slot 0 201 (evaluated false .released)).lock.driving ≠ some 10 ∧
    RoomLeft (slot 0 201 (evaluated false .released)).notices ∧
    (let s := { writing true false false .rundown false with lock := (evaluated false .latched).lock }
     (s.lock.action .inhibit).state = .latched ∧ ¬ Restarts .meterWriteComplete s ∧
      (after (exec .meterWriteComplete s)).map (fun t => t.power.state) = some .watch) := by
  refine ⟨by decide +kernel, by decide +kernel, by unfold RoomLeft; decide +kernel, by decide +kernel, ?_, by decide +kernel⟩
  simp [Restarts, writing, disc]

/-- AUX rolls at a speed, the overspeed monitor in a state. -/
def rollingAt (o : OverspeedState) : State :=
  { rolling with chassis.joined := true, lock.overspeed := o, lock.overspeedTimer := some 7#32 }

/-- The threshold is 14.00 km/h. -/
theorem witness_OverspeedTripsAndDropsAux_moves :
    (∀ v ∈ [1400, 1401], ∀ o ∈ [OverspeedState.off, .watching, .timing, .tripped],
      goesOn (speed v) (rollingAt o) (fun t => (t.quantity 0, t.settings.lock.rollSpeedLimit + 200, t.pto.aux.state)) =
        some (true, some (v : Int), 1400, .engaged) ∧ (rollingAt o).lock.overspeed = o) ∧
    goesOn (.ptoDisengage 1 1) (disc 2 false (slot 1 900 (rollingAt .timing))) (fun t => t.pto.aux.state) =
      some (true, .disengaged) := by decide +kernel

/-- C10 is monitored: its report is ready, or free to become so, or kept back by the spacing timer. -/
theorem witness_ReportsAreOrderedAndTimed_changes :
    ∀ p ∈ [([Obj.condition 10], (some 9#32 : Timer)), ([], none), ([], some 9#32)],
      let m : MonItem := { ref := .condition 10, spacing := p.2, changePending := false }
      let s : State := { ready with link := { ready.link with monitors := [m], ready := p.1 } }
      m ∈ s.link.monitors ∧ (s.link.monitors.map (·.ref)).Nodup ∧ m.ref ≠ .protection ∧
      goesOn (.force 1 1) s (fun t => decide (readFields s m.ref ≠ readFields t m.ref)) = some (true, true) := by
  decide +kernel

theorem witness_RestartAndBreak_settling :
    (let s : State := { ignitionComing .waking true ready with link.executing := some .restarting }
     s.powered = true ∧ s.power.state = .waking ∧ due s.time.uptime s.power.settling = true ∧
      s.link.executing = some .restarting) ∧
    (ignitionComing .waking true ready).link.executing ≠ some .restarting := by decide +kernel

/-- The flag at the entry to WATCH and at the beginning of a reply. -/
theorem witness_NoticesAreCoalescedOrAppended_kept :
    (let s : State := { writing true false false .rundown false with notices.lost := true }
     s.notices.lost = true ∧ ¬ Restarts .meterWriteComplete s ∧
      (after (exec .meterWriteComplete s)).map (·.power.state) = some .watch) ∧
    (let s : State := { replying 0 0 false none with notices.lost := true }
     s.notices.lost = true ∧ s.link.tx = none ∧
      (after (exec .txFrameStart s)).map (fun t => t.link.tx.map (·.kind)) = some (some .reply)) := by
  refine ⟨⟨rfl, by simp [Restarts, writing, disc], by decide +kernel⟩, by decide +kernel⟩

/-- The notices that wait after a command, by kind, subject and detail. -/
def told (c : Instr) (s : State) : Option (List (NoticeKind × Nat × List Byte)) :=
  (after (exec c s)).map fun t => (t.notices.entries.filter (!·.sending)).map fun e => (e.kind, e.subject, e.detail)

/-- A channel's run reaches recover_count from FAULT, which CHANNEL_RECOVERED tells (raw 2048 is 2000 kPa, 0x07D0), and from
WARMING. -/
theorem witness_AnalogSamplesAreJudged_recovers :
    (∀ st ∈ [ChannelState.fault, .warming], let s := chan0 st 2000 3
      SampledNow 0 s ∧ (s.inputs.analog[(0 : Fin 10)]).good = 3 ∧ (s.settings.analog[(0 : Fin 10)]).recoverCount = 4 ∧
      Passes (s.settings.analog[(0 : Fin 10)]) 2000 2048 ∧ RoomLeft s.notices) ∧
    (told (.analogSample 0 2048#12) (chan0 .fault 2000 3)).map (·.contains (.channelRecovered, 0, [0xD0, 0x07])) =
      some true := by
  unfold SampledNow Passes RoomLeft; decide +kernel

/-- With auto-answer on, a remote frame one identifier beyond that of T3. -/
theorem witness_SlotsFallDue_another :
    let s : State := { online with settings.chassis.autoAnswer := true }
    let id : CanId := { ext := false, num := 0x3F9#29 }
    onBus s.chassis = true ∧ (BusFrame.remote id).wf = true ∧ s.settings.chassis.autoAnswer = true ∧
      id ≠ { ext := (s.settings.tx[(3 : Fin 4)]).ext, num := (s.settings.tx[(3 : Fin 4)]).ident } := by decide +kernel

/-- MAIN in a state, in a part in which the records follow one another. -/
def settledDrive (st : DriveState) : State := follow (drv .main st ready)

theorem settledDrive_steady (st : DriveState) (h : st ∈ [.disengaged, .windingDown, .releasing, .fault]) :
    Steady (settledDrive st) := by
  cases st <;> simp at h <;>
    exact ⟨by decide +kernel, by decide +kernel, by decide +kernel, by decide +kernel, by decide +kernel⟩

theorem rundown_releasing_steady : Steady (follow (rundown (drv .main .releasing (disc 1 true ready)))) :=
  ⟨by decide +kernel, by decide +kernel, by decide +kernel, by decide +kernel, by decide +kernel⟩

theorem witness_DisengageIsAnsweredByTheDriveState_stays :
    (∀ st ∈ [DriveState.disengaged, .windingDown, .releasing, .fault], let s := settledDrive st
      IgnitionOn s ∧ mayExecute (ptoFrame 0 1) s = true ∧ (s.pto.drive .main).state = st) ∧
    (∀ st ∈ [DriveState.releasing, .requested, .shifting], ∀ fb ∈ [true, false],
      let s := follow (rundown (drv .main st (disc 1 fb ready)))
      InRundown s ∧ mayExecute (ptoFrame 0 1) s = true ∧ (s.pto.drive .main).state = st ∧ s.feedback .main = fb) := by
  unfold IgnitionOn InRundown; decide +kernel

/-- P2 becomes UNKNOWN, ACTIVE at 75.0 C and CLEARED at 69.9 C; P3, ACTIVE, is not applicable without a governed drive. -/
theorem witness_ProtectionConditionsAreTested_notices :
    ((protAt .valid 750 .inactive).notices.entries.length ≤ 4 ∧
      (protAt .valid 750 .inactive).settings.prot.enabled = Vector.replicate 5 true) ∧
    (∀ p ∈ [(protAt .fault 0 .active, ([2, 0xFF, 0x7F] : List Byte)), (protAt .valid 750 .inactive, [0, 0xEE, 0x02]),
        (protAt .valid 699 .active, [1, 0xBB, 0x02])],
      (told .protectionStep p.1).map (·.contains (.protect, 2, p.2)) = some true) ∧
    (let s := protAt .valid 0 .inactive
     let s : State := { s with prot.conds := s.prot.conds.set 3 { state := .active, activated := 0, entered := 0 } }
     s.gov.governed = none ∧ s.notices.entries.length ≤ 4 ∧
      (told .protectionStep s).map (·.contains (.protect, 3, [1, 0xFF, 0x7F])) = some true) := by decide +kernel

/-- The ceiling latches at 2160 rpm (0x0870), and is FREE at 2200 (0x0898). -/
theorem witness_CeilingFallsAndRises_notices :
    (protecting .falling 2160 false none .manual ready).notices.entries.length ≤ 4 ∧
    (told .protectionStep (protecting .falling 2160 false none .manual ready)).map
      (·.contains (.protect, 5, [3, 0x70, 0x08])) = some true ∧
    (told .protectionStep (protecting .rising 2190 false none .auto ready)).map
      (·.contains (.protect, 5, [4, 0x98, 0x08])) = some true := by decide +kernel

/-- Foam tank A is drawn on, 1 L at the event, as it moves to STABLE at 100 L: the estimate is 111 L less 2 L. -/
theorem witness_GaugeEventGaugesTheWater_drawn :
    let f := foaming .valid .sloshing (List.replicate 15 400) (some 111)
    let s : State := { f with
      gauge.foam := .foamA, gauge.ratio := 30
      inputs.pulse := f.inputs.pulse.set 2 { f.inputs.pulse[2] with eng := 40000 } }
    s.working = true ∧ Draws s .foamA 40000 60000000 60000000 true ∧
      Accrued s.gauge.foamA 40000 60000000 60000000 true 2 0 ∧ s.notices.entries = [] ∧
      (after (exec .gaugeEvent s)).map (fun t => (t.gauge.foamA.state, t.gauge.foamA.reconciliation)) =
        some (.stable, some (-9)) := by
  unfold Draws Accrued; decide +kernel

/-- A fill under way, WATER with a consumed volume and a remainder, at a flow. -/
def drawing (consumed remainder q : Nat) : State :=
  let f := filling 600 1501 (List.replicate 16 600)
  { f with
    gauge.water := { f.gauge.water with consumed := consumed, remainder := remainder }
    inputs.pulse := f.inputs.pulse.set 2 { f.inputs.pulse[2] with eng := (q : Int) } }

/-- 1 L is carried and a remainder kept; consumed stays saturated; nothing flows. -/
theorem witness_GaugeEventCountsTheDraw_fill :
    (∀ p ∈ [(0, 59999, 600), (65535, 59999, 600), (7, 8, 0)], let s := drawing p.1 p.2.1 p.2.2
      s.working = true ∧ due s.time.uptime s.gauge.next = true ∧ s.gauge.fill.active = true ∧
      (after (exec .gaugeEvent s)).map (fun t => (t.gauge.water.state, t.gauge.fill.active)) = some (.filling, true)) ∧
    Draws (drawing 0 59999 600) .water 600 30000 60000 true ∧
    Accrued (drawing 0 59999 600).gauge.water 600 30000 60000 true 1 29999 ∧
    Accrued (drawing 65535 59999 600).gauge.water 600 30000 60000 true 65535 89999 ∧
    Accrued (drawing 7 8 0).gauge.water 0 0 60000 true 7 8 ∧ Draws ready .foamB 0 0 60000000 false := by
  refine ⟨by decide +kernel, ?_, ?_, ?_, ?_, ?_⟩ <;> ((try unfold Draws); (try unfold Accrued); decide +kernel)

/-- C10 asserts INHIBIT and IDLE_CAP, which LOCKOUT tells, and an emptied PENDING IDLE_CAP is RELEASED. -/
theorem witness_ActionsFollowTheirContributors_lockout :
    (RoomLeft (feeding (evaluated false .released)).notices ∧ RoomLeft deferred.notices ∧
      ((feeding (evaluated false .released)).lock.action .inhibit).state = .released) ∧
    goesOn (.force 1 1) (feeding (evaluated false .released)) (fun t => t.lock.inhibit.state) = some (true, .asserted) ∧
    (told (.force 1 1) (feeding (evaluated false .released))).map (·.contains (.lockout, 0, [0, 1, 10])) = some true ∧
    (told (.force 1 1) (feeding (slot 0 201 (evaluated false .released)))).map (·.contains (.lockout, 2, [0, 4, 10])) =
      some true ∧
    goesOn (.force 1 0) deferred (fun t => t.lock.idleCap.state) = some (true, .released) ∧
    (told (.force 1 0) deferred).map (·.contains (.lockout, 2, [4, 0, 0xFF])) = some true := by
  unfold RoomLeft; decide +kernel

theorem evaluated_steady (c10 : Bool) (st : ActionState) (h : (c10, st) ∈ [(true, ActionState.asserted),
    (false, .released)]) : Steady (evaluated c10 st) := by
  simp at h
  obtain ⟨rfl, rfl⟩ | ⟨rfl, rfl⟩ := h <;>
    exact ⟨by decide +kernel, by decide +kernel, by decide +kernel, by decide +kernel, by decide +kernel⟩

theorem witness_ActionsAreReleasedAndForced_lockout :
    (∀ p ∈ [(true, ActionState.asserted), (false, .released), (false, .latched)],
      RoomLeft (evaluated p.1 p.2).notices ∧
      mayExecute { kind := 0x0B#8, tag := 1, payload := [0] } (evaluated p.1 p.2) = true) ∧
    (told (.release 1 0) (evaluated false .latched)).map (·.contains (.lockout, 0, [3, 0, 0xFF])) = some true ∧
    (told (.holdOffExpiry .inhibit) holdingOff).map (·.contains (.lockout, 0, [2, 0, 0xFF])) = some true ∧
    mayExecute { kind := 0x0C#8, tag := 1, payload := [1] } (evaluated false .released) = true ∧
    leaves (.force 1 1) (evaluated false .released) .inhibit = some (true, true, [10], .asserted) := by
  unfold RoomLeft; decide +kernel

/-- A channel that FORCE does not change is monitored, and PROTECTION while the resume timer runs down. -/
theorem witness_ReportsAreOrderedAndTimed_same :
    (let m : MonItem := { ref := .channel 0, spacing := none, changePending := false }
     let s : State := { ready with link.monitors := [m] }
     m ∈ s.link.monitors ∧ (s.link.monitors.map (·.ref)).Nodup ∧ m.ref ∉ s.link.ready ∧
      goesOn (.force 1 1) s (fun t => decide (readFields s m.ref = readFields t m.ref)) = some (true, true)) ∧
    (let m : MonItem := { ref := .protection, spacing := none, changePending := false }
     let p := protecting .waiting 2160 false (some 9) .auto ready
     let s : State := { p with link.monitors := [m] }
     m ∈ s.link.monitors ∧ (s.link.monitors.map (·.ref)).Nodup ∧ m.ref ∉ s.link.ready ∧
      s.prot.ceiling.steps ≠ none ∧ goesOn .protectionStep s (fun t => (t.prot.ceiling.steps,
        decide (readFields s .protection = readFields { t with prot := { t.prot with ceiling := { t.prot.ceiling with
          steps := s.prot.ceiling.steps } } } .protection))) = some (true, some 8, true)) := by decide +kernel

/-- New line settings wait for a reply: at its last part with a frame in assembly, and at a break before it has begun. -/
theorem witness_RestartAndBreak_line :
    (let s : State := { replying 245 1 true (onLine .reply) with link.assembly := [0xA5#8] }
     s.powered = true ∧ s.link.linePending = true ∧ s.link.assembly ≠ [] ∧ partCount (List.replicate 245 (0#8)) ≤ 1) ∧
    (∀ n ∈ [0, 1], let s := replying 245 n true none
     s.working = true ∧ s.link.linePending = true ∧ s.link.reply.map (·.begun) = some n) := by decide +kernel

/-! ### Witnesses: what is told of the changes, and the layouts -/

/-- Whether a command posts a notice of a kind, subject and detail. -/
def tells (c : Instr) (s : State) (k : NoticeKind) (subject : Nat) (detail : List Byte) : Bool :=
  (told c s).map (·.contains (k, subject, detail)) == some true

/-- The port on the bus in a state with both counts, the queue empty. -/
def counts (tec rec : Nat) (port : PortState) (s : State) : State :=
  { s with chassis := { s.chassis with joined := true, txErrors := tec, rxErrors := rec, port := port }
           notices := { s.notices with entries := [] } }

/-- Whether the part works after a command, and where its port stands. -/
def lands (c : Instr) (s : State) : Option (Bool × PortState) := (after (exec c s)).map fun t => (t.working, t.chassis.port)

/-- ERROR_PASSIVE at a receive count of 128, BUS_OFF beyond a transmit count of 255, with auto-recovery or without it, and
ERROR_ACTIVE at the end of a recovery. -/
theorem witness_PortFollowsErrorsAndRecovery_told :
    (let s := counts 0 127 .errorActive ready
     s.notices.entries = [] ∧ lands .receiveError s = some (true, .errorPassive) ∧
      tells .receiveError s .chassisState 0 [1, 0, 128] = true) ∧
    (∀ p ∈ [(false, PortState.busOff, ([2, 255, 0] : List Byte)), (true, .recovering, [3, 255, 0])],
      let q := sendingAt 0 248 .errorPassive
      let s : State := { q with settings.chassis.autoRecovery := p.1, notices.entries := [] }
      s.notices.entries = [] ∧ lands .transmitError s = some (true, p.2.1) ∧
        tells .transmitError s .chassisState 0 p.2.2 = true) ∧
    (let s : State := { counts 0 0 .recovering ready with chassis.progress := 127 }
     lands .recessiveRun s = some (true, .errorActive) ∧
      tells .recessiveRun s .chassisState 0 [0, 0, 0] = true) := by decide +kernel

/-- T0's frame on the line, the slot due again or not. -/
def sendingAgain (again : Bool) : State :=
  let p := sendingAt 0 0 .errorActive
  let x : TxSlot := { state := .sending, dueAgain := again, lastSent := 0 }
  { p with chassis := { p.chassis with tx := p.chassis.tx.set 0 x } }

theorem witness_PortFollowsErrorsAndRecovery_slot :
    ∀ again : Bool, let s := sendingAgain again
      (s.working = true ∧ onBus s.chassis = true ∧ sendingSlot s.chassis = some 0) ∧ Steady s := by
  intro again
  cases again <;> exact ⟨by decide +kernel,
    ⟨by decide +kernel, by decide +kernel, by decide +kernel, by decide +kernel, by decide +kernel⟩⟩

/-- The ends of RELEASING, of a FAULT FOUND_ENGAGED and of WINDING_DOWN, with room in the queue. -/
theorem witness_drives_let_go_are_told :
    (∀ p ∈ [(DriveState.releasing, none), (.fault, some DriveCause.foundEngaged)],
      RoomLeft (feedbackComing p.1 p.2 false).notices ∧
      tells (.discreteSample 1 false) (feedbackComing p.1 p.2 false) .ptoDisengaged 0 [] = true) ∧
    RoomLeft (windingDown free).notices ∧
    tells (.windDownRecheck .main) (windingDown free) .ptoDisengaged 0 [] = true ∧
    tells .overspeedExpiry (overspeeding true false) .ptoDisengaged 1 [] = true := by
  unfold RoomLeft; decide +kernel

/-- The timers of HOLD and ROLL at their ends, and PUMP_IDLE, complete in a part whose records follow one another. -/
theorem witness_GovernorReturnsToIdle_completes :
    Steady { pumping .hold with gov := { (pumping .hold).gov with hold := some 0#32 } } ∧ Steady stopping ∧
    Steady (pumping .hold) ∧
    (after (exec .governorHoldExpiry { pumping .hold with gov := { (pumping .hold).gov with hold := some 0#32 } })).map
      (fun t => (t.gov.mode, t.gov.resume, t.gov.hold)) = some (.idle, some .pressure, none) ∧
    (after (exec .stopTimerExpiry stopping)).map (fun t => (t.gov.mode, t.gov.stop)) = some (.idle, none) ∧
    (after (exec (.pumpIdle 1) (pumping .speed))).map (fun t => (t.gov.mode, t.gov.resume)) =
      some (.idle, some .speed) :=
  ⟨⟨by decide +kernel, by decide +kernel, by decide +kernel, by decide +kernel, by decide +kernel⟩,
    ⟨by decide +kernel, by decide +kernel, by decide +kernel, by decide +kernel, by decide +kernel⟩,
    pumping_steady _ (by simp), by decide +kernel, by decide +kernel, by decide +kernel⟩

/-- In every state from which the governor's clauses start the power controller has nothing left to do. -/
theorem witness_GovernorReturnsToIdle_settled : ∀ s ∈ governorStarts, powerReact s = s := by decide +kernel

/-- WATER at an event with the flags as they stood before it: 600 mm is 1500 L, 100 mm 250 L, 25 % of 3000 L is 750 L. -/
def flagged (h : Nat) (low empty : Bool) : State :=
  let s := gauging h h .valid .valid .stable (List.replicate 15 h)
  { s with gauge.water := { s.gauge.water with low := low, empty := empty }, notices.entries := [] }

/-- LOW is set and cleared at a gauge event, and set by a burst. -/
theorem witness_flags_are_told :
    (after (exec .gaugeEvent (flagged 100 false false))).map (·.gauge.water.low) = some true ∧
    tells .gaugeEvent (flagged 100 false false) .tankLevel 0 [0, 0, 0xFA, 0] = true ∧
    (after (exec .gaugeEvent (flagged 600 true false))).map (·.gauge.water.low) = some false ∧
    tells .gaugeEvent (flagged 600 true false) .tankLevel 0 [0, 1, 0xDC, 5] = true ∧
    (let s := bursting 15 (List.replicate 15 100) none 100 100 .valid
     s.notices.entries.length ≤ 28 ∧ s.gauge.water.low = false ∧
      tells .burstEvent s .tankLevel 0 [0, 0, 0xFA, 0] = true) := by decide +kernel

/-- INHIBIT leaves RELEASED with the drives and the fill as they were, and its set is the one it is left with. -/
theorem witness_ActionsFollowTheirContributors_sets :
    (let s := evaluated false .released
     IgnitionOn s ∧ RoomLeft s.notices ∧ (s.lock.action .inhibit).state = .released ∧
      (after (exec (.force 1 1) s)).map (fun t => (t.powered, t.power.state, t.level 8)) = some (true, .awake, true) ∧
      (after (exec (.force 1 1) s)).map (fun t => (t.pto.main.state, t.pto.aux.state, t.gauge.fill.active)) =
        some (s.pto.main.state, s.pto.aux.state, s.gauge.fill.active) ∧
      leaves (.force 1 1) s .inhibit = some (true, true, [10], .asserted)) ∧
    EvaluatedSet (evaluated true .asserted) .inhibit [10] ∧
    (RecordsFollow deferred ∧ leaves (.force 1 0) deferred .idleCap = some (true, true, [], .released)) := by
  refine ⟨⟨by unfold IgnitionOn; decide +kernel, by unfold RoomLeft; decide +kernel, by decide +kernel,
    by decide +kernel, by decide +kernel, by decide +kernel⟩, ⟨by decide +kernel, fun i => .inl ?_⟩,
    witness_ActionsFollowTheirContributors_deferred.2.2.1, by decide +kernel⟩
  revert i; decide +kernel

/-- POWER_STATE at the entries to RUNDOWN, AWAKE and WATCH, with its cause. -/
theorem witness_power_states_are_told :
    (let s := drv .main .engaged (ignitionComing .awake false (disc 1 true ready))
     RoomLeft s.notices ∧ tells (.discreteSample 8 false) s .powerState 0 [1, 0] = true) ∧
    (let s := ignitionComing .rundown true ready
     RoomLeft s.notices ∧ tells (.discreteSample 8 true) s .powerState 0 [0, 2] = true) ∧
    (let s := disc 8 false State.reset
     RoomLeft s.notices ∧ tells (.ptoEngage 1 0) s .powerState 0 [1, 0] = true ∧
      (after (exec (.ptoEngage 1 0) s)).map (fun t => (t.power.watchPending, t.power.watchCause)) =
        some (true, .drivesReleased)) ∧
    (∀ p ∈ [(PowerCause.rundownTimeout, (4 : Byte)), (.drivesReleased, 3), (.linkSilent, 1)],
      let s := { writing true false false .rundown false with power.watchCause := p.1 }
      RoomLeft s.notices ∧ tells .meterWriteComplete s .powerState 0 [2, p.2] = true) := by
  unfold RoomLeft; decide +kernel

/-- A RECALL of settings that differ in one respect from the working ones. -/
def recalling (f : Settings → Settings) (s : State) : State :=
  { s with nv.stored := f s.nv.stored, notices.entries := [] }

/-- A disabled condition, a lowered gov_max, a raised idle_rpm, another bit rate, and a disabled transmit slot. -/
theorem witness_StoreAndRecallMoveTheSettings_taken :
    (let s := recalling (fun c => { c with prot.enabled := c.prot.enabled.set 2 false })
       (protecting .floor 700 true none .auto ready)
     served 6 [] s = true ∧ s.notices.entries = [] ∧ (s.prot.conds[(2 : Fin 5)]).state = .active ∧
      tells (.recall 9) s .protect 2 [5, 0xFF, 0x7F] = true) ∧
    (∀ p ∈ [((2199 : Int), (2199 : Int)), (2200, 2200)],
      (after (exec (.recall 9) (recalling (fun c => { c with gov.govMax := p.1 }) ready))).map
        (·.prot.ceiling.value) = some p.2) ∧
    (after (exec (.recall 9) (recalling (fun c => { c with gov.idleRpm := 701 })
      (protecting .floor 700 false none .auto ready)))).map (·.prot.ceiling.value) = some 701 ∧
    (let s := recalling (fun c => { c with chassis.bitRate := 500 }) (sendingAt 0 200 .errorPassive)
     s.settings.chassis.bitRate ≠ s.nv.stored.chassis.bitRate ∧
      tells (.recall 9) s .chassisState 0 [0, 0, 0] = true) ∧
    (let x : TxSlot := { state := .pending, dueAgain := false, lastSent := 0 }
     let o : State := { online with chassis := { online.chassis with tx := online.chassis.tx.set 2 x } }
     let s := recalling (fun c => { c with tx := c.tx.set 2 { c.tx[2] with enabled := false } }) o
     (after (exec (.recall 9) s)).map (fun t => (t.chassis.tx[(2 : Fin 4)]).state) = some .idle) := by decide +kernel

/-- Bytes by hand: an uptime and a notice at 0x01020304 ms, a WARNING POWER_STATE repeated once; STATUS after reset. -/
theorem test_layouts :
    (let s : State := { ready with time.uptime := 0x01020304#32 }
     (readFields s .timebase).head? = some [4, 3, 2, 1]) ∧
    (let e : Entry := { entry .warning false 0 with
      kind := .powerState, stamp := 0x01020304#32, repeats := 2, detail := [1, 0] }
     noticePayload e = [4, 1, 0, 4, 3, 2, 1, 2, 1, 0]) ∧
    (statusPayload ready).take 5 = [0, 0, 0, 0xFF, 0xFF] := by decide +kernel

/-! ### Witnesses: the values of settings, lengths, a busy T3, and AUX dropped in each state -/

/-- T3 in a state on the bus, with automatic answer on. -/
def answering (st : TxState) : State :=
  let s : State := { online with settings.chassis.autoAnswer := true }
  { s with chassis := { s.chassis with tx := s.chassis.tx.set 3 { state := st, dueAgain := false, lastSent := 0 } } }

theorem witness_SlotsFallDue_busy :
    ∀ p ∈ [(TxState.pending, false), (.sending, true)], let s := answering p.1
      let id : CanId := { ext := false, num := 0x3F8#29 }
      onBus s.chassis = true ∧ (BusFrame.remote id).wf = true ∧ s.settings.chassis.autoAnswer = true ∧
      (s.settings.tx[(3 : Fin 4)]).enabled = true ∧
      id = { ext := (s.settings.tx[(3 : Fin 4)]).ext, num := (s.settings.tx[(3 : Fin 4)]).ident } ∧
      (s.chassis.tx[(3 : Fin 4)]).state = p.1 ∧
      (after (exec (.rxRemoteFrame id) s)).map (fun t => (t.chassis.tx[(3 : Fin 4)])) =
        some { state := p.1, dueAgain := p.2, lastSent := 0 } := by decide +kernel

/-- IDENTIFY with a byte of payload, and a SET without an entry. -/
theorem witness_ExecutionStartIsTheRequestsRow_length :
    (let f : HostFrame := { kind := 0x01, tag := 9, payload := [0] }
     isHostKind f.kind = true ∧ ¬ LengthFits f ∧ (awaiting f).link.awaiting = some f ∧ linkFree f (awaiting f) = true) ∧
    (let f : HostFrame := { kind := 0x04, tag := 9, payload := [6, 0] }
     isHostKind f.kind = true ∧ ¬ LengthFits f ∧ (awaiting f).link.awaiting = some f ∧ linkFree f (awaiting f) = true) := by
  refine ⟨⟨by decide, by simp [LengthFits], rfl, by decide +kernel⟩, by decide, ?_, rfl, by decide +kernel⟩
  simp only [LengthFits]
  rintro ⟨o, i, es, h, hne, -⟩
  cases es with
  | nil => exact hne rfl
  | cons e es => simp [entriesBytes, entryBytes] at h

/-- AUX over the threshold in a state, with MAIN in another. -/
def dropping (main aux : DriveState) : State := drv .main main (drv .aux aux (overspeeding true true))

theorem witness_OverspeedTripsAndDropsAux_states :
    (∀ p ∈ [(DriveState.disengaged, DriveState.requested), (.disengaged, .windingDown), (.shifting, .engaged),
        (.releasing, .windingDown), (.disengaged, .fault)],
      let s := dropping p.1 p.2
      IgnitionOn s ∧ s.lock.overspeed = .timing ∧ due s.time.uptime s.lock.overspeedTimer = true ∧
      s.quantity 0 = some 1401 ∧ s.pto.aux.state = p.2 ∧ s.settings.lock.autoDrop = true ∧ RoomLeft s.notices ∧
      s.feedback .aux = true) ∧
    (OtherShifts (dropping .shifting .engaged) .aux ∧ OtherShifts (dropping .releasing .windingDown) .aux ∧
      ¬ OtherShifts (dropping .disengaged .windingDown) .aux) ∧
    (∀ p ∈ [(DriveState.disengaged, DriveState.requested, DriveState.disengaged), (.disengaged, .windingDown, .releasing),
        (.shifting, .engaged, .windingDown), (.releasing, .windingDown, .windingDown)],
      (after (exec .overspeedExpiry (dropping p.1 p.2.1))).map (·.pto.aux.state) = some p.2.2) := by
  unfold IgnitionOn OtherShifts RoomLeft; decide +kernel

/-- AUX over the threshold and already waiting for MAIN's shift: its refusal reason reads OTHER_SHIFT at once. -/
theorem test_drop_waits_for_shift :
    (after (exec .overspeedExpiry (dropping .shifting .windingDown))).map
      (fun t => (t.pto.aux.waiver, t.pto.aux.reason, t.outputs.o1)) = some (true, some .otherShift, true) := by
  decide +kernel

/-- A raw_lo of A0 above its raw_hi, a second slot bound to Q0, and a sound setpoint of pressure. -/
theorem witness_SetChecksAndApplies_values :
    (let es : List FieldEntry := [{ field := 10, value := [0xFF, 0x0F] }]
     served 4 (1 :: 0 :: entriesBytes es) ready = true ∧ objectOf (1#8).toNat (0#8).toNat = some (.channel 0) ∧
      ¬ EntriesSound ready.settings (.channel 0) es) ∧
    (let es : List FieldEntry := [{ field := 13, value := [0] }]
     served 4 (2 :: 1 :: entriesBytes es) ready = true ∧ objectOf (2#8).toNat (1#8).toNat = some (.rxSlot 1) ∧
      ready.pto.main.state = .disengaged ∧ ready.pto.aux.state = .disengaged ∧
      ¬ EntriesSound ready.settings (.rxSlot 1) es) ∧
    (let es : List FieldEntry := [{ field := 12, value := [0xFF, 0xFF] }]
     served 4 (6 :: 0 :: entriesBytes es) ready = true ∧ objectOf (6#8).toNat (0#8).toNat = some .governor ∧
      LockAllows ready .governor es ∧ EntriesSound ready.settings .governor es ∧
      ready.gauge.fill.active = false ∧ ¬ SomeActive ready ∧ Steady ready) := by
  refine ⟨⟨by decide +kernel, by decide, ?_⟩, ⟨by decide +kernel, by decide, by decide +kernel, by decide +kernel, ?_⟩,
    by decide +kernel, by decide, .inl (by decide +kernel), ⟨by decide, by decide, ?_, trivial⟩, by decide +kernel,
    by unfold SomeActive; decide +kernel, ready_steady⟩
  · rintro ⟨-, -, -, h⟩
    exact absurd (h 0 _ rfl rfl).1 (by decide +kernel)
  · rintro ⟨-, -, -, h⟩
    exact (h _ rfl).2.2 0 0 (by decide) (by decide +kernel) |>.1 _ (List.mem_singleton.mpr rfl) rfl rfl
  · intro e h
    rw [List.mem_singleton.mp h]; rfl

/-- A pressure of −1 kPa is below the range: the setpoint comes out at 200 kPa, max_pressure at 1000 kPa (R3). -/
theorem test_negative_pressure :
    (after (exec (.set 9 6 0 [{ field := 12, value := [0xFF, 0xFF] }]) ready)).map
      (fun t => (t.settings.gov.pressureSetpoint, t.link.reply.map (·.code))) = some (200, some .okClamped) ∧
    (after (exec (.set 9 7 0 [{ field := 35, value := [0xFF, 0xFF] }]) ready)).map
      (·.settings.prot.maxPressure) = some 1000 := by decide +kernel

/-! ### A not-available frame at the moment of the age timer's expiry, and the sequence number at entry to WATCH -/

/-- Slot 0 FRESH on the bus at 300 ms, the end of its age timer, its not-available check on. -/
def aging : State := { slot 0 100 online with time.uptime := 300#32 }

/-- A not-available frame for slot 0. -/
def notAvailableFrame : Instr := .rxDataFrame { ext := false, num := 0x1A0 } (speedFrame 65535)

/-- The outcomes of two commands, one after the other, in slot 0. -/
def slot0After (c d : Instr) (s : State) : Option (SlotState × Timer) :=
  ((after (exec c s)).bind (fun t => after (exec d t))).map
    (fun t => ((t.chassis.rx[(0 : Fin 16)]).state, (t.chassis.rx[(0 : Fin 16)]).age))

/-- The last sentence of R32 on equal moments, both orders. -/
theorem test_not_available_at_expiry :
    slot0After (.ageExpiry 0) notAvailableFrame aging = some (.stale, none) ∧
    slot0After notAvailableFrame (.ageExpiry 0) aging = some (.notAvailable, none) ∧
    tells (.ageExpiry 0) aging .slotStale 0 [0, 100, 0] = true := by decide +kernel

/-- A millisecond after the expiry the slot goes to NOT_AVAILABLE (R30). -/
theorem test_not_available_after_expiry :
    ((after (exec (.ageExpiry 0) aging)).bind (slot0After .millisecondEnd notAvailableFrame)) =
      some (.notAvailable, none) := by decide +kernel

theorem witness_ReceiveSlotsFillAndAge_expiry :
    (∃ t, exec (.ageExpiry 0) aging = .next t) ∧
    (after (exec (.ageExpiry 0) aging)).map (fun s => (s.working, onBus s.chassis, (s.chassis.rx[(0 : Fin 16)]).state,
      (s.chassis.rx[(0 : Fin 16)]).expiredNow)) = some (true, true, .stale, true) ∧
    due aging.time.uptime (aging.chassis.rx[(0 : Fin 16)]).age = true :=
  ⟨executes (by decide +kernel), by decide +kernel, by decide +kernel⟩

/-- Entry to WATCH is a starting point: the unsolicited sequence number is 0 (R166). -/
theorem test_watch_clears_sequence :
    (after (exec .meterWriteComplete
      { writing true false false .rundown false with link := { ready.link with seq := 7 } })).map
        (fun t => (t.power.state, t.link.seq)) = some (.watch, 0#8) := by decide +kernel

/-! ### The state lock, the checks of the drives, RUNDOWN and the ends of a fill -/

/-- R174's list at its bounds, and the fields beside them; a SET of another object passes the lock with a drive in FAULT. -/
theorem witness_SetChecksAndApplies_locked :
    (∀ p ∈ [(Obj.drive .main, 7), (.drive .aux, 11), (.strap .foamB, 1), (.rxSlot 15, 13), (.condition 10, 2),
        (.channel 0, 10), (.channel 6, 13)], StateLocked p.1 p.2) ∧
    (∀ p ∈ [(Obj.drive .main, 6), (.drive .aux, 12), (.strap .water, 2), (.rxSlot 0, 12), (.condition 0, 1),
        (.channel 6, 9), (.channel 6, 14), (.channel 7, 10), (.governor, 14)], ¬ StateLocked p.1 p.2) ∧
    LockAllows (drv .main .fault ready) .governor [{ field := 1, value := [0] }] ∧
    LockAllows ready (.drive .main) [{ field := 7, value := [0, 0] }] ∧
    settingForm ready.settings .governor 1 = none ∧ settingForm ready.settings .governor 255 = none := by
  refine ⟨by simp only [← mem_lockedFields]; decide, by simp only [← mem_lockedFields]; decide, .inr ?_, .inl ?_, rfl, rfl⟩
  · simp only [← mem_lockedFields]; decide
  · decide +kernel

/-- A drive that becomes governed from OFF asks for idle_rpm as it now is (R80): 600 rpm, lowered from 700 in OFF. -/
theorem test_drive_from_off_asks_for_idle :
    lowered.gov.request = 700 ∧
    (after (exec (.settleExpiry .main) lowered)).map (fun t => (t.gov.mode, t.gov.request, t.engineRequest)) =
      some (.idle, 600, some 600) ∧
    (after (exec (.settleExpiry .main) lowered)).map (fun t => ceilingsInForce t) = some [2200, 2200] := by
  decide +kernel

/-- From wind-down IDLE, and from one drive to the other, the request is kept. -/
theorem witness_GovernorReturnsToIdle_request :
    (after (exec (.ptoEngage 1 0) { winding 4 with gov := { (winding 4).gov with request := 900 } })).map
      (fun t => (t.gov.governed, t.gov.request)) = some (some .main, 900) ∧
    (after (exec (.discreteSample 1 false) { twoPumps 200 with gov := { (twoPumps 200).gov with request := 900 } })).map
      (fun t => (t.gov.governed, t.gov.request)) = some (some .aux, 900) := by decide +kernel

/-- MAIN in REQUESTED, everything met but a speed of 2.01 km/h, the port on the bus. -/
def asking : State := { slot 0 201 (requested free) with chassis.joined := true }

/-- What a command leaves of MAIN: its state, its reason, and the sources of its conditions. -/
def checked (c : Instr) (s : State) : Option (Bool × DriveState × Option Reason) :=
  goesOn c s (fun t => (t.pto.main.state, t.pto.main.reason))

/-- Each source of MAIN's conditions changes, or MAIN enters REQUESTED; and it shifts when all are met. -/
theorem witness_RequestedDriveShiftsOrGivesUp_sources :
    (∀ p ∈ [(speed 202, asking, DriveState.requested, some Reason.notStationary), (speed 200, asking, .shifting, none),
        (.ageExpiry 1, { slot 0 200 asking with time.uptime := 300#32 }, .requested, some .engineSpeed),
        (.ageExpiry 2, { slot 0 200 asking with time.uptime := 300#32 }, .requested, some .gear),
        (.ageExpiry 3, { slot 0 200 asking with time.uptime := 300#32 }, .requested, some .parkBrake),
        (.discreteSample 0 false, counted 0 true 3 (slot 0 200 asking), .requested, some .parkBrake),
        (.discreteSample 0 true, counted 0 false 3 (slot 0 200 asking), .shifting, none),
        (.discreteSample 2 false, drv .aux .releasing (counted 2 true 3 (slot 0 200 asking)), .shifting, none),
        (.discreteSample 8 true, ignitionComing .rundown true (slot 0 200 asking), .shifting, none),
        (.ptoEngage 1 0, ready, .requested, some .notStationary)],
      checked p.1 p.2.1 = some (true, p.2.2)) ∧
    (after (exec (speed 202) asking)).map (·.quantity 0) ≠ some (asking.quantity 0) ∧
    (after (exec (.discreteSample 0 false) (counted 0 true 3 (slot 0 200 asking)))).map
      (fun t => (t.level 0, (t.inputs.discrete[(0 : Fin 10)]).awaitFirst)) = some (false, false) := by decide +kernel

/-- In RUNDOWN a drive in REQUESTED waits for the power state. -/
theorem witness_RequestedDriveShiftsOrGivesUp_rundown :
    let s := rundown (requested free)
    InRundown s ∧ (s.pto.drive .main).state = .requested ∧ due s.time.uptime (s.pto.drive .main).recheck = true ∧
    due s.time.uptime (s.pto.drive .main).window = true ∧ RoomLeft s.notices ∧
    FirstUnmet (engageConditions s .main) (some .powerState) := by
  refine ⟨by unfold InRundown; decide +kernel, by decide +kernel, by decide +kernel, by decide +kernel,
    by unfold RoomLeft; decide +kernel, ?_⟩
  have h := engageReason_firstUnmet (rundown (requested free)) .main
  rwa [show engageReason (ptoEnv (rundown (requested free))) (rundown (requested free)).pto .main = some .powerState by
    decide +kernel] at h

/-- MAIN winds down in gear 4, the engine slow. -/
def geared : State := { slot 2 4 (windingDown (disc 1 true free)) with chassis.joined := true, time.uptime := 300#32 }

/-- Each source of the release conditions changes, MAIN enters WINDING_DOWN, or its waiver is set; and with all met it is
released. -/
theorem witness_WindingDownDriveIsReleased_sources :
    (∀ p ∈ [(Instr.ageExpiry 1, geared, DriveState.windingDown, some Reason.engineSpeed),
        (.ageExpiry 2, geared, .windingDown, some .gear),
        (.ptoDisengage 1 0, pumping .idle, .windingDown, some .engineSpeed),
        (.discreteSample 8 false, drv .aux .releasing (ignitionComing .awake false geared), .windingDown, some .otherShift),
        (.discreteSample 2 false, drv .aux .releasing (counted 2 true 3 (slot 2 0 geared)), .releasing, none),
        (.windDownRecheck .main, slot 2 0 geared, .releasing, none),
        (.windDownRecheck .main, disc 1 false (slot 2 0 geared), .disengaged, none)],
      checked p.1 p.2.1 = some (true, p.2.2)) ∧
    (geared.pto.main.waiver = false ∧ geared.power.state = .awake) ∧
    (let s := rundown geared
     InRundown s ∧ due s.time.uptime (s.pto.drive .main).recheck = true ∧
      due s.time.uptime (s.pto.drive .main).windDown = true ∧ RoomLeft s.notices) := by
  unfold InRundown RoomLeft; decide +kernel

/-- In RUNDOWN, D1 about to be taken at either level with MAIN in any state, AUX having the shift or not. -/
theorem witness_FeedbackMovesTheDrive_rundown :
    (∀ st ∈ [DriveState.shifting, .disengaged, .requested, .settling, .engaged, .windingDown, .releasing, .fault],
      ∀ level ∈ [true, false],
      let s := rundown (feedbackComing st (some .foundEngaged) level)
      let c := s.inputs.discrete[(1 : Fin 10)]
      InRundown s ∧ (s.pto.drive .main).state = st ∧ (s.pto.drive .main).cause = some .foundEngaged ∧
      sampleDue s.time.uptime c.next = true ∧ c.awaitFirst = false ∧ c.level = (!level) ∧ c.count = 3 ∧
      RoomLeft s.notices) ∧
    (let s := rundown (feedbackComing .shifting none true)
     ¬ OtherShifts s .main ∧ OtherShifts (drv .aux .shifting s) .main ∧
      checked (.discreteSample 1 true) s = some (true, .releasing, none) ∧
      checked (.discreteSample 1 true) (drv .aux .shifting s) = some (true, .windingDown, some .otherShift)) ∧
    InRundown (rundown State.reset) := by
  unfold InRundown OtherShifts RoomLeft; decide +kernel

/-- Both drives in their states, D1 and D2 at 1, D8 about to be taken at 0. -/
def ignitionGoing (main aux : DriveState) : State :=
  drv .main main (drv .aux aux (ignitionComing .awake false (disc 1 true (disc 2 true ready))))

/-- The entry to RUNDOWN with each state of the drives, by D8's fourth differing sample and by its first one. -/
theorem witness_PowerStatesFollowTheIgnition_rundown :
    (∀ p ∈ [(DriveState.requested, DriveState.disengaged, DriveState.disengaged, DriveState.disengaged, true),
        (.shifting, .engaged, .releasing, .windingDown, false), (.engaged, .engaged, .releasing, .windingDown, false),
        (.settling, .releasing, .windingDown, .releasing, false), (.disengaged, .windingDown, .disengaged, .releasing, false),
        (.windingDown, .shifting, .windingDown, .releasing, false), (.releasing, .fault, .releasing, .fault, false)],
      let s := ignitionGoing p.1 p.2.1
      let d := s.inputs.discrete[(8 : Fin 10)]
      (s.powered = true ∧ sampleDue s.time.uptime d.next = true ∧ d.level = (!false) ∧ d.count = 3 ∧
        s.power.state = .awake ∧ s.drivesReleased = false ∧ RoomLeft s.notices ∧
        false = (if s.settings.polarity[(8 : Fin 10)] = .activeHigh then false else !false)) ∧
      goesOn (.discreteSample 8 false) s (fun t => (t.power.state, t.pto.main.state, t.pto.aux.state,
        t.power.watchPending)) = some (true, .rundown, p.2.2)) ∧
    (let s := drv .main .requested State.reset
     (s.inputs.discrete[(8 : Fin 10)]).awaitFirst = true ∧ s.drivesReleased = false ∧
      (after (exec (.discreteSample 8 false) s)).map (·.power.state) = some .rundown) := by
  unfold RoomLeft; decide +kernel

/-- The ignition off with both pumps working, as chapter 4 works it: MAIN opens first, AUX waits, then opens, and the part
proceeds toward WATCH as the last of the two is DISENGAGED. -/
theorem test_ignition_off_with_both_pumps :
    (let u := (after (exec (.discreteSample 8 false) (ignitionGoing .engaged .engaged))).map (counted 1 true 3)
     u.map (fun t => (t.outputs.o0, t.outputs.o1, t.pto.aux.waiver, t.pto.aux.reason)) =
        some (false, true, true, some .otherShift) ∧
      (u.bind (fun t => after (exec (.discreteSample 1 false) t))).map (fun t =>
        (t.pto.main.state, t.pto.aux.state, t.outputs.o1, t.power.watchPending)) =
        some (.disengaged, .releasing, false, false)) ∧
    (after (exec (.discreteSample 2 false) (drv .aux .releasing (counted 2 true 3 (rundown ready))))).map (fun t =>
      (t.pto.aux.state, t.power.state, t.power.watchPending, t.power.watchCause, t.time.writeDue)) =
      some (.disengaged, .rundown, true, .drivesReleased, true) := by decide +kernel

/-- In RUNDOWN the last drive's feedback goes off, from RELEASING and from FAULT; and a drive is still RELEASING. -/
theorem witness_PowerStatesFollowTheIgnition_released :
    (∀ p ∈ [(DriveState.releasing, DriveState.disengaged), (.fault, .fault), (.fault, .disengaged)],
      let s := drv .aux p.1 (drv .main p.2 (counted 2 true 3 (rundown ready)))
      let k := s.inputs.discrete[(2 : Fin 10)]
      InRundown s ∧ (s.inputs.discrete[(8 : Fin 10)]).awaitFirst = false ∧ s.power.watchPending = false ∧
      sampleDue s.time.uptime k.next = true ∧ k.awaitFirst = false ∧ k.level = true ∧ k.count = 3 ∧
      s.feedback .main = false ∧ RoomLeft s.notices ∧
      goesOn (.discreteSample 2 (decide (s.settings.polarity[(2 : Fin 10)] = .activeLow))) s (fun t =>
        (t.level 8, t.drivesReleased)) = some (true, false, true)) ∧
    (let s := drv .aux .releasing (rundown (disc 2 true ready))
     goesOn (.discreteSample 1 false) s (fun t => (t.level 8, t.drivesReleased, t.power.watchPending)) =
       some (true, false, false, false)) := by
  unfold InRundown RoomLeft; decide +kernel

/-- A fill on the bus, A4 lost. -/
def fillingOn : State := { chanIn 4 .fault (filling 600 1501 [600]) with chassis.joined := true }

/-- The ends of a fill at other commands than those named: a frame that shows movement, a SET that disables A3, and an
ENGAGE with D8 at 0. -/
theorem witness_FillsOpenAndShutTheValve_any :
    (∀ p ∈ [(speed 201, fillingOn, FillReason.moved), (.rxDataFrame { ext := false, num := 0x1A0 } (u16 65535), fillingOn, .moved),
        (.set 9 1 3 [{ field := 9, value := [0] }], fillingOn, .sensor),
        (.ptoEngage 1 0, disc 8 false fillingOn, .power)],
      goesOn p.1 p.2.1 (fun t => (t.gauge.fill.endReason, t.outputs.o3,
        decide (waterGeometry t.settings = waterGeometry p.2.1.settings))) = some (true, some p.2.2, false, true) ∧
      p.2.1.gauge.fill.active = true ∧ p.2.1.vehicle = .stationary ∧ p.2.1.power.state = .awake ∧
      ¬ WaterLost p.2.1 ∧ p.2.1.notices.entries = []) ∧
    (after (exec (speed 201) fillingOn)).map (fun t => (t.vehicle, decide (t.settings = fillingOn.settings))) =
      some (.moving, true) ∧
    (after (exec (.set 9 1 3 [{ field := 9, value := [0] }]) fillingOn)).map
      (fun t => (analogLost t.inputs.analog[(3 : Fin 10)], analogLost t.inputs.analog[(4 : Fin 10)])) = some (true, true) ∧
    (after (exec (.ptoEngage 1 0) (disc 8 false fillingOn))).map (fun t => (t.power.state, t.vehicle)) =
      some (.rundown, .stationary) := by
  unfold WaterLost Lost; decide +kernel

/-- D8 at 0 by its first sample during a fill, AUX winding down, the ignition's input active low. -/
theorem witness_FillsOpenAndShutTheValve_ignition :
    let p := drv .aux .windingDown (filling 600 1501 [600])
    let s : State := { p with
      settings.polarity := p.settings.polarity.set 8 .activeLow
      inputs.discrete := p.inputs.discrete.set 8 discreteStart }
    s.powered = true ∧ s.power.state = .awake ∧ s.gauge.fill.active = true ∧ s.vehicle = .stationary ∧
    s.drivesReleased = false ∧ true = decide (s.settings.polarity[(8 : Fin 10)] = .activeLow) ∧
    sampleDue s.time.uptime (s.inputs.discrete[(8 : Fin 10)]).next = true ∧
    (s.inputs.discrete[(8 : Fin 10)]).awaitFirst = true ∧ RoomLeft s.notices := by
  unfold RoomLeft; decide +kernel

/-- A fill goes on at a step, the valve open, and ends at another with the valve shut. -/
theorem witness_PermitOnlyWithMainDisengaged_fill :
    let s (c : Instr) := queued c (refreshOutputs fillingOn)
    (∀ c ∈ [Instr.gaugeEvent, .interByteTimeout, speed 201],
      ((s c).outputs.o3 = true ↔ (s c).working = true ∧ (s c).gauge.fill.active = true) ∧ (s c).vehicle = .stationary ∧
      (s c).power.state = .awake ∧ (s c).gauge.water.state = .filling) ∧
    (after (step (s .interByteTimeout))).map (fun t => (t.outputs.o3, t.gauge.fill.active)) = some (true, true) ∧
    (after (step (s (speed 201)))).map (fun t => (t.outputs.o3, t.gauge.fill.active)) = some (false, false) ∧
    OutputsSound (s .gaugeEvent) :=
  ⟨by decide +kernel, by decide +kernel, by decide +kernel, ⟨by decide +kernel, by decide +kernel, by decide +kernel,
    by decide +kernel, by decide +kernel, by decide +kernel, by decide +kernel, by decide +kernel⟩⟩

/-! ### The stop timer after a change of idle_rpm -/

/-- The stop timer at its end in ROLL, in which idle_rpm has been lowered from 700. -/
def stoppingLowered : State := { stopping with settings.gov.idleRpm := 600 }

/-- From ROLL the governor enters IDLE at idle_rpm as it now is (R83). -/
theorem test_stop_timer_asks_for_idle :
    stoppingLowered.gov.request = 700 ∧
    (after (exec .stopTimerExpiry stoppingLowered)).map (fun t => (t.gov.mode, t.gov.request, t.engineRequest)) =
      some (.idle, 600, some 600) := by decide +kernel

theorem witness_GovernorReturnsToIdle_stop :
    stoppingLowered.working = true ∧ Steady stoppingLowered ∧ stoppingLowered.gov.mode = .roll ∧
    due stoppingLowered.time.uptime stoppingLowered.gov.stop = true :=
  ⟨by decide +kernel, ⟨by decide +kernel, by decide +kernel, by decide +kernel, by decide +kernel, by decide +kernel⟩,
    by decide +kernel, by decide +kernel⟩

end Sys2Proof.Tests
end

section
/-! SUPPORT. A step takes the front of the queue, and no command touches the queue: the own effect of each command keeps it,
and so do the reactions that follow. -/

namespace Sys2Proof.Machine

/-- Settles O1: `step` is defined by the two cases of the queue. -/
theorem stepExecutesFrontCommand : Obligations.StepExecutesFrontCommand := by
  refine ⟨fun c rest s h => ?_, fun s h => ?_⟩
  · simp only [step, h]
  · simp only [step, h]

/-! ### What keeps the queue of commands -/

/-- An effect on the part that leaves the queue of commands as it is. -/
def KeepsQueue (f : State → State) : Prop := ∀ s, (f s).pending = s.pending

/-- A request's handling that leaves the queue of commands as it is. -/
def AnswerKeepsQueue (h : State → Answer) : Prop := KeepsQueue (fun s => (h s).state)

/-- A guarded effect keeps the queue if the effect does. -/
theorem KeepsQueue.guard {c : State → Prop} [∀ s, Decidable (c s)] {f : State → State} (h : KeepsQueue f) :
    KeepsQueue (fun s => if c s then f s else s) := by
  intro s
  dsimp only
  split
  · exact h s
  · rfl

/-- An event keeps the queue if its own effect does. -/
theorem KeepsQueue.event {f : State → State} (h : KeepsQueue f) : KeepsQueue (event f) := by
  intro s
  have hr := (event_reacted_any f s).pending
  split at hr
  · exact hr.trans (h s)
  · exact hr

/-- An event of a working part keeps the queue if its own effect does. -/
theorem KeepsQueue.workingEvent {f : State → State} (h : KeepsQueue f) : KeepsQueue (workingEvent f) :=
  KeepsQueue.event (KeepsQueue.guard h)

/-- A received frame taken for execution leaves the queue. -/
theorem takeRequest_keepsQueue : KeepsQueue takeRequest := by
  intro s
  unfold takeRequest
  split <;> rfl

/-- A reply leaves the queue. -/
theorem deliver_pending (tag : Byte) (a : Answer) : (deliver tag a).pending = a.state.pending := by
  unfold deliver
  split <;> rfl

/-- A request keeps the queue if its handling does. -/
theorem AnswerKeepsQueue.request {h : State → Answer} (hh : AnswerKeepsQueue h) (f : HostFrame) :
    KeepsQueue (request f h) :=
  KeepsQueue.workingEvent <| KeepsQueue.guard fun s => by
    rw [deliver_pending]
    exact (hh (takeRequest s)).trans (takeRequest_keepsQueue s)

/-! ### The commands' own effects -/

/-- The end of a meter write leaves the queue, and so does a STORE that begins at it. -/
theorem finishMeterWrite_keepsQueue (m a r : Nat) : KeepsQueue (finishMeterWrite m a r) := by
  intro s
  unfold finishMeterWrite
  dsimp only
  split <;> rfl

/-- The completion of the write that WATCH waits for leaves the queue. -/
theorem watchWriteDone_keepsQueue : KeepsQueue watchWriteDone := by
  intro s
  unfold watchWriteDone
  dsimp only
  split
  · split <;> rfl
  · rfl
  · rfl

/-- The completion of a meter write leaves the queue. -/
theorem completeWrite_keepsQueue (m a r : Nat) (w : Bool) : KeepsQueue (completeWrite m a r w) := by
  intro s
  unfold completeWrite
  dsimp only
  split
  · exact (watchWriteDone_keepsQueue _).trans (finishMeterWrite_keepsQueue m a r s)
  · exact finishMeterWrite_keepsQueue m a r s

/-- The completion of a STORE leaves the queue. -/
theorem finishStore_keepsQueue : KeepsQueue finishStore := by
  intro s
  unfold finishStore answerStore
  split
  · dsimp only
    split <;> rfl
  · rfl

/-- The end of the settling period leaves the queue. -/
theorem settled_keepsQueue : KeepsQueue settled := by
  intro s
  rcases settled_cases s with ⟨-, h⟩ | ⟨-, h⟩ <;> rw [h] <;> rfl

/-- What a sample of a discrete does beyond its record leaves the queue. -/
theorem handDiscrete_keepsQueue (ch : Fin 10) (was : Bool) (o : SampleOutcome) : KeepsQueue (handDiscrete ch was o) := by
  intro s
  unfold handDiscrete
  split
  · rfl
  · rfl
  · rfl
  · rfl
  · split
    · rfl
    · split <;> rfl

/-- A sample of a discrete leaves the queue. -/
theorem takeDiscrete_keepsQueue (ch : Fin 10) (b : Bool) : KeepsQueue (takeDiscrete ch b) := fun _ =>
  handDiscrete_keepsQueue _ _ _ _

/-- A frame of another node leaves the queue. -/
theorem receiveFrame_keepsQueue (f : BusFrame) : KeepsQueue (receiveFrame f) := by
  intro s
  cases f <;> rfl

/-- The offer of a frame leaves the queue. -/
theorem offerFrame_keepsQueue : KeepsQueue offerFrame := by
  intro s
  unfold offerFrame
  split <;> rfl

/-- The end of a sending attempt keeps the queue if what it does to the slot does. -/
theorem endAttempt_keepsQueue {f : Fin 4 → State → State} (h : ∀ i, KeepsQueue (f i)) : KeepsQueue (endAttempt f) := by
  intro s
  unfold endAttempt
  split
  · rfl
  · exact h _ s

/-- A lost arbitration leaves the queue. -/
theorem loseArbitration_keepsQueue (winner : Option BusFrame) (i : Fin 4) : KeepsQueue (loseArbitration winner i) := by
  intro s
  unfold loseArbitration
  split
  · rfl
  · split
    · exact receiveFrame_keepsQueue _ _
    · rfl

/-- A complete frame leaves the queue. -/
theorem completeFrame_keepsQueue (f : List Byte) : KeepsQueue (completeFrame f) := by
  intro s
  unfold completeFrame
  split <;> rfl

/-- A received byte leaves the queue. -/
theorem receiveByte_keepsQueue (b : Byte) : KeepsQueue (receiveByte b) := by
  intro s
  unfold receiveByte
  dsimp only
  split
  · split <;> rfl
  · split
    · rfl
    · split
      · exact completeFrame_keepsQueue _ s
      · rfl

/-- The start of a frame leaves the queue. -/
theorem beginFrame_pending (s : State) (c : TxChoice) : (beginFrame s c).pending = s.pending := by
  cases c <;> rfl

/-- The end of a frame leaves the queue. -/
theorem endFrame_keepsQueue : KeepsQueue endFrame := by
  intro s
  unfold endFrame
  split
  · rfl
  · dsimp only
    split
    · split <;> rfl
    · rfl
    · rfl

/-- The overspeed alarm and the auto-drop leave the queue. -/
theorem tripOverspeed_keepsQueue : KeepsQueue tripOverspeed := by
  intro s
  unfold tripOverspeed
  dsimp only
  split <;> rfl

/-! ### The requests -/

/-- An answer that changes nothing leaves the queue. -/
theorem plain_keepsQueue (code : ResultCode) : AnswerKeepsQueue (plain code) := fun _ => rfl

theorem handleEngage_keepsQueue (d : Byte) : AnswerKeepsQueue (handleEngage d) := by
  intro s
  dsimp only [handleEngage]
  split <;> rfl

theorem handleDisengage_keepsQueue (d : Byte) : AnswerKeepsQueue (handleDisengage d) := by
  intro s
  dsimp only [handleDisengage]
  split <;> rfl

theorem handleFaultClear_keepsQueue (d : Byte) : AnswerKeepsQueue (handleFaultClear d) := by
  intro s
  dsimp only [handleFaultClear]
  split <;> rfl

theorem handleGovernPressure_keepsQueue (v : Int) : AnswerKeepsQueue (handleGovernPressure v) := by
  intro s
  dsimp only [handleGovernPressure]
  split <;> rfl

theorem handleGovernSpeed_keepsQueue (v : Int) : AnswerKeepsQueue (handleGovernSpeed v) := by
  intro s
  dsimp only [handleGovernSpeed]
  split <;> rfl

theorem handleGovern_keepsQueue (mode : Byte) (v : BitVec 16) : AnswerKeepsQueue (handleGovern mode v) := by
  intro s
  dsimp only [handleGovern]
  split
  · exact handleGovernPressure_keepsQueue _ s
  · split
    · exact handleGovernSpeed_keepsQueue _ s
    · rfl

theorem handlePumpIdle_keepsQueue : AnswerKeepsQueue handlePumpIdle := by
  intro s
  dsimp only [handlePumpIdle]
  split <;> rfl

theorem handleResume_keepsQueue : AnswerKeepsQueue handleResume := fun _ => rfl

theorem handleRelease_keepsQueue (a : Byte) : AnswerKeepsQueue (handleRelease a) := by
  intro s
  dsimp only [handleRelease]
  split <;> rfl

theorem handleForce_keepsQueue (v : Byte) : AnswerKeepsQueue (handleForce v) := by
  intro s
  dsimp only [handleForce]
  split
  · rfl
  · split <;> rfl

theorem handleFillStart_keepsQueue (v : BitVec 16) : AnswerKeepsQueue (handleFillStart v) := by
  intro s
  dsimp only [handleFillStart]
  split <;> rfl

theorem handleFillStop_keepsQueue : AnswerKeepsQueue handleFillStop := fun _ => rfl

theorem selectFoam_keepsQueue (sel : FoamSel) (ratio : Option Byte) : AnswerKeepsQueue (selectFoam sel ratio) := by
  intro s
  dsimp only [selectFoam]
  split <;> rfl

theorem handleFoam_keepsQueue (sel : Byte) (ratio : Option Byte) : AnswerKeepsQueue (handleFoam sel ratio) := by
  intro s
  dsimp only [handleFoam]
  split
  · rfl
  · split
    · rfl
    · split
      · rfl
      · exact selectFoam_keepsQueue _ ratio s

theorem handleRecover_keepsQueue : AnswerKeepsQueue handleRecover := by
  intro s
  dsimp only [handleRecover]
  split <;> rfl

theorem handleRead_keepsQueue (o i : Byte) : AnswerKeepsQueue (handleRead o i) := by
  intro s
  dsimp only [handleRead]
  split <;> rfl

theorem handleSnapshot_keepsQueue : AnswerKeepsQueue handleSnapshot := fun _ => rfl

/-- New working settings leave the queue. -/
theorem applySettings_keepsQueue (new : Settings) : KeepsQueue (applySettings new) := fun _ => rfl

theorem handleSet_keepsQueue (o i : Byte) (es : List FieldEntry) : AnswerKeepsQueue (handleSet o i es) := by
  intro s
  dsimp only [handleSet]
  split
  · rfl
  · split
    · rfl
    · split
      · rfl
      · split
        · rfl
        · split
          · rfl
          · exact applySettings_keepsQueue _ s

theorem handleMonitor_keepsQueue (add : Bool) (o i : Byte) : AnswerKeepsQueue (handleMonitor add o i) := by
  intro s
  dsimp only [handleMonitor, addMonitor]
  split
  · rfl
  · rfl
  · split
    · split
      · rfl
      · split <;> rfl
    · rfl

theorem handleReportRate_keepsQueue (v : BitVec 16) : AnswerKeepsQueue (handleReportRate v) := fun _ => rfl

theorem handleIdentify_keepsQueue : AnswerKeepsQueue handleIdentify := fun _ => rfl

theorem handleStore_keepsQueue (tag : Byte) : AnswerKeepsQueue (handleStore tag) := by
  intro s
  dsimp only [handleStore, takeStore]
  split <;> rfl

theorem handleRecall_keepsQueue : AnswerKeepsQueue handleRecall := by
  intro s
  dsimp only [handleRecall]
  split
  · rfl
  · split
    · rfl
    · split
      · rfl
      · exact applySettings_keepsQueue _ s

theorem handleRestart_keepsQueue : AnswerKeepsQueue handleRestart := by
  intro s
  dsimp only [handleRestart]
  split <;> rfl

/-! ### The judging of a frame -/

theorem bare_keepsQueue {h : State → Answer} (hh : AnswerKeepsQueue h) (p : List Byte) : AnswerKeepsQueue (bare h p) := by
  intro s
  dsimp only [bare]
  split
  · exact hh s
  · rfl

theorem oneByte_keepsQueue {h : Byte → State → Answer} (hh : ∀ a, AnswerKeepsQueue (h a)) (p : List Byte) :
    AnswerKeepsQueue (oneByte h p) := by
  intro s
  dsimp only [oneByte]
  split
  · exact hh _ s
  · rfl

theorem judgeRead_keepsQueue (p : List Byte) : AnswerKeepsQueue (judgeRead p) := by
  intro s
  dsimp only [judgeRead]
  split
  · exact handleRead_keepsQueue _ _ s
  · rfl

theorem judgeSet_keepsQueue (p : List Byte) : AnswerKeepsQueue (judgeSet p) := by
  intro s
  dsimp only [judgeSet]
  split
  · split
    · rfl
    · rfl
    · exact handleSet_keepsQueue _ _ _ s
  · rfl

theorem judgePto_keepsQueue (p : List Byte) : AnswerKeepsQueue (judgePto p) := by
  intro s
  dsimp only [judgePto]
  split
  · split
    · exact handleEngage_keepsQueue _ s
    · split
      · exact handleDisengage_keepsQueue _ s
      · rfl
  · rfl

theorem judgeGovern_keepsQueue (p : List Byte) : AnswerKeepsQueue (judgeGovern p) := by
  intro s
  dsimp only [judgeGovern]
  split
  · exact handleGovern_keepsQueue _ _ s
  · rfl

theorem judgeFill_keepsQueue (p : List Byte) : AnswerKeepsQueue (judgeFill p) := by
  intro s
  dsimp only [judgeFill]
  split
  · split
    · exact handleFillStop_keepsQueue s
    · split <;> rfl
  · split
    · exact handleFillStart_keepsQueue _ s
    · split <;> rfl
  · rfl

theorem judgeFoam_keepsQueue (p : List Byte) : AnswerKeepsQueue (judgeFoam p) := by
  intro s
  dsimp only [judgeFoam]
  split
  · exact handleFoam_keepsQueue _ _ s
  · exact handleFoam_keepsQueue _ _ s
  · rfl

theorem judgeMonitor_keepsQueue (p : List Byte) : AnswerKeepsQueue (judgeMonitor p) := by
  intro s
  dsimp only [judgeMonitor]
  split
  · split
    · exact handleMonitor_keepsQueue _ _ _ s
    · split
      · exact handleMonitor_keepsQueue _ _ _ s
      · split <;> rfl
  · rfl

theorem judgeReportRate_keepsQueue (p : List Byte) : AnswerKeepsQueue (judgeReportRate p) := by
  intro s
  dsimp only [judgeReportRate]
  split
  · exact handleReportRate_keepsQueue _ s
  · rfl

/-- Every frame is judged without touching the queue, by its kind. -/
theorem judgeFrame_keepsQueue (f : HostFrame) : AnswerKeepsQueue (judgeFrame f) := by
  intro s
  dsimp only [judgeFrame]
  split
  · exact bare_keepsQueue handleIdentify_keepsQueue f.payload s
  · exact judgeRead_keepsQueue f.payload s
  · exact bare_keepsQueue handleSnapshot_keepsQueue f.payload s
  · exact judgeSet_keepsQueue f.payload s
  · exact bare_keepsQueue (handleStore_keepsQueue f.tag) f.payload s
  · exact bare_keepsQueue handleRecall_keepsQueue f.payload s
  · exact judgePto_keepsQueue f.payload s
  · exact judgeGovern_keepsQueue f.payload s
  · exact bare_keepsQueue handleResume_keepsQueue f.payload s
  · exact bare_keepsQueue handlePumpIdle_keepsQueue f.payload s
  · exact oneByte_keepsQueue handleRelease_keepsQueue f.payload s
  · exact oneByte_keepsQueue handleForce_keepsQueue f.payload s
  · exact judgeFill_keepsQueue f.payload s
  · exact judgeFoam_keepsQueue f.payload s
  · exact oneByte_keepsQueue handleFaultClear_keepsQueue f.payload s
  · exact bare_keepsQueue handleRecover_keepsQueue f.payload s
  · exact judgeMonitor_keepsQueue f.payload s
  · exact judgeReportRate_keepsQueue f.payload s
  · exact bare_keepsQueue handleRestart_keepsQueue f.payload s
  · rfl

/-- The execution of the awaiting frame leaves the queue. -/
theorem executeAwaiting_keepsQueue : KeepsQueue executeAwaiting := by
  intro s
  unfold executeAwaiting
  split
  · rfl
  · split
    · rw [deliver_pending]
      exact judgeFrame_keepsQueue _ _
    · rfl

/-! ### The commands -/

/-- A command that is an event completes and keeps the queue if its own effect does. -/
theorem event_completes {c : Instr} {f : State → State} {s : State} (hc : exec c s = .next (event f s))
    (h : KeepsQueue f) : ∃ t, exec c s = .next t ∧ t.pending = s.pending := ⟨_, hc, h.event s⟩

/-- A command that is an event of a working part completes and keeps the queue if its own effect does. -/
theorem workingEvent_completes {c : Instr} {f : State → State} {s : State} (hc : exec c s = .next (workingEvent f s))
    (h : KeepsQueue f) : ∃ t, exec c s = .next t ∧ t.pending = s.pending := ⟨_, hc, h.workingEvent s⟩

/-- A request's row completes and keeps the queue if its handling does. -/
theorem request_completes {c : Instr} {f : HostFrame} {h : State → Answer} {s : State}
    (hc : exec c s = .next (request f h s)) (hh : AnswerKeepsQueue h) :
    ∃ t, exec c s = .next t ∧ t.pending = s.pending := ⟨_, hc, hh.request f s⟩

/-- METER_WRITE_COMPLETE leaves the queue: it restarts the part, or waits to, or goes on. -/
theorem meterWriteComplete_completes (s : State) : ∃ t, exec .meterWriteComplete s = .next t ∧ t.pending = s.pending := by
  refine ⟨_, rfl, ?_⟩
  split
  · split
    · split
      · exact KeepsQueue.event (f := fun s => awaitSettling (finishMeterWrite _ _ _ s))
          (finishMeterWrite_keepsQueue _ _ _) s
      · exact finishMeterWrite_keepsQueue _ _ _ s
    · exact (completeWrite_keepsQueue _ _ _ _).event s
  · rfl

/-- BREAK leaves the queue, in every power state. -/
theorem lineBreak_completes (s : State) : ∃ t, exec .lineBreak s = .next t ∧ t.pending = s.pending := by
  refine event_completes rfl fun s => ?_
  split <;> rfl

/-- TX_FRAME_START leaves the queue, whatever the arbiter chooses. -/
theorem txFrameStart_completes (s : State) : ∃ t, exec .txFrameStart s = .next t ∧ t.pending = s.pending := by
  refine workingEvent_completes rfl (KeepsQueue.guard fun s => ?_)
  split
  · rfl
  · exact beginFrame_pending s _

/-- SETTLING_END leaves the queue. -/
theorem settlingEnd_completes (s : State) : ∃ t, exec .settlingEnd s = .next t ∧ t.pending = s.pending := by
  refine ⟨_, rfl, ?_⟩
  split
  · exact settled_keepsQueue s
  · rfl

/-- UNKNOWN_KIND leaves the queue. -/
theorem unknownKind_completes (tag kind : Byte) (s : State) :
    ∃ t, exec (.unknownKind tag kind) s = .next t ∧ t.pending = s.pending := by
  refine ⟨_, rfl, ?_⟩
  split
  · rfl
  · exact AnswerKeepsQueue.request (plain_keepsQueue _) _ s

/-- SET leaves the queue, also with entries that no frame carries. -/
theorem set_completes (tag object index : Byte) (es : List FieldEntry) (s : State) :
    ∃ t, exec (.set tag object index es) s = .next t ∧ t.pending = s.pending := by
  refine ⟨_, rfl, ?_⟩
  split
  · refine AnswerKeepsQueue.request ?_ _ s
    split
    · exact plain_keepsQueue _
    · exact handleSet_keepsQueue object index es
  · rfl

/-- Settles O2, by the command: its meaning is an event or a request whose own effect keeps the queue. -/
theorem everyCommandCompletesAndKeepsQueue : Obligations.EveryCommandCompletesAndKeepsQueue := by
  intro c s
  match c with
  | .powerOn => exact ⟨_, rfl, rfl⟩
  | .millisecondEnd => exact event_completes rfl (fun _ => rfl)
  | .meterWriteStart => exact event_completes rfl (KeepsQueue.guard fun _ => rfl)
  | .meterWriteComplete => exact meterWriteComplete_completes s
  | .analogSample ch raw => exact event_completes rfl (KeepsQueue.guard fun _ => rfl)
  | .holdExpiry ch => exact event_completes rfl (KeepsQueue.guard fun _ => rfl)
  | .pulseInterval ch n => exact workingEvent_completes rfl (KeepsQueue.guard fun _ => rfl)
  | .discreteSample ch b => exact event_completes rfl (KeepsQueue.guard (takeDiscrete_keepsQueue ch b))
  | .agreementExpiry => exact workingEvent_completes rfl (KeepsQueue.guard fun _ => rfl)
  | .rxDataFrame id bytes => exact workingEvent_completes rfl (KeepsQueue.guard (receiveFrame_keepsQueue _))
  | .rxRemoteFrame id => exact workingEvent_completes rfl (KeepsQueue.guard (receiveFrame_keepsQueue _))
  | .receiveError => exact workingEvent_completes rfl (KeepsQueue.guard fun _ => rfl)
  | .ageExpiry slot => exact workingEvent_completes rfl (KeepsQueue.guard fun _ => rfl)
  | .transmitOffer => exact workingEvent_completes rfl (KeepsQueue.guard offerFrame_keepsQueue)
  | .frameSent => exact workingEvent_completes rfl (KeepsQueue.guard (endAttempt_keepsQueue fun _ _ => rfl))
  | .lostArbitration winner =>
    exact workingEvent_completes rfl (KeepsQueue.guard (endAttempt_keepsQueue (loseArbitration_keepsQueue winner)))
  | .transmitError => exact workingEvent_completes rfl (KeepsQueue.guard (endAttempt_keepsQueue fun _ _ => rfl))
  | .recoveryComplete => exact workingEvent_completes rfl (KeepsQueue.guard fun _ => rfl)
  | .busJoin => exact workingEvent_completes rfl (KeepsQueue.guard fun _ => rfl)
  | .t0Period => exact workingEvent_completes rfl (KeepsQueue.guard fun _ => rfl)
  | .t1Period => exact workingEvent_completes rfl (KeepsQueue.guard fun _ => rfl)
  | .t2Period => exact workingEvent_completes rfl (KeepsQueue.guard fun _ => rfl)
  | .recessiveRun => exact workingEvent_completes rfl (fun _ => rfl)
  | .chassisRecover tag => exact request_completes rfl handleRecover_keepsQueue
  | .ptoEngage tag d => exact request_completes rfl (handleEngage_keepsQueue d)
  | .ptoDisengage tag d => exact request_completes rfl (handleDisengage_keepsQueue d)
  | .requestRecheck d => exact workingEvent_completes rfl (KeepsQueue.guard fun _ => rfl)
  | .requestWindowExpiry d => exact workingEvent_completes rfl (KeepsQueue.guard fun _ => rfl)
  | .shiftTimeout d => exact workingEvent_completes rfl (KeepsQueue.guard fun _ => rfl)
  | .settleExpiry d => exact workingEvent_completes rfl (KeepsQueue.guard fun _ => rfl)
  | .windDownRecheck d => exact workingEvent_completes rfl (KeepsQueue.guard fun _ => rfl)
  | .windDownNoticeExpiry d => exact workingEvent_completes rfl (KeepsQueue.guard fun _ => rfl)
  | .releaseTimeout d => exact workingEvent_completes rfl (KeepsQueue.guard fun _ => rfl)
  | .uncommandedExpiry d => exact workingEvent_completes rfl (KeepsQueue.guard fun _ => rfl)
  | .faultClear tag d => exact request_completes rfl (handleFaultClear_keepsQueue d)
  | .governorStep => exact workingEvent_completes rfl (KeepsQueue.guard fun _ => rfl)
  | .governorHoldExpiry => exact workingEvent_completes rfl (KeepsQueue.guard fun _ => rfl)
  | .stopTimerExpiry => exact workingEvent_completes rfl (KeepsQueue.guard fun _ => rfl)
  | .govern tag mode v => exact request_completes rfl (handleGovern_keepsQueue mode v)
  | .pumpIdle tag => exact request_completes rfl handlePumpIdle_keepsQueue
  | .resume tag => exact request_completes rfl handleResume_keepsQueue
  | .protectionStep => exact workingEvent_completes rfl (KeepsQueue.guard fun _ => rfl)
  | .qualificationExpiry => exact workingEvent_completes rfl (KeepsQueue.guard fun _ => rfl)
  | .resumeTimerExpiry => exact workingEvent_completes rfl (KeepsQueue.guard fun _ => rfl)
  | .gaugeEvent => exact workingEvent_completes rfl (KeepsQueue.guard fun _ => rfl)
  | .fillStart tag v => exact request_completes rfl (handleFillStart_keepsQueue v)
  | .fillStop tag => exact request_completes rfl handleFillStop_keepsQueue
  | .fillTimeout => exact workingEvent_completes rfl (KeepsQueue.guard fun _ => rfl)
  | .foam tag sel ratio => exact request_completes rfl (handleFoam_keepsQueue sel ratio)
  | .burstTimerExpiry => exact event_completes rfl (KeepsQueue.guard fun _ => rfl)
  | .burstEvent => exact event_completes rfl (KeepsQueue.guard fun _ => rfl)
  | .holdOffExpiry a => exact workingEvent_completes rfl (KeepsQueue.guard fun _ => rfl)
  | .release tag a => exact request_completes rfl (handleRelease_keepsQueue a)
  | .force tag v => exact request_completes rfl (handleForce_keepsQueue v)
  | .overspeedExpiry => exact workingEvent_completes rfl (KeepsQueue.guard tripOverspeed_keepsQueue)
  | .frameReceived f => exact workingEvent_completes rfl (KeepsQueue.guard (completeFrame_keepsQueue f))
  | .characterError e => exact workingEvent_completes rfl (KeepsQueue.guard fun _ => rfl)
  | .interByteTimeout => exact workingEvent_completes rfl (KeepsQueue.guard fun _ => rfl)
  | .executionStart => exact workingEvent_completes rfl executeAwaiting_keepsQueue
  | .lineBreak => exact lineBreak_completes s
  | .unknownKind tag kind => exact unknownKind_completes tag kind s
  | .identify tag => exact request_completes rfl handleIdentify_keepsQueue
  | .read tag o i => exact request_completes rfl (handleRead_keepsQueue o i)
  | .snapshot tag => exact request_completes rfl handleSnapshot_keepsQueue
  | .set tag o i es => exact set_completes tag o i es s
  | .store tag => exact request_completes rfl (handleStore_keepsQueue tag)
  | .storeComplete => exact event_completes rfl (KeepsQueue.guard finishStore_keepsQueue)
  | .recall tag => exact request_completes rfl handleRecall_keepsQueue
  | .monitorAdd tag o i => exact request_completes rfl (handleMonitor_keepsQueue true o i)
  | .monitorRemove tag o i => exact request_completes rfl (handleMonitor_keepsQueue false o i)
  | .spacingExpiry i => exact workingEvent_completes rfl (KeepsQueue.guard fun _ => rfl)
  | .reportRate tag v => exact request_completes rfl (handleReportRate_keepsQueue v)
  | .statusPeriod => exact workingEvent_completes rfl (KeepsQueue.guard fun _ => rfl)
  | .txFrameStart => exact txFrameStart_completes s
  | .txFrameEnd => exact event_completes rfl endFrame_keepsQueue
  | .restart tag => exact request_completes rfl handleRestart_keepsQueue
  | .restartProceed => exact event_completes rfl (KeepsQueue.guard fun _ => rfl)
  | .silenceExpiry => exact workingEvent_completes rfl (KeepsQueue.guard fun _ => rfl)
  | .rundownTimeout => exact workingEvent_completes rfl (KeepsQueue.guard fun _ => rfl)
  | .settlingEnd => exact settlingEnd_completes s
  | .receivedByte b => exact workingEvent_completes rfl (receiveByte_keepsQueue b)
  | .lossOfSupply => exact ⟨_, rfl, rfl⟩

end Sys2Proof.Machine
end

section
/-! SUPPORT. The two statements of this family that some state fails: the state that fails each is written out, and the
model evaluates it. -/

namespace Sys2Proof.Machine

/-! ### A fill that RUNDOWN ends at the end of a millisecond -/

/-- A fill of 499 ms in a standing vehicle, AWAKE, with D8 at 0 and AUX winding down. The entry to RUNDOWN that R190 asks
for has not been taken; no run of the part leaves such a state, but the statement speaks of every state. -/
def fillWithIgnitionOff : State :=
  { State.reset with
    time := { State.reset.time with uptime := 499#32 }
    inputs := { State.reset.inputs with
      discrete := State.reset.inputs.discrete.set 8 { discreteStart with awaitFirst := false } }
    chassis := { State.reset.chassis with
      rx := State.reset.chassis.rx.set 0 { rxStart true with state := .fresh, decoded := some 0 } }
    pto := { State.reset.pto with aux := { driveStart 0 with state := .windingDown } }
    gauge := { State.reset.gauge with
      water := { State.reset.gauge.water with state := .filling }
      fill := { fillStartRecord with active := true, target := some 1000 } }
    notices := { entries := [], lost := false } }

/-- That state after MILLISECOND_END, at which uptime becomes 500 ms and the part goes to RUNDOWN. -/
def rundownAtMillisecond : State :=
  event (fun s => { s with time := endMillisecond s, chassis := nextMillisecond s.chassis }) fillWithIgnitionOff

theorem exec_fillWithIgnitionOff : exec .millisecondEnd fillWithIgnitionOff = .next rundownAtMillisecond := rfl

theorem fillWithIgnitionOff_continues : Continues .millisecondEnd fillWithIgnitionOff rundownAtMillisecond :=
  ⟨by decide +kernel, by decide +kernel, exec_fillWithIgnitionOff, nofun, nofun⟩

/-- The part enters RUNDOWN, the vehicle still stands, and WATER has a transducer. -/
theorem rundownAtMillisecond_entered :
    fillWithIgnitionOff.power.state = .awake ∧ rundownAtMillisecond.power.state = .rundown ∧
    rundownAtMillisecond.vehicle = .stationary ∧ ¬ WaterLost rundownAtMillisecond ∧
    waterGeometry rundownAtMillisecond.settings = waterGeometry fillWithIgnitionOff.settings := by
  unfold WaterLost Lost; decide +kernel

/-- 499 ms round to 0 s (R2, R139). -/
theorem roundsHalfAway_499 :
    RoundsHalfAway ((fillWithIgnitionOff.time.uptime - fillWithIgnitionOff.gauge.fill.start).toNat : Int) 1000
      (0 : Nat) := by
  unfold RoundsHalfAway; decide +kernel

/-- FILL_DONE carries 1 s, the 500 ms that the fill had lasted when it ended. -/
theorem rundownAtMillisecond_fillDone :
    ∀ e ∈ rundownAtMillisecond.notices.entries, e.kind = .fillDone →
      e.detail = u8 (fillReasonCode .power) ++ noticeU16 none ++ noticeU16 (some 1) := by
  decide +kernel

/-- Refutes O43: MILLISECOND_END moves uptime on before the entry to RUNDOWN ends the fill, so FILL_DONE counts the
seconds up to the new uptime, and the statement up to the old one. -/
theorem not_fillsOpenAndShutTheValve : ¬ Obligations.FillsOpenAndShutTheValve := by
  unfold Obligations.FillsOpenAndShutTheValve
  rintro ⟨-, -, -, -, -, -, -, hends⟩
  obtain ⟨-, -, hpower⟩ := hends _ _ _ fillWithIgnitionOff_continues rfl
  obtain ⟨hawake, hrundown, hstands, hwater, hgeometry⟩ := rundownAtMillisecond_entered
  obtain ⟨-, -, hdone⟩ := hpower hawake hrundown hstands hwater hgeometry nofun nofun nofun nofun
  obtain ⟨e, he, -, hkind, -, hdetail⟩ := hdone rfl 0 roundsHalfAway_499
  have hzero : u8 (fillReasonCode .power) ++ noticeU16 none ++ noticeU16 (some 1) =
      u8 (fillReasonCode .power) ++ noticeU16 none ++ noticeU16 (some 0) :=
    (rundownAtMillisecond_fillDone e he hkind).symm.trans hdetail
  exact absurd hzero (by decide)

/-! ### A speed setpoint below 0 -/

/-- The delivered part with an idle_rpm of −1, below the range of R78. No run of the part leaves such a state (`LimitsSound`
keeps idle_rpm at 500 and above), but the statement does not ask that the settings keep their limits. -/
def idleBelowZero : State :=
  { State.reset with settings := { factorySettings with gov := { factoryGov with idleRpm := -1 } } }

/-- A SET of the speed setpoint to −1 rpm. -/
def setpointBelowZero : List FieldEntry := [{ field := 13#8, value := [0xFF#8, 0xFF#8] }]

theorem idleBelowZero_steady : Steady idleBelowZero :=
  ⟨by decide +kernel, by decide +kernel, by decide +kernel, by decide +kernel, by decide +kernel⟩

theorem setpointBelowZero_sound : EntriesSound idleBelowZero.settings .governor setpointBelowZero :=
  ⟨by decide, by decide, fun e he => by rw [List.mem_singleton.mp he]; rfl, trivial⟩

theorem idleBelowZero_idle : idleBelowZero.gauge.fill.active = false ∧ ¬ SomeActive idleBelowZero := by
  unfold SomeActive; decide +kernel

/-- The governor's settings that a state answers with. -/
def govSettingsAfter : Result → Option GovSettings
  | .next t => some t.settings.gov
  | _ => none

/-- The SET is taken: −1 rpm lies between idle_rpm and gov_max. -/
theorem setpointBelowZero_taken :
    govSettingsAfter (exec (.set 0 6 0 setpointBelowZero) idleBelowZero) =
      some { factoryGov with idleRpm := -1, speedSetpoint := -1 } := by
  decide +kernel

/-- Refutes O54: with an idle_rpm of −1 a speed setpoint of −1 is taken as written, and its field, which is unsigned, reads
as 0. -/
theorem not_setChecksAndApplies : ¬ Obligations.SetChecksAndApplies := by
  unfold Obligations.SetChecksAndApplies
  intro h
  obtain ⟨-, -, hset, -⟩ := h 0 6 0 setpointBelowZero idleBelowZero _ (by decide) (by decide +kernel) rfl
  obtain ⟨-, -, hjudged, -⟩ := hset .governor nofun (by decide)
  obtain ⟨hidle, hinactive⟩ := idleBelowZero_idle
  obtain ⟨t, -, -, hexec, -, -, htaken⟩ :=
    (hjudged (.inl ⟨rfl, rfl⟩)).2 setpointBelowZero_sound hidle hinactive idleBelowZero_steady
  have hgov : t.settings.gov = { factoryGov with idleRpm := -1, speedSetpoint := -1 } := by
    have htold := setpointBelowZero_taken
    rw [hexec] at htold
    exact Option.some.inj htold
  obtain ⟨bytes, hread, hwritten⟩ := htaken.written _ (List.mem_singleton.mpr rfl)
  have hshown : bytes = numberBytes 2 0 := by
    simpa [recordLayout, hgov, eq_comm] using hread
  have hasked : bytes = numberBytes 2 (within (-1) 2200 (spelt true [0xFF#8, 0xFF#8])) := by
    simpa [settingForm, governorForm, hgov, FieldTakes, factoryGov] using hwritten
  exact absurd (hshown.symm.trans hasked) (by decide +kernel)

end Sys2Proof.Machine
end

section
/-! SUPPORT. What a frame of a host can come to, and what an event is: said once for all commands. -/

namespace Sys2Proof.Machine

/-- Everything that the judging of a host frame can come to (R171): an answer that changes nothing, or that of one of the
requests. -/
inductive Handled (s : State) : Answer → Prop
  | plain (code : ResultCode) : Handled s (plain code s)
  | identify : Handled s (handleIdentify s)
  | read (o i : Byte) : Handled s (handleRead o i s)
  | snapshot : Handled s (handleSnapshot s)
  | set (o i : Byte) (es : List FieldEntry) : Handled s (handleSet o i es s)
  | store (tag : Byte) : Handled s (handleStore tag s)
  | recallStored : Handled s (handleRecall s)
  | engage (d : Byte) : Handled s (handleEngage d s)
  | disengage (d : Byte) : Handled s (handleDisengage d s)
  | govern (m : Byte) (v : BitVec 16) : Handled s (handleGovern m v s)
  | resume : Handled s (handleResume s)
  | pumpIdle : Handled s (handlePumpIdle s)
  | release (a : Byte) : Handled s (handleRelease a s)
  | force (v : Byte) : Handled s (handleForce v s)
  | fillStart (v : BitVec 16) : Handled s (handleFillStart v s)
  | fillStop : Handled s (handleFillStop s)
  | foam (sel : Byte) (ratio : Option Byte) : Handled s (handleFoam sel ratio s)
  | faultClear (d : Byte) : Handled s (handleFaultClear d s)
  | recover : Handled s (handleRecover s)
  | monitor (add : Bool) (o i : Byte) : Handled s (handleMonitor add o i s)
  | reportRate (v : BitVec 16) : Handled s (handleReportRate v s)
  | restart : Handled s (handleRestart s)

/-- A request without payload comes to its own answer or to a refusal. -/
theorem bare_handled {h : State → Answer} {s : State} (hh : Handled s (h s)) (p : List Byte) :
    Handled s (bare h p s) := by
  unfold bare
  split
  · exact hh
  · exact .plain _

/-- A request of one byte comes to its own answer or to a refusal. -/
theorem oneByte_handled {h : Byte → State → Answer} {s : State} (hh : ∀ a, Handled s (h a s)) (p : List Byte) :
    Handled s (oneByte h p s) := by
  unfold oneByte
  split
  · exact hh _
  · exact .plain _

theorem judgeRead_handled (p : List Byte) (s : State) : Handled s (judgeRead p s) := by
  unfold judgeRead
  split
  · exact .read _ _
  · exact .plain _

theorem judgeSet_handled (p : List Byte) (s : State) : Handled s (judgeSet p s) := by
  unfold judgeSet
  split
  · split
    · exact .plain _
    · exact .plain _
    · exact .set _ _ _
  · exact .plain _

theorem judgePto_handled (p : List Byte) (s : State) : Handled s (judgePto p s) := by
  unfold judgePto
  split
  · split
    · exact .engage _
    · split
      · exact .disengage _
      · exact .plain _
  · exact .plain _

theorem judgeGovern_handled (p : List Byte) (s : State) : Handled s (judgeGovern p s) := by
  unfold judgeGovern
  split
  · exact .govern _ _
  · exact .plain _

theorem judgeFill_handled (p : List Byte) (s : State) : Handled s (judgeFill p s) := by
  unfold judgeFill
  split
  · split
    · exact .fillStop
    · split <;> exact .plain _
  · split
    · exact .fillStart _
    · split <;> exact .plain _
  · exact .plain _

theorem judgeFoam_handled (p : List Byte) (s : State) : Handled s (judgeFoam p s) := by
  unfold judgeFoam
  split
  · exact .foam _ _
  · exact .foam _ _
  · exact .plain _

theorem judgeMonitor_handled (p : List Byte) (s : State) : Handled s (judgeMonitor p s) := by
  unfold judgeMonitor
  split
  · split
    · exact .monitor _ _ _
    · split
      · exact .monitor _ _ _
      · split <;> exact .plain _
  · exact .plain _

theorem judgeReportRate_handled (p : List Byte) (s : State) : Handled s (judgeReportRate p s) := by
  unfold judgeReportRate
  split
  · exact .reportRate _
  · exact .plain _

/-- A frame is judged by its kind. -/
theorem judgeFrame_handled (f : HostFrame) (s : State) : Handled s (judgeFrame f s) := by
  unfold judgeFrame
  split
  · exact bare_handled .identify _
  · exact judgeRead_handled _ s
  · exact bare_handled .snapshot _
  · exact judgeSet_handled _ s
  · exact bare_handled (.store _) _
  · exact bare_handled .recallStored _
  · exact judgePto_handled _ s
  · exact judgeGovern_handled _ s
  · exact bare_handled .resume _
  · exact bare_handled .pumpIdle _
  · exact oneByte_handled .release _
  · exact oneByte_handled .force _
  · exact judgeFill_handled _ s
  · exact judgeFoam_handled _ s
  · exact oneByte_handled .faultClear _
  · exact bare_handled .recover _
  · exact judgeMonitor_handled _ s
  · exact judgeReportRate_handled _ s
  · exact bare_handled .restart _
  · exact .plain _

/-- A command's result by a relation between the state before and the one its own effect leaves: nothing done, or such an
effect and then everything that follows within the event. -/
def EventOf (R : State → State → Prop) (s t : State) : Prop := t = s ∨ ∃ u, R s u ∧ t = settle s u

/-- An event is its own effect and what follows, or without supply nothing. -/
theorem event_eventOf {R : State → State → Prop} {f : State → State} {s : State} (h : R s (f s)) :
    EventOf R s (event f s) := by
  unfold event
  split
  · exact .inr ⟨_, h, rfl⟩
  · exact .inl rfl

/-- An event of a working part is its own effect or nothing, and what follows. -/
theorem workingEvent_eventOf {R : State → State → Prop} {f : State → State} {s : State} (hr : R s s) (h : R s (f s)) :
    EventOf R s (workingEvent f s) := by
  refine event_eventOf (f := fun s => if s.working then f s else s) ?_
  split
  · exact h
  · exact hr

/-- What a command leaves is a reaction to the state of its own effect. -/
theorem EventOf.reacted {R : State → State → Prop} {s t : State} (hr : R s s) (h : EventOf R s t) :
    ∃ u, R s u ∧ Reacted u t := by
  rcases h with rfl | ⟨u, hu, rfl⟩
  · exact ⟨t, hr, (ReactedBy.refl t).le (by omega)⟩
  · exact ⟨u, hu, reacted_settle s u⟩

/-- The commands that can be a starting point or take the supply away, and are not an event like the others. -/
def mayStart : Instr → Bool
  | .powerOn | .meterWriteComplete | .settlingEnd | .lossOfSupply => true
  | _ => false

/-- In a part that goes on working every command is an event, and SETTLING_END is none at all. -/
theorem Continues.event_or_same {c : Instr} {s t : State} (h : Continues c s t) : mayStart c = false ∨ t = s := by
  obtain ⟨hs, ht, hc, hp, hm⟩ := h
  cases c with
  | settlingEnd =>
    refine .inr ?_
    have hn : ¬ ((s.powered && decide (s.power.state = .waking) && due s.time.uptime s.power.settling) = true) := by
      intro h
      simp only [Bool.and_eq_true, decide_eq_true_eq] at h
      rw [State.working, h.1.2] at hs
      simp [working] at hs
    simp only [exec, execSettlingEnd, if_neg hn] at hc
    exact (Host.Outcome.next.inj hc).symm
  | lossOfSupply =>
    cases hc
    simp [State.working, loseSupply] at ht
  | powerOn => exact absurd rfl hp
  | meterWriteComplete => exact absurd rfl hm
  | _ => exact .inl rfl

end Sys2Proof.Machine
end

section
/-! SUPPORT. What each command does to the error counts and the state of the chassis port, and what it tells of a change of
that state (R25, R41 to R43). -/

namespace Sys2Proof.Machine

/-! ### Changes of the port's record -/

/-- The notices that tell of a port that has come to another state than `was`: its CHASSIS_STATE, and before it that of the
BUS_OFF in which auto-recovery has started a recovery at once (R41, R43). -/
def PortNews (was : PortState) (ch : Chassis) (ns : List Notice) : Prop :=
  (ns = [noticeChassisState ch.port ch.txErrors ch.rxErrors] ∧ (ch.port = .recovering → was = .busOff)) ∨
  (ch.port = .recovering ∧ ns = [noticeChassisState .busOff 255 ch.rxErrors,
    noticeChassisState .recovering ch.txErrors ch.rxErrors])

/-- A change of the port's record that keeps it sound and posts `ns`, which tell of a new state. -/
structure PortMove (old new : Chassis) (ns : List Notice) : Prop where
  sound : PortSound old → PortSound new
  told : new.port = old.port ∨ PortNews old.port new ns

/-- A change that leaves the counts, the state and the progress. -/
theorem PortMove.of_same {old new : Chassis} {ns : List Notice} (hp : new.port = old.port)
    (ht : new.txErrors = old.txErrors) (hr : new.rxErrors = old.rxErrors) (hg : new.progress = old.progress) :
    PortMove old new ns :=
  { sound := fun h => ⟨ht ▸ h.transmit, hr ▸ h.receive, by rw [hp, ht, hr]; exact h.active,
      by rw [hp, ht, hr]; exact h.passive, hg ▸ h.progress⟩
    told := .inl hp }

/-- The state that two counts give agrees with them. -/
theorem stateOfCounts_cases (tec rec : Nat) :
    (stateOfCounts tec rec = .errorPassive ∧ (128 ≤ tec ∨ 128 ≤ rec)) ∨
    (stateOfCounts tec rec = .errorActive ∧ tec < 128 ∧ rec < 128) := by
  unfold stateOfCounts
  split
  · next h => exact .inl ⟨rfl, h⟩
  · next h => exact .inr ⟨rfl, by omega⟩

/-- New counts, within a byte, on a record that differs from the old one in neither state nor progress (R41). -/
theorem portMove_withCounts {old ch : Chassis} {tec rec : Nat} (hp : ch.port = old.port)
    (hg : ch.progress = old.progress) (ht : PortSound old → tec ≤ 255) (hr : PortSound old → rec ≤ 255) :
    PortMove old (withCounts tec rec ch).1 (withCounts tec rec ch).2 where
  sound h :=
    { transmit := ht h, receive := hr h
      active := fun ha => by
        rcases stateOfCounts_cases tec rec with ⟨hs, -⟩ | ⟨-, hlt⟩
        · exact absurd (hs.symm.trans ha) (by decide)
        · exact hlt
      passive := fun ha => by
        rcases stateOfCounts_cases tec rec with ⟨-, hge⟩ | ⟨hs, -⟩
        · exact hge
        · exact absurd (hs.symm.trans ha) (by decide)
      progress := hg ▸ h.progress }
  told := by
    unfold withCounts
    dsimp only
    split
    · next h => exact .inl (h.trans hp)
    · refine .inr (.inl ⟨rfl, fun h => ?_⟩)
      rcases stateOfCounts_cases tec rec with ⟨hs, -⟩ | ⟨hs, -⟩ <;> exact absurd (hs.symm.trans h) (by decide)

/-- A frame received correctly (R41). -/
theorem portMove_receivedWell {old ch : Chassis} (hp : ch.port = old.port) (ht : ch.txErrors = old.txErrors)
    (hr : ch.rxErrors = old.rxErrors) (hg : ch.progress = old.progress) :
    PortMove old (receivedWell ch).1 (receivedWell ch).2 :=
  portMove_withCounts hp hg (fun h => ht ▸ h.transmit) (fun h => by have := h.receive; omega)

/-- A receive error (R41). -/
theorem portMove_receiveFailed (ch : Chassis) : PortMove ch (receiveFailed ch).1 (receiveFailed ch).2 :=
  portMove_withCounts rfl rfl (fun h => h.transmit) (fun _ => Nat.min_le_left _ _)

/-- A frame sent (R36, R41). -/
theorem portMove_sentWell (c : Settings) (now : Uptime) (i : Fin 4) (ch : Chassis) :
    PortMove ch (sentWell c now i ch).1 (sentWell c now i ch).2 :=
  portMove_withCounts rfl rfl (fun h => by have := h.transmit; omega) (fun h => h.receive)

/-- A port off the bus, with its counts within a byte and no recovery under way, is sound. -/
theorem portSound_off_bus {ch : Chassis} (ha : ch.port ≠ .errorActive) (hp : ch.port ≠ .errorPassive)
    (ht : ch.txErrors ≤ 255) (hr : ch.rxErrors ≤ 255) (hg : ch.progress < 128) : PortSound ch :=
  ⟨ht, hr, fun h => absurd h ha, fun h => absurd h hp, hg⟩

/-- A port in ERROR_ACTIVE with both counts 0 is sound. -/
theorem portSound_fresh {ch : Chassis} (hp : ch.port = .errorActive) (ht : ch.txErrors = 0) (hr : ch.rxErrors = 0)
    (hg : ch.progress = 0) : PortSound ch :=
  ⟨by omega, by omega, fun _ => by omega, fun h => absurd (hp.symm.trans h) (by decide), by omega⟩

/-- The start of recovery, from BUS_OFF (R43). -/
theorem portMove_startRecovery {ch : Chassis} (h : ch.port = .busOff) :
    PortMove ch (startRecovery ch).1 (startRecovery ch).2 :=
  { sound := fun s => portSound_off_bus (by simp [startRecovery]) (by simp [startRecovery]) s.transmit s.receive
      (Nat.zero_lt_succ _)
    told := .inr (.inl ⟨rfl, fun _ => h⟩) }

/-- A transmit error (R41), with the entry to BUS_OFF (R42). -/
theorem portMove_sendFailed (c : Settings) (i : Fin 4) (ch : Chassis) :
    PortMove ch (sendFailed c i ch).1 (sendFailed c i ch).2 := by
  unfold sendFailed
  dsimp only
  split
  · unfold enterBusOff
    dsimp only
    split
    · exact { sound := fun s => portSound_off_bus nofun nofun (Nat.le_refl _) s.receive (Nat.zero_lt_succ _)
              told := .inr (.inr ⟨rfl, rfl⟩) }
    · exact { sound := fun s => portSound_off_bus nofun nofun (Nat.le_refl _) s.receive (Nat.zero_lt_succ _)
              told := .inr (.inl ⟨rfl, nofun⟩) }
  · next h => exact portMove_withCounts rfl rfl (fun _ => by omega) (fun s => s.receive)

/-- The end of recovery (R43). -/
theorem portMove_endRecovery (ch : Chassis) : PortMove ch (endRecovery ch).1 (endRecovery ch).2 :=
  { sound := fun _ => portSound_fresh rfl rfl rfl rfl, told := .inr (.inl ⟨rfl, nofun⟩) }

/-- A recessive run (R43). -/
theorem portMove_recessiveRun (ch : Chassis) : PortMove ch (recessiveRun ch).1 (recessiveRun ch).2 := by
  unfold recessiveRun
  split
  · next hp =>
    split
    · exact portMove_endRecovery ch
    · exact { sound := fun s => portSound_off_bus (hp ▸ nofun) (hp ▸ nofun) s.transmit s.receive (by dsimp only; omega)
              told := .inl rfl }
  · exact .of_same rfl rfl rfl rfl

/-- A slot falling due leaves the port's record (R35). -/
theorem portMove_fallDue {old ch : Chassis} {ns : List Notice} (c : Settings) (i : Fin 4) (h : PortMove old ch ns) :
    PortMove old (fallDue c i ch) ns := by
  unfold fallDue
  split
  · exact ⟨fun s => let h := h.sound s; ⟨h.transmit, h.receive, h.active, h.passive, h.progress⟩, h.told⟩
  · exact h

/-- A change of settings posts at most one notice of the port, and tells by it of a new state (R25, R43). -/
theorem portMove_retuneChassis (old new : Settings) (ch : Chassis) :
    PortMove ch (retuneChassis old new ch).1 (retuneChassis old new ch).2 ∧ (retuneChassis old new ch).2.length ≤ 1 := by
  unfold retuneChassis retuneBitRate retuneRecovery changeBitRate
  dsimp only
  split
  · rw [if_neg (by simp)]
    dsimp only
    split
    · next hp => exact ⟨⟨fun _ => portSound_fresh rfl rfl rfl rfl, .inl hp.symm⟩, by simp⟩
    · exact ⟨⟨fun _ => portSound_fresh rfl rfl rfl rfl, .inr (.inl ⟨rfl, nofun⟩)⟩, by simp⟩
  · split
    · next h =>
      have hm := portMove_startRecovery (ch := { ch with
        rx := ch.rx.mapFinIdx (fun k r _ => resetSlot (old.rx[k]) (new.rx[k]) r)
        tx := ch.tx.mapFinIdx (fun k t _ => retuneTx (new.tx[k]) t) }) h.2.2
      exact ⟨⟨fun s => hm.sound ⟨s.transmit, s.receive, s.active, s.passive, s.progress⟩, hm.told⟩,
        by simp [startRecovery]⟩
    · exact ⟨.of_same rfl rfl rfl rfl, by simp⟩

/-! ### Effects on the part -/

/-- The notices among which a change of the port's state is told: those of the port first, at most ten in all, so that in an
empty queue none is lost, and no other CHASSIS_STATE. -/
def PortTold (s u : State) : Prop :=
  ∃ first rest : List Notice, u.notices = postAll s.time.uptime s.notices (first ++ rest) ∧
    PortNews s.chassis.port u.chassis first ∧ (first ++ rest).length ≤ 10 ∧ ∀ n ∈ rest, n.kind ≠ .chassisState

/-- An effect that keeps the port's record sound and tells of a change of the port's state. -/
structure PortKept (s u : State) : Prop where
  sound : PortSound s.chassis → PortSound u.chassis
  told : u.chassis.port = s.chassis.port ∨ PortTold s u

/-- An effect that leaves the port's record. -/
theorem PortKept.of_same {s u : State} (h : u.chassis = s.chassis) : PortKept s u := ⟨by rw [h]; exact id, .inl (by rw [h])⟩

/-- An effect on the port's record that tells of nothing, as the state stays. -/
theorem PortKept.of_move {s u : State} {ns : List Notice} (h : PortMove s.chassis u.chassis ns)
    (hp : u.chassis.port = s.chassis.port) : PortKept s u := ⟨h.sound, .inl hp⟩

/-- At most two notices tell of a port's new state. -/
theorem PortNews.length_le {was : PortState} {ch : Chassis} {ns : List Notice} (h : PortNews was ch ns) :
    ns.length ≤ 2 := by
  rcases h with ⟨rfl, -⟩ | ⟨-, rfl⟩ <;> simp

/-- A change of the port's record with its notices. -/
theorem PortKept.put {s : State} {r : Chassis × List Notice} (h : PortMove s.chassis r.1 r.2) :
    PortKept s (putChassis r s) where
  sound := h.sound
  told := h.told.imp id fun hn =>
    ⟨r.2, [], by simp [putChassis], hn, by have := hn.length_le; simp; omega, by simp⟩

/-- An effect that starts from a state with the same port, notices and time, and one that ends in a state with the same port
and notices. -/
theorem PortKept.between {s s' u u' : State} (h : PortKept s' u') (hs : s'.chassis = s.chassis)
    (hn : s'.notices = s.notices) (ht : s'.time = s.time) (hu : u.chassis = u'.chassis) (hm : u.notices = u'.notices) :
    PortKept s u where
  sound := by rw [hu, ← hs]; exact h.sound
  told := by
    have hold := h.told
    unfold PortTold at hold ⊢
    rw [hs, hn, ht, ← hu, ← hm] at hold
    exact hold

/-- An effect on the part that keeps the port's record sound and tells of a change of its state. -/
def KeepsPort (f : State → State) : Prop := ∀ s, PortKept s (f s)

/-- An effect that leaves the port's record, in every state. -/
theorem KeepsPort.of_same {f : State → State} (h : ∀ s, (f s).chassis = s.chassis) : KeepsPort f := fun s => .of_same (h s)

/-- A guarded effect keeps the port if the effect does. -/
theorem KeepsPort.guard {c : State → Prop} [∀ s, Decidable (c s)] {f : State → State} (h : KeepsPort f) :
    KeepsPort (fun s => if c s then f s else s) := by
  intro s
  dsimp only
  split
  · exact h s
  · exact .of_same rfl

/-! ### Changes of settings -/

/-- The kinds that the sequencer posts at a change of feedback or at a cab pump request. -/
def sequencerKinds : List NoticeKind := [.ptoFault, .ptoDisengaged, .ptoRefused]

/-- Entry to FAULT posts PTO_FAULT (R73). -/
theorem enterFault_posts (e : PtoEnv) (d : DriveId) (c : DriveCause) (r : PtoRun) :
    PostsMore 1 sequencerKinds r (enterFault e d c r) :=
  .one (noticePtoFault d c (r.pto.drive d).state) rfl (by simp [noticePtoFault, sequencerKinds]) (Nat.le_refl 1)

/-- A drive that comes to ENGAGED or SETTLING posts at most PTO_DISENGAGED, in RUNDOWN (R70). -/
theorem releaseInRundown_posts (e : PtoEnv) (d : DriveId) (r : PtoRun) :
    PostsMore 1 sequencerKinds r (releaseInRundown e d r) := by
  unfold releaseInRundown
  split
  · exact releaseDrive_posts e d r (by decide)
  · exact .none rfl

/-- A change of feedback posts at most one notice. -/
theorem feedbackChange_posts (e : PtoEnv) (d : DriveId) (r : PtoRun) :
    PostsMore 1 sequencerKinds r (feedbackChange e d r) := by
  unfold feedbackChange feedbackOn feedbackOff enterSettling
  dsimp only
  split
  · split
    · exact releaseInRundown_posts e d _
    · exact .none rfl
    · exact .none rfl
    · exact .none rfl
  · split
    · exact enterFault_posts e d _ r
    · exact enterFault_posts e d _ r
    · exact enterFault_posts e d _ r
    · exact .one (noticePtoDisengaged d) rfl (by simp [noticePtoDisengaged, sequencerKinds]) (Nat.le_refl 1)
    · exact .none rfl
    · exact .none rfl
    · split
      · exact .one (noticePtoDisengaged d) rfl (by simp [noticePtoDisengaged, sequencerKinds]) (Nat.le_refl 1)
      · exact .none rfl
    · exact .none rfl

/-- A cab pump request posts at most one notice. -/
theorem cabEngage_posts (e : PtoEnv) (r : PtoRun) : PostsMore 1 sequencerKinds r (cabEngage e r) := by
  unfold cabEngage engageDrive
  dsimp only
  split
  · next h =>
    split at h
    · cases h
    · split at h
      · cases h; exact .one (noticePtoRefused .main (some .state)) rfl (by decide) (Nat.le_refl 1)
      · cases h
    · cases h; exact .one (noticePtoRefused .main (some .state)) rfl (by decide) (Nat.le_refl 1)
  · next h =>
    split at h
    · cases h; exact .none rfl
    · split at h
      · cases h; exact .none rfl
      · cases h; exact releaseInRundown_posts e .main _
    · cases h; exact .none rfl

/-- A guarded run posts no more than the run. -/
theorem PostsMore.guard {n : Nat} {ks : List NoticeKind} {r r' : PtoRun} (c : Bool) (h : PostsMore n ks r r') :
    PostsMore n ks r (if c then r' else r) := by
  split
  · exact h
  · exact .none rfl

/-- A change of settings has the sequencer post at most three notices, for D1, D2 and D3. -/
theorem retunePto_posts (old new : Settings) (s : State) :
    (retunePto old new s).posts.length ≤ 3 ∧ ∀ x ∈ (retunePto old new s).posts, x.kind ∈ sequencerKinds := by
  have h : PostsMore (1 + 1 + 1) sequencerKinds s.ptoRun (retunePto old new s) := by
    unfold retunePto
    exact ((PostsMore.guard _ (feedbackChange_posts _ .main _)).trans
      (PostsMore.guard _ (feedbackChange_posts _ .aux _))).trans (PostsMore.guard _ (cabEngage_posts _ _))
  obtain ⟨ns, hns, hl, hk⟩ := h
  have he : (retunePto old new s).posts = ns := by simpa [State.ptoRun] using hns
  rw [he]
  exact ⟨hl, hk⟩

/-- A condition disabled posts at most its PROTECT (R117). -/
theorem retuneCond_posts (now : Uptime) (old new : ProtSettings) (i : Fin 5) (x : ProtCond) :
    (retuneCond now old new i x).2.length ≤ 1 ∧ ∀ n ∈ (retuneCond now old new i x).2, n.kind = .protect := by
  unfold retuneCond disableCond
  split
  · split <;> simp [noticeProtect]
  · simp

/-- A change of settings has the protection monitor post at most five notices, one for each condition (R117). -/
theorem retuneProtection_posts (now : Uptime) (oldG newG : GovSettings) (old new : ProtSettings) (p : Protection) :
    (retuneProtection now oldG newG old new p).2.length ≤ 5 ∧
    ∀ n ∈ (retuneProtection now oldG newG old new p).2, n.kind = .protect := by
  have h (i : Fin 5) := retuneCond_posts now old new i (p.conds[i])
  unfold retuneProtection
  dsimp only
  have h0 := h 0; have h1 := h 1; have h2 := h 2; have h3 := h 3; have h4 := h 4
  refine ⟨by simp only [List.length_append]; omega, fun n hn => ?_⟩
  simp only [List.mem_append] at hn
  rcases hn with (((hn | hn) | hn) | hn) | hn
  · exact h0.2 n hn
  · exact h1.2 n hn
  · exact h2.2 n hn
  · exact h3.2 n hn
  · exact h4.2 n hn

/-- A change of settings has the tank gauge post at most FILL_DONE (R123). -/
theorem retuneTanks_posts (now : Uptime) (old new : GaugeSettings) (g : TankGauge) :
    (retuneTanks now old new g).2.length ≤ 1 ∧ ∀ n ∈ (retuneTanks now old new g).2, n.kind = .fillDone := by
  unfold retuneTanks
  dsimp only
  split
  · exact endFill_posts now .stopped g
  · simp

/-- New working settings keep the port's record sound and tell of a change of its state. -/
theorem applySettings_keepsPort (new : Settings) : KeepsPort (applySettings new) := by
  intro s
  obtain ⟨hm, hl⟩ := portMove_retuneChassis s.settings new s.chassis
  refine ⟨hm.sound, hm.told.imp id fun hn => ?_⟩
  let s1 : State := { s with
    settings := new, inputs := retuneInputs s.settings new s.inputs, chassis := (retuneChassis s.settings new s.chassis).1
    gov := retuneGovernor s.settings.gov new.gov s.gov
    link := retuneLink s.time.uptime s.settings.link new.link s.link }
  obtain ⟨hp1, hp2⟩ := retunePto_posts s.settings new s1
  obtain ⟨hq1, hq2⟩ := retuneProtection_posts s.time.uptime s.settings.gov new.gov s.settings.prot new.prot s.prot
  obtain ⟨hg1, hg2⟩ := retuneTanks_posts s.time.uptime s.settings.gauge new.gauge s.gauge
  refine ⟨_, (retunePto s.settings new s1).posts ++
    (retuneProtection s.time.uptime s.settings.gov new.gov s.settings.prot new.prot s.prot).2 ++
    (retuneTanks s.time.uptime s.settings.gauge new.gauge s.gauge).2, ?_, hn, ?_, fun n h => ?_⟩
  · rw [← List.append_assoc, ← List.append_assoc]; rfl
  · simp only [List.length_append]; omega
  · simp only [List.mem_append] at h
    rcases h with (h | h) | h
    · have := hp2 n h
      intro hk
      rw [hk] at this
      exact absurd this (by decide)
    · rw [hq2 n h]; decide
    · rw [hg2 n h]; decide

end Sys2Proof.Machine
end

section
/-! SUPPORT. Every command, but those that can be a starting point, keeps the port's record sound and tells of a change of its
state; and O8. -/

namespace Sys2Proof.Machine

/-! ### Requests -/

theorem handleRecover_portKept (s : State) : PortKept s (handleRecover s).state := by
  unfold handleRecover
  split
  · next h => exact .put (portMove_startRecovery h)
  · exact .of_same rfl

theorem handleSet_portKept (o i : Byte) (es : List FieldEntry) (s : State) : PortKept s (handleSet o i es s).state := by
  unfold handleSet
  split
  · exact .of_same rfl
  · split
    · exact .of_same rfl
    · split
      · exact .of_same rfl
      · split
        · exact .of_same rfl
        · split
          · exact .of_same rfl
          · exact applySettings_keepsPort _ s

theorem handleRecall_portKept (s : State) : PortKept s (handleRecall s).state := by
  unfold handleRecall
  split
  · exact .of_same rfl
  · split
    · exact .of_same rfl
    · split
      · exact .of_same rfl
      · exact applySettings_keepsPort _ s

/-- The requests but CHASSIS_RECOVER, SET and RECALL leave the port's record. -/
theorem Handled.chassis_or {s : State} {a : Answer} (h : Handled s a) :
    a.state.chassis = s.chassis ∨ a = handleRecover s ∨ (∃ o i es, a = handleSet o i es s) ∨ a = handleRecall s := by
  cases h with
  | recover => exact .inr (.inl rfl)
  | set o i es => exact .inr (.inr (.inl ⟨o, i, es, rfl⟩))
  | recallStored => exact .inr (.inr (.inr rfl))
  | plain | identify | snapshot | resume | fillStop | reportRate => exact .inl rfl
  | read o i => refine .inl ?_; unfold handleRead; split <;> rfl
  | store tag => refine .inl ?_; unfold handleStore takeStore; dsimp only; split <;> rfl
  | engage d => refine .inl ?_; unfold handleEngage; split <;> rfl
  | disengage d => refine .inl ?_; unfold handleDisengage; split <;> rfl
  | govern m v =>
    refine .inl ?_
    unfold handleGovern handleGovernPressure handleGovernSpeed
    split
    · split <;> rfl
    · split
      · split <;> rfl
      · rfl
  | pumpIdle => refine .inl ?_; unfold handlePumpIdle; split <;> rfl
  | release a => refine .inl ?_; unfold handleRelease; split <;> rfl
  | force v =>
    refine .inl ?_
    unfold handleForce
    split
    · rfl
    · split <;> rfl
  | fillStart v => refine .inl ?_; unfold handleFillStart; split <;> rfl
  | foam sel ratio =>
    refine .inl ?_
    unfold handleFoam selectFoam
    split
    · rfl
    · split
      · rfl
      · split
        · rfl
        · split <;> rfl
  | faultClear d => refine .inl ?_; unfold handleFaultClear; split <;> rfl
  | monitor add o i =>
    refine .inl ?_
    unfold handleMonitor addMonitor
    split
    · rfl
    · rfl
    · split
      · split
        · rfl
        · split <;> rfl
      · rfl
  | restart => refine .inl ?_; unfold handleRestart; split <;> rfl

/-- Every request keeps the port's record sound and tells of a change of its state. -/
theorem Handled.portKept {s : State} {a : Answer} (h : Handled s a) : PortKept s a.state := by
  rcases h.chassis_or with h | rfl | ⟨o, i, es, rfl⟩ | rfl
  · exact .of_same h
  · exact handleRecover_portKept s
  · exact handleSet_portKept o i es s
  · exact handleRecall_portKept s

/-- A frame taken for execution leaves the port's record, the notices and the time. -/
theorem takeRequest_frame (s : State) :
    (takeRequest s).chassis = s.chassis ∧ (takeRequest s).notices = s.notices ∧ (takeRequest s).time = s.time := by
  unfold takeRequest
  split <;> exact ⟨rfl, rfl, rfl⟩

/-- A reply delivered leaves the port's record and the notices. -/
theorem deliver_frame (tag : Byte) (a : Answer) :
    (deliver tag a).chassis = a.state.chassis ∧ (deliver tag a).notices = a.state.notices := by
  unfold deliver
  split <;> exact ⟨rfl, rfl⟩

/-- A request's row is an event that keeps the port. -/
theorem request_eventOf {f : HostFrame} {h : State → Answer} (hh : ∀ s, Handled s (h s)) (s : State) :
    EventOf PortKept s (request f h s) := by
  refine workingEvent_eventOf (.of_same rfl) ?_
  split
  · obtain ⟨t1, t2, t3⟩ := takeRequest_frame s
    obtain ⟨d1, d2⟩ := deliver_frame f.tag (h (takeRequest s))
    exact (hh (takeRequest s)).portKept.between t1 t2 t3 d1 d2
  · exact .of_same rfl

/-- The execution of the awaiting frame keeps the port. -/
theorem executeAwaiting_keepsPort : KeepsPort executeAwaiting := by
  intro s
  unfold executeAwaiting
  split
  · exact .of_same rfl
  · next f _ =>
    split
    · let taken : State := { s with link := { s.link with awaiting := none } }
      obtain ⟨d1, d2⟩ := deliver_frame f.tag (judgeFrame f taken)
      exact (judgeFrame_handled f taken).portKept.between rfl rfl rfl d1 d2
    · exact .of_same rfl

/-! ### The port's own commands -/

/-- A frame of another node keeps the port, also where the slot that was sending has lost to it. -/
theorem receiveFrame_portKept (f : BusFrame) {s s' : State} (h : s' = { s with chassis := s'.chassis })
    (hp : s'.chassis.port = s.chassis.port) (ht : s'.chassis.txErrors = s.chassis.txErrors)
    (hr : s'.chassis.rxErrors = s.chassis.rxErrors) (hg : s'.chassis.progress = s.chassis.progress) :
    PortKept s (receiveFrame f s') := by
  have hput (ch : Chassis) (hm : PortMove s.chassis (receivedWell ch).1 (receivedWell ch).2) :
      PortKept s (putChassis (receivedWell ch) s') := by
    refine (PortKept.put hm).between rfl rfl rfl rfl ?_
    rw [h]; rfl
  cases f with
  | data id bytes => exact hput _ (portMove_receivedWell hp ht hr hg)
  | remote id =>
    refine hput _ ?_
    split
    · obtain ⟨hf, -⟩ := fallDue_frame s'.settings 3 s'.chassis
      exact portMove_receivedWell (by rw [hf]; exact hp) (by rw [hf]; exact ht) (by rw [hf]; exact hr)
        (by rw [hf]; exact hg)
    · exact portMove_receivedWell hp ht hr hg

/-- The end of a sending attempt keeps the port if what it does to the slot does. -/
theorem endAttempt_keepsPort {f : Fin 4 → State → State} (h : ∀ i, KeepsPort (f i)) : KeepsPort (endAttempt f) := by
  intro s
  unfold endAttempt
  split
  · exact .of_same rfl
  · exact h _ s

/-- A lost arbitration keeps the port. -/
theorem loseArbitration_keepsPort (winner : Option BusFrame) (i : Fin 4) : KeepsPort (loseArbitration winner i) := by
  intro s
  unfold loseArbitration
  split
  · exact .of_move (ns := []) (.of_same rfl rfl rfl rfl) rfl
  · split
    · exact receiveFrame_portKept _ rfl rfl rfl rfl rfl
    · exact .of_same rfl

/-- The offer of a frame keeps the port. -/
theorem offerFrame_keepsPort : KeepsPort offerFrame := by
  intro s
  unfold offerFrame
  split
  · exact .of_same rfl
  · exact .of_move (ns := []) (.of_same rfl rfl rfl rfl) rfl

/-- A slot that falls due with a timer restarted keeps the port. -/
theorem fallDue_portKept {s u : State} (c : Settings) (i : Fin 4) {ch : Chassis} (hu : u.chassis = fallDue c i ch)
    (hp : ch.port = s.chassis.port) (ht : ch.txErrors = s.chassis.txErrors) (hr : ch.rxErrors = s.chassis.rxErrors)
    (hg : ch.progress = s.chassis.progress) : PortKept s u := by
  have hm : PortMove s.chassis u.chassis [] := hu ▸ portMove_fallDue c i (.of_same hp ht hr hg)
  refine .of_move hm ?_
  rw [hu, (fallDue_frame c i ch).1]
  exact hp

/-- The expiry of a slot's age keeps the port. -/
theorem ageSlot_keepsPort (slot : Fin 16) : KeepsPort (ageSlot slot) := fun _ => .put (.of_same rfl rfl rfl rfl)

/-- A sample of a discrete leaves the port's record. -/
theorem takeDiscrete_chassis (ch : Fin 10) (b : Bool) (s : State) : (takeDiscrete ch b s).chassis = s.chassis := by
  unfold takeDiscrete handDiscrete
  dsimp only
  split
  · rfl
  · rfl
  · rfl
  · rfl
  · split
    · rfl
    · split <;> rfl

/-- A byte received leaves the port's record. -/
theorem receiveByte_chassis (b : Byte) (s : State) : (receiveByte b s).chassis = s.chassis := by
  unfold receiveByte completeFrame
  dsimp only
  split
  · split <;> rfl
  · split
    · rfl
    · split
      · split <;> rfl
      · rfl

/-! ### The commands -/

/-- An event whose effect keeps the port. -/
theorem event_keepsPort {c : Instr} {f : State → State} {s t : State} (h : exec c s = .next t)
    (hc : exec c s = .next (event f s)) (hf : KeepsPort f) : EventOf PortKept s t := by
  cases Host.Outcome.next.inj (h.symm.trans hc)
  exact event_eventOf (hf s)

/-- An event of a working part whose effect keeps the port. -/
theorem workingEvent_keepsPort {c : Instr} {f : State → State} {s t : State} (h : exec c s = .next t)
    (hc : exec c s = .next (workingEvent f s)) (hf : KeepsPort f) : EventOf PortKept s t := by
  cases Host.Outcome.next.inj (h.symm.trans hc)
  exact workingEvent_eventOf (.of_same rfl) (hf s)

/-- A request's row keeps the port. -/
theorem request_keepsPort {c : Instr} {f : HostFrame} {g : State → Answer} {s t : State} (h : exec c s = .next t)
    (hc : exec c s = .next (request f g s)) (hg : ∀ s, Handled s (g s)) : EventOf PortKept s t := by
  cases Host.Outcome.next.inj (h.symm.trans hc)
  exact request_eventOf hg s

/-- Every command that is no starting point and leaves the supply is an event whose own effect keeps the port's record
sound and tells of a change of its state. -/
theorem exec_portKept (c : Instr) (s t : State) (hc : mayStart c = false) (h : exec c s = .next t) :
    EventOf PortKept s t := by
  have same {f : State → State} (hf : ∀ s, (f s).chassis = s.chassis) : KeepsPort f := .of_same hf
  match c with
  | .powerOn | .meterWriteComplete | .settlingEnd | .lossOfSupply => cases hc
  | .millisecondEnd => exact event_keepsPort h rfl fun _ => .of_move (ns := []) (.of_same rfl rfl rfl rfl) rfl
  | .meterWriteStart => exact event_keepsPort h rfl (.guard (same fun _ => rfl))
  | .analogSample ch raw => exact event_keepsPort h rfl (.guard (same fun _ => rfl))
  | .holdExpiry ch => exact event_keepsPort h rfl (.guard (same fun _ => rfl))
  | .pulseInterval ch n => exact workingEvent_keepsPort h rfl (.guard (same fun _ => rfl))
  | .discreteSample ch b => exact event_keepsPort h rfl (.guard (same (takeDiscrete_chassis ch b)))
  | .agreementExpiry => exact workingEvent_keepsPort h rfl (.guard (same fun _ => rfl))
  | .rxDataFrame id bytes =>
    exact workingEvent_keepsPort h rfl (.guard fun _ => receiveFrame_portKept _ rfl rfl rfl rfl rfl)
  | .rxRemoteFrame id =>
    exact workingEvent_keepsPort h rfl (.guard fun _ => receiveFrame_portKept _ rfl rfl rfl rfl rfl)
  | .receiveError => exact workingEvent_keepsPort h rfl (.guard fun _ => .put (portMove_receiveFailed _))
  | .ageExpiry slot => exact workingEvent_keepsPort h rfl (.guard (ageSlot_keepsPort slot))
  | .transmitOffer => exact workingEvent_keepsPort h rfl (.guard offerFrame_keepsPort)
  | .frameSent =>
    exact workingEvent_keepsPort h rfl (.guard (endAttempt_keepsPort fun _ _ => .put (portMove_sentWell _ _ _ _)))
  | .lostArbitration winner =>
    exact workingEvent_keepsPort h rfl (.guard (endAttempt_keepsPort (loseArbitration_keepsPort winner)))
  | .transmitError =>
    exact workingEvent_keepsPort h rfl (.guard (endAttempt_keepsPort fun _ _ => .put (portMove_sendFailed _ _ _)))
  | .recoveryComplete => exact workingEvent_keepsPort h rfl (.guard fun _ => .put (portMove_endRecovery _))
  | .recessiveRun => exact workingEvent_keepsPort h rfl fun _ => .put (portMove_recessiveRun _)
  | .busJoin => exact workingEvent_keepsPort h rfl (.guard fun _ => fallDue_portKept _ 1 rfl rfl rfl rfl rfl)
  | .t0Period => exact workingEvent_keepsPort h rfl (.guard fun _ => fallDue_portKept _ 0 rfl rfl rfl rfl rfl)
  | .t1Period => exact workingEvent_keepsPort h rfl (.guard fun _ => fallDue_portKept _ 1 rfl rfl rfl rfl rfl)
  | .t2Period => exact workingEvent_keepsPort h rfl (.guard fun _ => fallDue_portKept _ 2 rfl rfl rfl rfl rfl)
  | .chassisRecover tag => exact request_keepsPort h rfl fun _ => .recover
  | .ptoEngage tag d => exact request_keepsPort h rfl fun _ => .engage d
  | .ptoDisengage tag d => exact request_keepsPort h rfl fun _ => .disengage d
  | .faultClear tag d => exact request_keepsPort h rfl fun _ => .faultClear d
  | .govern tag m v => exact request_keepsPort h rfl fun _ => .govern m v
  | .pumpIdle tag => exact request_keepsPort h rfl fun _ => .pumpIdle
  | .resume tag => exact request_keepsPort h rfl fun _ => .resume
  | .fillStart tag v => exact request_keepsPort h rfl fun _ => .fillStart v
  | .fillStop tag => exact request_keepsPort h rfl fun _ => .fillStop
  | .foam tag sel ratio => exact request_keepsPort h rfl fun _ => .foam sel ratio
  | .release tag a => exact request_keepsPort h rfl fun _ => .release a
  | .force tag v => exact request_keepsPort h rfl fun _ => .force v
  | .identify tag => exact request_keepsPort h rfl fun _ => .identify
  | .read tag o i => exact request_keepsPort h rfl fun _ => .read o i
  | .snapshot tag => exact request_keepsPort h rfl fun _ => .snapshot
  | .store tag => exact request_keepsPort h rfl fun _ => .store tag
  | .recall tag => exact request_keepsPort h rfl fun _ => .recallStored
  | .monitorAdd tag o i => exact request_keepsPort h rfl fun _ => .monitor true o i
  | .monitorRemove tag o i => exact request_keepsPort h rfl fun _ => .monitor false o i
  | .reportRate tag v => exact request_keepsPort h rfl fun _ => .reportRate v
  | .restart tag => exact request_keepsPort h rfl fun _ => .restart
  | .unknownKind tag kind =>
    cases h
    split
    · exact .inl rfl
    · exact request_eventOf (fun _ => .plain _) s
  | .set tag o i es =>
    cases h
    split
    · refine request_eventOf (fun s => ?_) s
      split
      · exact .plain _
      · exact .set o i es
    · exact .inl rfl
  | .requestRecheck d => exact workingEvent_keepsPort h rfl (.guard (same fun _ => rfl))
  | .requestWindowExpiry d => exact workingEvent_keepsPort h rfl (.guard (same fun _ => rfl))
  | .shiftTimeout d => exact workingEvent_keepsPort h rfl (.guard (same fun _ => rfl))
  | .settleExpiry d => exact workingEvent_keepsPort h rfl (.guard (same fun _ => rfl))
  | .windDownRecheck d => exact workingEvent_keepsPort h rfl (.guard (same fun _ => rfl))
  | .windDownNoticeExpiry d => exact workingEvent_keepsPort h rfl (.guard (same fun _ => rfl))
  | .releaseTimeout d => exact workingEvent_keepsPort h rfl (.guard (same fun _ => rfl))
  | .uncommandedExpiry d => exact workingEvent_keepsPort h rfl (.guard (same fun _ => rfl))
  | .governorStep => exact workingEvent_keepsPort h rfl (.guard (same fun _ => rfl))
  | .governorHoldExpiry => exact workingEvent_keepsPort h rfl (.guard (same fun _ => rfl))
  | .stopTimerExpiry => exact workingEvent_keepsPort h rfl (.guard (same fun _ => rfl))
  | .protectionStep => exact workingEvent_keepsPort h rfl (.guard (same fun _ => rfl))
  | .qualificationExpiry => exact workingEvent_keepsPort h rfl (.guard (same fun _ => rfl))
  | .resumeTimerExpiry => exact workingEvent_keepsPort h rfl (.guard (same fun _ => rfl))
  | .gaugeEvent => exact workingEvent_keepsPort h rfl (.guard (same fun _ => rfl))
  | .fillTimeout => exact workingEvent_keepsPort h rfl (.guard (same fun _ => rfl))
  | .burstTimerExpiry => exact event_keepsPort h rfl (.guard (same fun _ => rfl))
  | .burstEvent => exact event_keepsPort h rfl (.guard (same fun _ => rfl))
  | .holdOffExpiry a => exact workingEvent_keepsPort h rfl (.guard (same fun _ => rfl))
  | .overspeedExpiry =>
    exact workingEvent_keepsPort h rfl (.guard (same fun s => by unfold tripOverspeed; dsimp only; split <;> rfl))
  | .frameReceived f =>
    exact workingEvent_keepsPort h rfl (.guard (same fun s => by unfold completeFrame; split <;> rfl))
  | .characterError e => exact workingEvent_keepsPort h rfl (.guard (same fun _ => rfl))
  | .interByteTimeout => exact workingEvent_keepsPort h rfl (.guard (same fun _ => rfl))
  | .executionStart => exact workingEvent_keepsPort h rfl executeAwaiting_keepsPort
  | .lineBreak => exact event_keepsPort h rfl (same fun s => by split <;> rfl)
  | .storeComplete =>
    refine event_keepsPort h rfl (.guard (same fun s => ?_))
    unfold finishStore answerStore
    split
    · dsimp only; split <;> rfl
    · rfl
  | .spacingExpiry i => exact workingEvent_keepsPort h rfl (.guard (same fun _ => rfl))
  | .statusPeriod => exact workingEvent_keepsPort h rfl (.guard (same fun _ => rfl))
  | .txFrameStart =>
    refine workingEvent_keepsPort h rfl (.guard (same fun s => ?_))
    split
    · rfl
    · next c _ => cases c <;> rfl
  | .txFrameEnd =>
    refine event_keepsPort h rfl (same fun s => ?_)
    unfold endFrame
    split
    · rfl
    · dsimp only
      split
      · split <;> rfl
      · rfl
      · rfl
  | .restartProceed => exact event_keepsPort h rfl (.guard (same fun _ => rfl))
  | .silenceExpiry => exact workingEvent_keepsPort h rfl (.guard (same fun _ => rfl))
  | .rundownTimeout => exact workingEvent_keepsPort h rfl (.guard (same fun _ => rfl))
  | .receivedByte b => exact workingEvent_keepsPort h rfl (same (receiveByte_chassis b))

/-! ### The starting points -/

/-- A port at a starting point is sound. -/
theorem portSound_chassisStart (c : Settings) : PortSound (chassisStart c) := portSound_fresh rfl rfl rfl rfl

/-- A port that enters WATCH stays sound. -/
theorem portSound_toWatch {ch : Chassis} (h : PortSound ch) : PortSound (chassisToWatch ch) :=
  portSound_off_bus nofun nofun h.transmit h.receive (Nat.zero_lt_succ _)

/-- What the reactions to an event leave of the port's record is as sound as it was. -/
theorem ReactedBy.portSound {n : Nat} {u t : State} (h : ReactedBy n u t) (hu : PortSound u.chassis) :
    PortSound t.chassis := by
  rw [h.port]
  exact ⟨hu.transmit, hu.receive, hu.active, hu.passive, hu.progress⟩

/-- The end of a meter write leaves the port's record. -/
theorem finishMeterWrite_chassis (m a r : Nat) (s : State) : (finishMeterWrite m a r s).chassis = s.chassis := by
  unfold finishMeterWrite
  dsimp only
  split <;> rfl

/-- The completion of a meter write leaves the port's record, or takes it to WATCH. -/
theorem completeWrite_chassis (m a r : Nat) (w : Bool) (s : State) :
    (completeWrite m a r w s).chassis = s.chassis ∨ (completeWrite m a r w s).chassis = chassisToWatch s.chassis := by
  unfold completeWrite watchWriteDone
  dsimp only
  have h := finishMeterWrite_chassis m a r s
  split
  · split
    · split
      · exact .inr (congrArg chassisToWatch h)
      · exact .inl h
    · exact .inr (congrArg chassisToWatch h)
    · exact .inl h
  · exact .inl h

/-- The commands that can be a starting point keep the port sound. -/
theorem exec_mayStart_portSound (c : Instr) (s t : State) (hc : mayStart c = true) (hs : PortSound s.chassis)
    (h : exec c s = .next t) : PortSound t.chassis := by
  match c with
  | .powerOn => cases h; exact portSound_chassisStart _
  | .lossOfSupply => cases h; exact hs
  | .settlingEnd =>
    cases h
    split
    · rcases settled_cases s with ⟨-, hst⟩ | ⟨-, hst⟩ <;> rw [hst] <;> exact portSound_chassisStart _
    · exact hs
  | .meterWriteComplete =>
    cases h
    split
    · next m a r w _ _ =>
      split
      · split
        · have hr := event_reacted_any (fun s => awaitSettling (finishMeterWrite m a r s)) s
          refine hr.portSound ?_
          split
          · rw [awaitSettling_chassis, finishMeterWrite_chassis]; exact hs
          · exact hs
        · exact portSound_chassisStart _
      · have hr := event_reacted_any (completeWrite m a r w) s
        refine hr.portSound ?_
        split
        · rcases completeWrite_chassis m a r w s with hch | hch <;> rw [hch]
          · exact hs
          · exact portSound_toWatch hs
        · exact hs
    · exact hs

/-- Every command keeps the port sound. -/
theorem exec_portSound (c : Instr) (s t : State) (hs : PortSound s.chassis) (h : exec c s = .next t) :
    PortSound t.chassis := by
  cases hc : mayStart c
  · obtain ⟨u, hu, hr⟩ := (exec_portKept c s t hc h).reacted (.of_same rfl)
    exact hr.portSound (hu.sound hs)
  · exact exec_mayStart_portSound c s t hc hs h

/-- Settles O8, by the command that the step takes from the queue. -/
theorem stepKeepsPortSound : Obligations.StepKeepsPortSound := by
  intro s t hs h
  unfold step at h
  split at h
  · cases h; exact hs
  · exact exec_portSound _ _ t (by exact hs) h

end Sys2Proof.Machine
end

section
/-! SUPPORT. The statement on the power states that a state fails: the state is written out, and the model evaluates it. -/

namespace Sys2Proof.Machine

/-- The delivered part in RUNDOWN with both drives released, D8 sampled at 0, and the way to WATCH not begun. The power
controller begins it at the event that brings such a state about, so no run of the part leaves one, but the statement
speaks of every state. -/
def rundownNotPending : State :=
  { State.reset with
    inputs := { State.reset.inputs with
      discrete := State.reset.inputs.discrete.set 8 { discreteStart with awaitFirst := false } }
    power := { State.reset.power with state := .rundown } }

/-- SETTLING_END is no event outside WAKING: it leaves the part, with no reaction of any block (R193). -/
theorem settlingEnd_rundownNotPending : exec .settlingEnd rundownNotPending = .next rundownNotPending := rfl

/-- SETTLING_END is a command in a part that goes on working. -/
theorem rundownNotPending_continues : Continues .settlingEnd rundownNotPending rundownNotPending :=
  ⟨by decide, by decide, settlingEnd_rundownNotPending, nofun, nofun⟩

/-- Both drives are DISENGAGED. -/
theorem rundownNotPending_released : DrivesReleased rundownNotPending := fun d => by
  cases d <;> exact .inl rfl

/-- Refutes O59: the statement has every command in RUNDOWN leave watch pending once both drives are released, but a
SETTLING_END outside WAKING does nothing. -/
theorem not_powerStatesFollowTheIgnition : ¬ Obligations.PowerStatesFollowTheIgnition := by
  unfold Obligations.PowerStatesFollowTheIgnition
  rintro ⟨-, -, hrundown, -⟩
  obtain ⟨-, -, hreleased, -⟩ :=
    hrundown .settlingEnd _ _ rundownNotPending_continues nofun rfl rfl (by decide) (by decide)
  obtain ⟨hpending, -⟩ := hreleased rundownNotPending_released
  exact absurd hpending (by decide)

end Sys2Proof.Machine
end

section
/-! SUPPORT. The slot that the port offers (R24, R36), and O23. -/

namespace Sys2Proof.Machine

/-! ### A transmit slot that falls due (R35) -/

theorem slotDue_of_idle {x : TxSlot} (h : x.state = .idle) : slotDue x = { x with state := .pending } := by
  simp [slotDue, h]

theorem slotDue_of_pending {x : TxSlot} (h : x.state = .pending) : slotDue x = x := by simp [slotDue, h]

theorem slotDue_of_sending {x : TxSlot} (h : x.state = .sending) : slotDue x = { x with dueAgain := true } := by
  simp [slotDue, h]

/-- The reactions leave a PENDING slot. -/
theorem ReactedBy.slot_pending {n : Nat} {u t : State} (h : ReactedBy n u t) {i : Fin 4}
    (hi : (u.chassis.tx[i]).state = .pending) : t.chassis.tx[i] = u.chassis.tx[i] := by
  rcases h.slots i with h | h
  · exact h
  · rw [h, slotDue_of_pending hi]

/-- The reactions leave a slot SENDING. -/
theorem ReactedBy.slot_sending {n : Nat} {u t : State} (h : ReactedBy n u t) {i : Fin 4}
    (hi : (u.chassis.tx[i]).state = .sending) : (t.chassis.tx[i]).state = .sending := by
  rcases h.slots i with h | h <;> rw [h]
  · exact hi
  · rw [slotDue_of_sending hi]; exact hi

/-! ### The order of identifiers -/

/-- What it is for an identifier to go before another (R24). -/
theorem precedes_iff (a b : CanId) :
    precedes a b = true ↔ firstBits a < firstBits b ∨ (firstBits a = firstBits b ∧
      ((a.ext = false ∧ b.ext = true) ∨ (a.ext = true ∧ b.ext = true ∧ a.num.toNat < b.num.toNat))) := by
  simp [precedes, and_assoc]

/-- No identifier goes before itself. -/
theorem precedes_irrefl (a : CanId) : precedes a a = false := by simp [precedes]

/-- Going before is transitive. -/
theorem precedes_trans {a b c : CanId} (hab : precedes a b = true) (hbc : precedes b c = true) :
    precedes a c = true := by
  rw [precedes_iff] at *
  rcases hab with hab | ⟨hab, h1⟩
  · rcases hbc with hbc | ⟨hbc, -⟩
    · exact .inl (hab.trans hbc)
    · exact .inl (hbc ▸ hab)
  · rcases hbc with hbc | ⟨hbc, h2⟩
    · exact .inl (hab ▸ hbc)
    · refine .inr ⟨hab.trans hbc, ?_⟩
      have hc : c.ext = true := by rcases h2 with ⟨-, hc⟩ | ⟨-, hc, -⟩ <;> exact hc
      rcases h1 with ⟨ha, -⟩ | ⟨ha, hb, hlt⟩
      · exact .inl ⟨ha, hc⟩
      · rcases h2 with ⟨hb', -⟩ | ⟨-, -, hlt'⟩
        · exact absurd (hb.symm.trans hb') (by decide)
        · exact .inr ⟨ha, hc, hlt.trans hlt'⟩

/-! ### The offer -/

/-- What the search for the slot to offer has found among the slots it has seen: none of them is PENDING, or it is a PENDING
one before which no PENDING one of them goes. -/
def BestOf (c : Settings) (ch : Chassis) (seen : List (Fin 4)) : Option (Fin 4) → Prop
  | none => ∀ j ∈ seen, (ch.tx[j]).state ≠ .pending
  | some b => (ch.tx[b]).state = .pending ∧
      ∀ j ∈ seen, (ch.tx[j]).state = .pending → precedes (txId (c.tx[j])) (txId (c.tx[b])) = false

/-- One more slot seen. -/
theorem betterOffer_bestOf {c : Settings} {ch : Chassis} {seen : List (Fin 4)} {best : Option (Fin 4)} (i : Fin 4)
    (h : BestOf c ch seen best) : BestOf c ch (seen ++ [i]) (betterOffer c ch best i) := by
  unfold betterOffer
  split
  · next hi =>
    cases best with
    | none =>
      refine ⟨hi, fun j hj hp => ?_⟩
      rcases List.mem_append.mp hj with hj | hj
      · exact absurd hp (h j hj)
      · rw [List.mem_singleton.mp hj]; exact precedes_irrefl _
    | some b =>
      obtain ⟨hb, hmin⟩ := h
      dsimp only
      split
      · next hib =>
        refine ⟨hi, fun j hj hp => ?_⟩
        rcases List.mem_append.mp hj with hj | hj
        · by_contra hji
          rw [Bool.not_eq_false] at hji
          exact absurd (precedes_trans hji hib) (by rw [hmin j hj hp]; decide)
        · rw [List.mem_singleton.mp hj]; exact precedes_irrefl _
      · next hib =>
        refine ⟨hb, fun j hj hp => ?_⟩
        rcases List.mem_append.mp hj with hj | hj
        · exact hmin j hj hp
        · rw [List.mem_singleton.mp hj]; simpa using hib
  · next hi =>
    cases best with
    | none =>
      intro j hj
      rcases List.mem_append.mp hj with hj | hj
      · exact h j hj
      · rw [List.mem_singleton.mp hj]; exact hi
    | some b =>
      refine ⟨h.1, fun j hj hp => ?_⟩
      rcases List.mem_append.mp hj with hj | hj
      · exact h.2 j hj hp
      · rw [List.mem_singleton.mp hj] at hp; exact absurd hp hi

/-- The search over a list of slots. -/
theorem foldl_betterOffer_bestOf {c : Settings} {ch : Chassis} (is seen : List (Fin 4)) (best : Option (Fin 4))
    (h : BestOf c ch seen best) : BestOf c ch (seen ++ is) (is.foldl (betterOffer c ch) best) := by
  induction is generalizing seen best with
  | nil => simpa using h
  | cons i is ih => simpa using ih (seen ++ [i]) _ (betterOffer_bestOf i h)

/-- The part after the offer of a slot (R36). -/
def offered (i : Fin 4) (s : State) : State := { s with chassis := beginSending (builtFrame i s) s.chassis }

/-- The slot offered is SENDING. -/
theorem offered_state (i : Fin 4) (s : State) : ((offered i s).chassis.tx[i]).state = .sending := by
  simp [offered, beginSending, builtFrame]

/-- The slot offered is the best of all four. -/
theorem offeredSlot_bestOf (c : Settings) (ch : Chassis) : BestOf c ch (List.finRange 4) (offeredSlot c ch) :=
  foldl_betterOffer_bestOf (List.finRange 4) [] none (fun _ h => absurd h List.not_mem_nil)

/-- Settles O23: the search goes through the four slots and keeps the PENDING one before which none seen goes. -/
theorem offerTakesTheFirstIdentifier : Obligations.OfferTakesTheFirstIdentifier := by
  intro s hw hb hs ⟨j, hj⟩
  have hbest := offeredSlot_bestOf s.settings s.chassis
  cases ho : offeredSlot s.settings s.chassis with
  | none =>
    rw [ho] at hbest
    exact absurd hj (hbest j (List.mem_finRange j))
  | some i =>
    rw [ho] at hbest
    obtain ⟨hi, hmin⟩ := hbest
    have hown : (if onBus s.chassis && (sendingSlot s.chassis).isNone then offerFrame s else s) = offered i s := by
      simp [hb, hs, offerFrame, ho, offered]
    have hr := workingEvent_reacted
      (fun s => if onBus s.chassis && (sendingSlot s.chassis).isNone then offerFrame s else s) s hw
    rw [hown] at hr
    exact ⟨_, i, rfl, hi, fun k hk => hmin k (List.mem_finRange k) hk, hr, hr.slot_sending (offered_state i s)⟩

end Sys2Proof.Machine
end

section
/-! SUPPORT. What a frame and an expiry do to a receive slot (R28 to R32), and O21. -/

namespace Sys2Proof.Machine

/-! ### Rounding and matching -/

/-- The quotient that `halfAway` takes of a number's size: no number is nearer, and of two equally near it is the larger. -/
theorem halfAway_quotient (n den : Nat) (hd : 1 ≤ den) :
    2 * (den * ((2 * n + den) / (2 * den))) ≤ 2 * n + den ∧
    2 * n < 2 * (den * ((2 * n + den) / (2 * den))) + den := by
  have hdiv := Nat.div_add_mod (2 * n + den) (2 * den)
  have hmod := Nat.mod_lt (2 * n + den) (show 0 < 2 * den by omega)
  rw [Nat.mul_assoc] at hdiv
  generalize den * ((2 * n + den) / (2 * den)) = p at hdiv ⊢
  omega

/-- `halfAway` rounds half away from zero (R2). -/
theorem halfAway_rounds (num : Int) (den : Nat) (hd : 1 ≤ den) : RoundsHalfAway num den (halfAway num den) := by
  obtain ⟨h1, h2⟩ := halfAway_quotient num.natAbs den hd
  unfold RoundsHalfAway halfAway
  split
  · rw [← Nat.cast_mul]
    generalize den * ((2 * num.natAbs + den) / (2 * den)) = p at h1 h2 ⊢
    omega
  · rw [Int.mul_neg, ← Nat.cast_mul]
    generalize den * ((2 * num.natAbs + den) / (2 * den)) = p at h1 h2 ⊢
    omega

/-- The slots after a frame: each that matches has taken it, for itself (R28). -/
theorem offerToSlots_get (c : Settings) (now : Uptime) (id : CanId) (data : List Byte) (rx : Vector RxSlot 16)
    (i : Fin 16) : (offerToSlots c now id data rx)[i] =
      if slotMatches (c.rx[i]) id then takeFrame (c.rx[i]) now data (rx[i]) else rx[i] := by
  simp [offerToSlots]

/-! ### A frame that matches -/

/-- A field beyond the frame's data sets the short-frame flag alone (R29). -/
theorem takeFrame_short {c : RxSettings} {data : List Byte} (now : Uptime) (r : RxSlot)
    (h : data.length < c.byteOffset + c.width) : takeFrame c now data r = { r with short := true } := if_pos h

/-- A not-available frame (R30, R32). -/
theorem takeFrame_notAvailable {c : RxSettings} {data : List Byte} (now : Uptime) (r : RxSlot)
    (h : c.byteOffset + c.width ≤ data.length) (hn : notAvailable c (rawField c data) = true) :
    takeFrame c now data r = takeNotAvailable now { r with short := false, lastRaw := rawField c data } := by
  simp [takeFrame, Nat.not_lt.mpr h, hn]

/-- A value that the jump check rejects (R31). -/
theorem takeFrame_rejected {c : RxSettings} {data : List Byte} (now : Uptime) (r : RxSlot)
    (h : c.byteOffset + c.width ≤ data.length) (hn : notAvailable c (rawField c data) = false)
    (hj : jumpRejects c (candidate c (rawField c data)) r = true) :
    takeFrame c now data r =
      { r with short := false, lastRaw := rawField c data, rejections := r.rejections + 1 } := by
  have hj' : jumpRejects c (candidate c (rawField c data)) { r with short := false, lastRaw := rawField c data } = true :=
    hj
  simp [takeFrame, Nat.not_lt.mpr h, hn, hj']

/-- A value accepted (R30). -/
theorem takeFrame_accepted {c : RxSettings} {data : List Byte} (now : Uptime) (r : RxSlot)
    (h : c.byteOffset + c.width ≤ data.length) (hn : notAvailable c (rawField c data) = false)
    (hj : jumpRejects c (candidate c (rawField c data)) r = false) :
    takeFrame c now data r =
      acceptValue c now (candidate c (rawField c data)) { r with short := false, lastRaw := rawField c data } := by
  have hj' : jumpRejects c (candidate c (rawField c data)) { r with short := false, lastRaw := rawField c data } = false :=
    hj
  simp [takeFrame, Nat.not_lt.mpr h, hn, hj']

/-- When the jump check rejects a value (R31). -/
theorem jumpRejects_iff (c : RxSettings) (v : Int) (r : RxSlot) :
    jumpRejects c v r = true ↔ r.state = .fresh ∧ c.jumpLimit ≠ 0 ∧ r.rejections < 2 ∧
      c.jumpLimit < (v - r.decoded.getD 0).natAbs := by
  simp only [jumpRejects, Bool.and_eq_true, decide_eq_true_eq]
  tauto

/-- The candidate is the offset plus the rounded scaled value, within 16 bits (R29). -/
theorem candidate_eq (c : RxSettings) (field : Nat) :
    candidate c field =
      max (-32768) (min 32767 (c.offset + halfAway (rawValue c field * c.multiplier) c.divisor)) := rfl

/-! ### The two commands -/

/-- A port's record after a frame received correctly: the counts, and everything else but the state as it was (R41). -/
theorem receivedWell_frame (ch : Chassis) :
    (receivedWell ch).1 = { ch with rxErrors := ch.rxErrors - 1, port := (receivedWell ch).1.port } := rfl

/-- RX_DATA_FRAME on a port on the bus is the frame received, and a reaction. -/
theorem rxDataFrame_reacted (id : CanId) (data : List Byte) (s : State) (hw : s.working = true)
    (hb : onBus s.chassis = true) (hf : (BusFrame.data id data).wf = true) :
    ∃ t, exec (.rxDataFrame id data) s = .next t ∧ Reacted (receiveFrame (.data id data) s) t := by
  refine ⟨_, rfl, ?_⟩
  have hr := workingEvent_reacted (fun s =>
    if onBus s.chassis && (BusFrame.data id data).wf then receiveFrame (.data id data) s else s) s hw
  simpa only [hb, hf, Bool.and_self, if_true] using hr

/-- The expiry of the age of a FRESH or NOT_AVAILABLE slot (R32). -/
theorem ageSlot_expires (i : Fin 16) (s : State)
    (h : (s.chassis.rx[i]).state = .fresh ∨ (s.chassis.rx[i]).state = .notAvailable) :
    ageSlot i s = (({ s with chassis := { s.chassis with
      rx := s.chassis.rx.set i { s.chassis.rx[i] with state := .stale, age := none, expiredNow := true } } } : State).post
        [noticeSlotStale i.val (s.settings.rx[i]).bound (s.chassis.rx[i]).decoded]) := by
  unfold ageSlot expireAge
  rcases h with h | h <;> rw [h] <;> rfl

/-- A SLOT_STALE is a WARNING (R32). -/
theorem noticeSlotStale_warns (slot : Nat) (bound : Option (Fin 6)) (decoded : Option Int) :
    (noticeSlotStale slot bound decoded).cls ≠ .info := nofun

/-- A warning of a kind that no reaction posts, posted by the command to a queue with room, waits after the reactions. -/
theorem ReactedBy.warningWaits {u t : State} (h : Reacted u t) {now : Uptime} {q : NoticeQueue} {n : Notice}
    (hu : u.notices = postNotice now q n) (hroom : RoomLeft q) (hc : n.cls ≠ .info) (hk : n.kind ∉ reactionKinds) :
    WarningWaits n.kind n.subject n.detail t.notices := by
  unfold RoomLeft at hroom
  obtain ⟨e, he, hs, hkind, hrest⟩ := postNotice_warningWaits now q n hc (show _ < 32 by omega)
  have hlen := postNotice_length now q n
  exact ⟨e, h.keepsEntry (by rw [hu]; omega) e (hu ▸ he) (hkind ▸ hk), hs, hkind, hrest⟩

/-- Settles O21: each slot takes the frame by `takeFrame`, whose cases are those of the statement, and an expiry is
`expireAge`. -/
theorem receiveSlotsFillAndAge : Obligations.ReceiveSlotsFillAndAge := by
  refine ⟨fun id data s hw hb hf => ?_, fun i s r hw hr hstate hdue => ?_⟩
  · obtain ⟨t, ht, hreact⟩ := rxDataFrame_reacted id data s hw hb hf
    refine ⟨t, ht, hreact.settings, by rw [hreact.channels]; rfl, by rw [hreact.clock]; rfl, by rw [hreact.port]; rfl,
      by rw [hreact.port]; rfl, ?_⟩
    rintro i c r r' rfl rfl rfl
    have hslot : t.chassis.rx[i] = if slotMatches (s.settings.rx[i]) id
        then takeFrame (s.settings.rx[i]) s.time.uptime data (s.chassis.rx[i]) else s.chassis.rx[i] := by
      rw [hreact.port]
      exact offerToSlots_get s.settings s.time.uptime id data s.chassis.rx i
    rw [hslot]
    generalize s.settings.rx[i] = c
    generalize s.chassis.rx[i] = r
    refine ⟨fun hm => by simp [hm], fun hm hlen => ?_, fun hm hlen field hfield => ?_⟩
    · rw [if_pos hm, takeFrame_short _ _ hlen]
    · subst hfield
      rw [if_pos hm]
      refine ⟨fun hn => ?_, fun hn hd => ⟨_, halfAway_rounds _ _ hd, ?_⟩⟩
      · rw [takeFrame_notAvailable _ _ hlen hn]
        exact ⟨fun h1 h2 => if_pos ⟨h1, h2⟩, fun h => if_neg (by rintro ⟨h1, h2⟩; simp_all)⟩
      · rintro v rfl
        rw [← candidate_eq]
        refine ⟨fun hj => ?_, fun hj => ?_⟩
        · exact takeFrame_rejected _ _ hlen hn ((jumpRejects_iff _ _ _).mpr hj)
        · rw [← jumpRejects_iff, Bool.not_eq_true] at hj
          exact takeFrame_accepted _ _ hlen hn hj
  · subst hr
    have hreact := workingEvent_reacted (fun s =>
      if due s.time.uptime (s.chassis.rx[i]).age then ageSlot i s else s) s hw
    rw [if_pos hdue, ageSlot_expires i s hstate] at hreact
    refine ⟨_, rfl, hreact, fun hroom b hb => ?_⟩
    have hwarn := hreact.warningWaits (now := s.time.uptime) rfl hroom (noticeSlotStale_warns _ _ _) (by
      simp [noticeSlotStale, reactionKinds])
    have hdetail : (noticeSlotStale i.val (s.settings.rx[i]).bound (s.chassis.rx[i]).decoded).detail =
        b :: noticeS16 (s.chassis.rx[i]).decoded := by
      rw [hb]
      cases (s.settings.rx[i]).bound <;> rfl
    rw [hdetail] at hwarn
    exact hwarn

end Sys2Proof.Machine
end

section
/-! SUPPORT. The ceilings on the engine request and the bytes of the chassis frames (R40, R91, R96, R97), and O34. -/

namespace Sys2Proof.Machine

/-! ### Fields of two bytes -/

/-- An unsigned number in two bytes. -/
theorem u16_eq_twoBytes (n : Nat) : u16 n = twoBytes n := by
  simp only [u16, twoBytes, ← BitVec.ofInt_natCast, Int.natCast_ediv, Nat.cast_ofNat]

/-- A signed number in two bytes. -/
theorem s16_eq_twoBytes (i : Int) : s16 i = twoBytes i := by
  have hlow : BitVec.ofNat 8 (i % 65536).toNat = BitVec.ofInt 8 i := by
    apply BitVec.eq_of_toNat_eq
    rw [BitVec.toNat_ofNat, BitVec.toNat_ofInt]
    omega
  have hhigh : BitVec.ofNat 8 ((i % 65536).toNat / 256) = BitVec.ofInt 8 (i / 256) := by
    apply BitVec.eq_of_toNat_eq
    rw [BitVec.toNat_ofNat, BitVec.toNat_ofInt]
    omega
  simp only [s16, u16, twoBytes, hlow, hhigh]

/-- An unsigned field carries its number, or all ones when it is absent. -/
theorem noticeU16_carried (v : Option Nat) : CarriedUnsigned (v.map Int.ofNat) (noticeU16 v) := by
  cases v with
  | none => exact ⟨fun _ => u16_eq_twoBytes 0xFFFF, nofun⟩
  | some n =>
    refine ⟨nofun, fun x hx _ hle => ?_⟩
    cases hx
    have hn : n ≤ 65535 := Int.ofNat_le.mp hle
    exact (if_pos hn).trans (u16_eq_twoBytes n)

/-- An engine speed or another number in an unsigned field. -/
theorem rpmField_carried (v : Option Int) : CarriedUnsigned v (rpmField v) := by
  cases v with
  | none => exact ⟨fun _ => u16_eq_twoBytes 0xFFFF, nofun⟩
  | some i =>
    refine ⟨nofun, fun x hx h0 hle => ?_⟩
    cases hx
    have hn : i.toNat ≤ 65535 := by omega
    refine (if_pos hn).trans ?_
    rw [u16_eq_twoBytes, Int.toNat_of_nonneg h0]

/-- A signed field carries its number, or 0x7FFF when it is absent. -/
theorem noticeS16_carried (v : Option Int) : CarriedSigned v (noticeS16 v) := by
  cases v with
  | none => exact ⟨fun _ => s16_eq_twoBytes 0x7FFF, nofun⟩
  | some i =>
    refine ⟨nofun, fun x hx h0 hle => ?_⟩
    cases hx
    exact (if_pos ⟨h0, hle⟩).trans (s16_eq_twoBytes i)

/-- A flag as one byte. -/
theorem bool8_eq (b : Bool) : bool8 b = [if b = true then 1#8 else 0#8] := by cases b <;> rfl

/-! ### The ceiling and the request -/

/-- The ceiling is one of those in force, and the least (R91). -/
theorem ceiling_least (s : State) : LeastCeiling s s.ceiling := by
  unfold LeastCeiling ceilingsInForce State.ceiling ceilingOf
  by_cases hi : s.lock.idleCap.state = .asserted <;> by_cases hr : s.lock.rollLimit.state = .asserted <;>
    simp [hi, hr] <;> omega

/-- There is one least ceiling. -/
theorem LeastCeiling.eq_ceiling {s : State} {c : Int} (h : LeastCeiling s c) : c = s.ceiling :=
  le_antisymm (h.2 _ (ceiling_least s).1) ((ceiling_least s).2 _ h.1)

/-- Every ceiling in force is at least idle_rpm, where the settings keep their limits (R78, R112). -/
theorem idle_le_ceilings {s : State} (hs : SettingsSound s) (hc : CeilingSound s) :
    ∀ x ∈ ceilingsInForce s, s.settings.gov.idleRpm ≤ x := by
  obtain ⟨limits, -⟩ := hs
  obtain ⟨hlow, -⟩ := hc
  have hidle := limits.idleHigh
  have hmax := limits.maxLow
  have hroll := limits.roll.1
  intro x hx
  simp only [ceilingsInForce, List.mem_append, List.mem_cons, List.not_mem_nil, or_false] at hx
  rcases hx with ((rfl | rfl) | hx) | hx
  · omega
  · exact hlow
  · split at hx
    · rw [List.mem_singleton.mp hx]; omega
    · cases hx
  · split at hx
    · rw [List.mem_singleton.mp hx]; omega
    · cases hx

/-- The request is absent in OFF and ROLL, and else limited to the range from idle_rpm to the ceiling (R96, R97). -/
theorem engineRequest_eq (s : State) : s.engineRequest =
    if s.gov.mode = .off ∨ s.gov.mode = .roll then none
    else some (max s.settings.gov.idleRpm (min s.ceiling s.gov.request)) := by
  unfold State.engineRequest clampInt
  cases s.gov.mode <;> simp

/-- The limit that T0 carries (R96). -/
theorem speedLimit_eq (s : State) : s.speedLimit = if s.gov.mode = .off then none else some s.ceiling := rfl

/-- The discharge that T3 carries is absent without a governed drive (R97). -/
theorem dischargeField_none {s : State} (h : s.gov.governed = none) : s.dischargeField = none := by
  simp [State.dischargeField, State.discharge, h]

/-- The discharge that T3 carries is that of the governed drive's channel, while the channel is usable (R97). -/
theorem dischargeField_of_discharge {s : State} {a : AnalogChan} (h : IsDischarge s a) :
    s.dischargeField = if a.state = .valid ∨ a.state = .held then a.eng else none := by
  rcases h with ⟨hg, rfl⟩ | ⟨hg, rfl⟩ <;> simp [State.dischargeField, State.discharge, hg, dischargeIndex, analogUsable]

/-- The discharge as T3 has it, by the two cases of a governed drive. -/
theorem dischargeField_unique {s : State} {discharge : Option Int} (hn : s.gov.governed = none → discharge = none)
    (hd : ∀ a, IsDischarge s a → discharge = if a.state = .valid ∨ a.state = .held then a.eng else none) :
    discharge = s.dischargeField := by
  cases hg : s.gov.governed with
  | none => rw [hn hg, dischargeField_none hg]
  | some d =>
    have hs : IsDischarge s (s.inputs.analog[dischargeIndex d]) := by
      cases d
      · exact .inl ⟨hg, rfl⟩
      · exact .inr ⟨hg, rfl⟩
    rw [hd _ hs, dischargeField_of_discharge hs]

/-! ### The codes that the frames carry -/

/-- T0's control kind (R96). -/
theorem controlKind_eq (m : GovMode) :
    BitVec.ofNat 8 (controlKind m) = if m = .off then 0#8 else if m = .roll then 2#8 else 1#8 := by cases m <;> rfl

/-- A drive state's code fits a byte. -/
theorem driveStateCode_byte (x : DriveState) : (BitVec.ofNat 8 (driveStateCode x)).toNat = driveStateCode x := by
  cases x <;> rfl

/-- A governor mode's code fits a byte. -/
theorem govModeCode_byte (x : GovMode) : (BitVec.ofNat 8 (govModeCode x)).toNat = govModeCode x := by cases x <;> rfl

/-- A tank state's code fits half a byte. -/
theorem tankStateCode_lt (x : TankState) : tankStateCode x < 16 := by cases x <;> decide

/-- T1's permit (R157). -/
theorem permit_iff (l : Lockout) (p : PowerState) : permit l p = true ↔ l.inhibit.state = .released ∧ p = .awake := by
  simp [permit]

/-- T1's pumping flag (R40). -/
theorem pumping_iff (p : Pto) : pumping p = true ↔
    (p.main.state = .engaged ∧ p.main.ready = true) ∨ (p.aux.state = .engaged ∧ p.aux.ready = true) := by
  simp [pumping]

/-! ### The frames -/

/-- T0 (R40, R96). -/
theorem throttleFrame_layout (s : State) :
    ∃ kind r l, frameContent s 0 = kind :: r ++ l ∧ CarriedUnsigned s.engineRequest r ∧ CarriedUnsigned s.speedLimit l ∧
      kind = (if s.gov.mode = .off then 0#8 else if s.gov.mode = .roll then 2#8 else 1#8) :=
  ⟨_, _, _, rfl, rpmField_carried _, rpmField_carried _, controlKind_eq _⟩

/-- T1 (R40, R157, R158). -/
theorem interlockFrame_layout (s : State) :
    ∃ p l m a f, frameContent s 1 = p :: l ++ [m, a, f] ∧
      p = (if s.lock.inhibit.state = .released ∧ s.power.state = .awake then 1#8 else 0#8) ∧
      CarriedUnsigned (if s.lock.rollLimit.state = .asserted then some s.settings.lock.rollSpeedLimit else none) l ∧
      m.toNat = driveStateCode s.pto.main.state ∧ a.toNat = driveStateCode s.pto.aux.state ∧
      f = (if (s.pto.main.state = .engaged ∧ s.pto.main.ready = true) ∨
        (s.pto.aux.state = .engaged ∧ s.pto.aux.ready = true) then 1#8 else 0#8) := by
  refine ⟨_, rpmField (rollSpeedField s.settings.lock s.lock), _, _, _, ?_, rfl, rpmField_carried _,
    driveStateCode_byte _, driveStateCode_byte _, rfl⟩
  simp only [frameContent, interlockFrame, bool8_eq, permit_iff, pumping_iff, u8, List.append_assoc, List.cons_append,
    List.nil_append]

/-- T2 (R40). -/
theorem tanksFrame_layout (s : State) :
    ∃ w a b x y, frameContent s 2 = w ++ a ++ b ++ [x, y] ∧
      CarriedUnsigned (s.gauge.water.reported.map Int.ofNat) w ∧
      CarriedUnsigned (s.gauge.foamA.reported.map Int.ofNat) a ∧
      CarriedUnsigned (s.gauge.foamB.reported.map Int.ofNat) b ∧
      x.toNat = tankStateCode s.gauge.water.state + 16 * tankStateCode s.gauge.foamA.state ∧
      y.toNat = tankStateCode s.gauge.foamB.state := by
  have hw := tankStateCode_lt s.gauge.water.state
  have ha := tankStateCode_lt s.gauge.foamA.state
  have hb := tankStateCode_lt s.gauge.foamB.state
  refine ⟨_, _, _, BitVec.ofNat 8 (tankStateCode s.gauge.water.state + 16 * tankStateCode s.gauge.foamA.state),
    BitVec.ofNat 8 (tankStateCode s.gauge.foamB.state), ?_, noticeU16_carried _, noticeU16_carried _,
    noticeU16_carried _, ?_, ?_⟩
  · simp only [frameContent, tanksFrame, u8, List.append_assoc, List.cons_append, List.nil_append]
  · rw [BitVec.toNat_ofNat]; omega
  · rw [BitVec.toNat_ofNat]; omega

/-- T3 (R40, R97). -/
theorem answerFrame_layout (s : State) :
    ∃ m d r, frameContent s 3 = m :: d ++ r ∧ m.toNat = govModeCode s.gov.mode ∧ CarriedSigned s.dischargeField d ∧
      CarriedUnsigned s.engineRequest r :=
  ⟨_, _, _, rfl, govModeCode_byte _, noticeS16_carried _, rpmField_carried _⟩

/-- Settles O34: the request is clamped between idle_rpm and the least ceiling, and each frame is laid out by its own
lemma. -/
theorem engineRequestWithinTheCeilings : Obligations.EngineRequestWithinTheCeilings := by
  intro s hs hc
  have hidle := idle_le_ceilings hs hc
  have hleast := ceiling_least s
  have hfloor := hidle _ hleast.1
  refine ⟨?_, fun r hr => ?_, fun c hlc hoff hroll hlow hhigh => ?_, fun c request limit discharge hlc hreq hlim hn hd => ?_⟩
  · rw [engineRequest_eq]; split <;> simp_all
  · rw [engineRequest_eq] at hr
    split at hr
    · cases hr
    · cases hr
      refine ⟨le_max_left _ _, fun x hx => ?_⟩
      have := hleast.2 x hx
      omega
  · cases hlc.eq_ceiling
    rw [engineRequest_eq, if_neg (by simp [hoff, hroll]), min_eq_right hhigh, max_eq_right hlow]
  · cases hlc.eq_ceiling
    rw [← engineRequest_eq] at hreq
    rw [← speedLimit_eq] at hlim
    rw [dischargeField_unique hn hd, hreq, hlim]
    exact ⟨rfl, throttleFrame_layout s, interlockFrame_layout s, tanksFrame_layout s, answerFrame_layout s⟩

end Sys2Proof.Machine
end

section
/-! SUPPORT. When the transmit slots fall due (R35 to R39): the port's reaction to an event by its own cases, and where it
stands among the reactions of an event. -/

namespace Sys2Proof.Machine

/-! ### One slot falling due (R35) -/

/-- A slot that has fallen due is FALLEN DUE. -/
theorem fallenDue_slotDue (x : TxSlot) : FallenDue (slotDue x) := by
  unfold FallenDue
  cases h : x.state
  · rw [slotDue_of_idle h]; exact .inl rfl
  · rw [slotDue_of_pending h]; exact .inl h
  · rw [slotDue_of_sending h]; exact .inr ⟨h, rfl⟩

/-- A slot that has fallen due already stays as it is. -/
theorem slotDue_of_fallenDue {x : TxSlot} (h : FallenDue x) : slotDue x = x := by
  rcases h with h | ⟨h, hd⟩
  · exact slotDue_of_pending h
  · rw [slotDue_of_sending h, ← hd]

/-- A slot that falls due is PENDING, unless it is SENDING, when it notes that it is due again. -/
theorem slotDue_cases (x : TxSlot) :
    (x.state ≠ .sending → (slotDue x).state = .pending) ∧
    (x.state = .sending → (slotDue x).state = .sending ∧ (slotDue x).dueAgain = true) := by
  refine ⟨fun h => ?_, fun h => by rw [slotDue_of_sending h]; exact ⟨h, rfl⟩⟩
  cases hx : x.state
  · rw [slotDue_of_idle hx]
  · rw [slotDue_of_pending hx]; exact hx
  · exact absurd hx h

/-- The reactions leave a slot that has fallen due. -/
theorem ReactedBy.slot_fallenDue {n : Nat} {u t : State} (h : ReactedBy n u t) {i : Fin 4}
    (hi : FallenDue (u.chassis.tx[i])) : t.chassis.tx[i] = u.chassis.tx[i] := by
  rcases h.slots i with h | h
  · exact h
  · rw [h, slotDue_of_fallenDue hi]

/-- The port can send, and slot `i` is enabled: it then falls due when it is asked to (R35). -/
def Sends (c : Settings) (i : Fin 4) (ch : Chassis) : Prop :=
  (c.tx[i]).enabled = true ∧ (ch.port = .errorActive ∨ ch.port = .errorPassive)

/-- Slot `i` of a port that can send falls due. -/
theorem fallDue_sends {c : Settings} {i : Fin 4} {ch : Chassis} (h : Sends c i ch) :
    fallDue c i ch = { ch with tx := ch.tx.set i (slotDue (ch.tx[i])) } := by
  obtain ⟨he, hp⟩ := h
  unfold fallDue
  rw [if_pos (by rw [he]; simpa using hp)]

/-- A disabled slot, and every slot of a port off the bus, stays as it is. -/
theorem fallDue_not_sends {c : Settings} {i : Fin 4} {ch : Chassis} (h : ¬ Sends c i ch) : fallDue c i ch = ch := by
  unfold fallDue
  refine if_neg fun hc => h ?_
  simpa [Sends] using hc

/-! A slot that falls due leaves all but the slots (R35). -/

@[simp] theorem fallDue_rx (c : Settings) (i : Fin 4) (ch : Chassis) : (fallDue c i ch).rx = ch.rx := by
  rw [(fallDue_frame c i ch).1]
@[simp] theorem fallDue_port (c : Settings) (i : Fin 4) (ch : Chassis) : (fallDue c i ch).port = ch.port := by
  rw [(fallDue_frame c i ch).1]
@[simp] theorem fallDue_txErrors (c : Settings) (i : Fin 4) (ch : Chassis) : (fallDue c i ch).txErrors = ch.txErrors := by
  rw [(fallDue_frame c i ch).1]
@[simp] theorem fallDue_rxErrors (c : Settings) (i : Fin 4) (ch : Chassis) : (fallDue c i ch).rxErrors = ch.rxErrors := by
  rw [(fallDue_frame c i ch).1]
@[simp] theorem fallDue_joined (c : Settings) (i : Fin 4) (ch : Chassis) : (fallDue c i ch).joined = ch.joined := by
  rw [(fallDue_frame c i ch).1]
@[simp] theorem fallDue_t0 (c : Settings) (i : Fin 4) (ch : Chassis) : (fallDue c i ch).t0 = ch.t0 := by
  rw [(fallDue_frame c i ch).1]
@[simp] theorem fallDue_t1 (c : Settings) (i : Fin 4) (ch : Chassis) : (fallDue c i ch).t1 = ch.t1 := by
  rw [(fallDue_frame c i ch).1]
@[simp] theorem fallDue_t2 (c : Settings) (i : Fin 4) (ch : Chassis) : (fallDue c i ch).t2 = ch.t2 := by
  rw [(fallDue_frame c i ch).1]

/-- The slot that falls due. -/
theorem fallDue_slot {c : Settings} {i : Fin 4} {ch : Chassis} (h : Sends c i ch) :
    (fallDue c i ch).tx[i] = slotDue (ch.tx[i]) := by simp [fallDue_sends h]

/-! ### The port's reaction (R37, R38) -/

/-- The governor's mode has left OFF or become OFF (R37). -/
def ThrottleTurns (b s : State) : Prop := (b.gov.mode = .off ↔ s.gov.mode ≠ .off)

/-- A field of T1 has changed, or the port has come back from RECOVERING (R38). -/
def InterlockTurns (b s : State) : Prop :=
  interlockFields b ≠ interlockFields s ∨ (b.chassis.port = .recovering ∧ s.chassis.port = .errorActive)

/-- T0's part of the reaction leaves the port's state and T1. -/
theorem followThrottle_frame (b s : State) :
    (followThrottle b s s.chassis).port = s.chassis.port ∧
    (followThrottle b s s.chassis).tx[(1 : Fin 4)] = s.chassis.tx[(1 : Fin 4)] := by
  unfold followThrottle
  split
  · obtain ⟨h1, h2⟩ := fallDue_frame s.settings 0 { s.chassis with t0 := startTimer s.time.uptime 20 }
    exact ⟨by rw [h1], h2 1 (by decide)⟩
  · split
    · obtain ⟨h1, h2⟩ := fallDue_frame s.settings 0 { s.chassis with t0 := none }
      exact ⟨by rw [h1], h2 1 (by decide)⟩
    · exact ⟨rfl, rfl⟩

/-- T1's part of the reaction changes T1 alone. -/
theorem followInterlock_frame (b s : State) (ch : Chassis) :
    (followInterlock b s ch).t0 = ch.t0 ∧ ∀ j : Fin 4, j ≠ 1 → (followInterlock b s ch).tx[j] = ch.tx[j] := by
  unfold followInterlock
  split
  · obtain ⟨h1, h2⟩ := fallDue_frame s.settings 1 ch
    exact ⟨by rw [h1], h2⟩
  · exact ⟨rfl, fun _ _ => rfl⟩

/-- T0's timer after the port's reaction: its period starts as the mode leaves OFF and stops as it becomes OFF (R37). -/
theorem chassisReact_t0 (b s : State) : (chassisReact b s).t0 =
    if b.gov.mode = .off ∧ s.gov.mode ≠ .off then some (s.time.uptime + 20#32)
    else if b.gov.mode ≠ .off ∧ s.gov.mode = .off then none else s.chassis.t0 := by
  unfold chassisReact
  rw [(followInterlock_frame b s _).1]
  unfold followThrottle
  split
  · rw [(fallDue_frame _ _ _).1]; rfl
  · split
    · rw [(fallDue_frame _ _ _).1]
    · rfl

/-- T0 after the port's reaction, where the mode has left OFF or become OFF (R37). -/
theorem chassisReact_slot0 {b s : State} (ht : ThrottleTurns b s) (hs : Sends s.settings 0 s.chassis) :
    (chassisReact b s).tx[(0 : Fin 4)] = slotDue (s.chassis.tx[(0 : Fin 4)]) := by
  unfold chassisReact
  rw [(followInterlock_frame b s _).2 0 (by decide)]
  unfold followThrottle
  split
  · exact fallDue_slot (ch := { s.chassis with t0 := startTimer s.time.uptime 20 }) hs
  · next h1 =>
    split
    · exact fallDue_slot (ch := { s.chassis with t0 := none }) hs
    · next h2 =>
      unfold ThrottleTurns at ht
      exact absurd ht (by tauto)

/-- T1 after the port's reaction, where a field of it has changed or the port has recovered (R38). -/
theorem chassisReact_slot1 {b s : State} (ht : InterlockTurns b s) (hs : Sends s.settings 1 s.chassis) :
    (chassisReact b s).tx[(1 : Fin 4)] = slotDue (s.chassis.tx[(1 : Fin 4)]) := by
  obtain ⟨hp, htx⟩ := followThrottle_frame b s
  unfold InterlockTurns at ht
  unfold chassisReact followInterlock
  rw [hp, if_pos ht, fallDue_slot (by rw [Sends, hp]; exact hs), htx]

/-- The slots stay as they are where neither T0 nor T1 has a cause to fall due. -/
theorem chassisReact_quiet {b s : State} (h0 : ¬ ThrottleTurns b s) (h1 : ¬ InterlockTurns b s) :
    chassisReact b s = s.chassis := by
  unfold ThrottleTurns at h0
  unfold InterlockTurns at h1
  have ht : followThrottle b s s.chassis = s.chassis := by
    unfold followThrottle
    rw [if_neg (by tauto), if_neg (by tauto)]
  unfold chassisReact followInterlock
  rw [ht, if_neg h1]

/-- The slots of a port off the bus stay as they are. -/
theorem chassisReact_off_bus {b s : State} (ha : s.chassis.port ≠ .errorActive) (hp : s.chassis.port ≠ .errorPassive) :
    (chassisReact b s).tx = s.chassis.tx := by
  have hn (c : Settings) (i : Fin 4) (ch : Chassis) (h : ch.port = s.chassis.port) : fallDue c i ch = ch :=
    fallDue_not_sends (by rintro ⟨-, h' | h'⟩ <;> simp_all)
  have ht : (followThrottle b s s.chassis).tx = s.chassis.tx := by
    unfold followThrottle
    rw [hn _ _ { s.chassis with t0 := startTimer s.time.uptime 20 } rfl, hn _ _ { s.chassis with t0 := none } rfl]
    split
    · rfl
    · split <;> rfl
  unfold chassisReact followInterlock
  rw [hn _ _ _ (followThrottle_frame b s).1]
  split <;> exact ht

/-! ### The port's two turns within an event -/

/-- The port takes the changes of an event twice: those of the event's own effect, in a state `p`, and those that the
power controller, the sequencer and the governor make after it, from the state `m` to `z`. -/
structure PortTurns (s u t p m z : State) : Prop where
  own : p.chassis = u.chassis ∧ p.settings = u.settings ∧ p.time.uptime = u.time.uptime ∧ p.gov = u.gov
  first : m.chassis = chassisReact s p ∧ m.gov = p.gov ∧ interlockFields m = interlockFields p
  between : z.chassis = m.chassis ∧ z.settings = u.settings ∧ z.time.uptime = u.time.uptime
  second : t.chassis = chassisReact m z ∧ t.gov = z.gov ∧ interlockFields t = interlockFields z

/-- The power controller leaves the port. -/
theorem powerReact_chassis (s : State) : (powerReact s).chassis = s.chassis := by
  rcases powerReact_cases s with h | ⟨-, h⟩ | ⟨-, h⟩ | ⟨-, c, h⟩ <;> rw [h] <;> rfl

/-- The part within an event after the power controller, the sequencer and the governor have taken the event's changes. -/
def governed (before mid : State) : State := settleGovernor (powerReact (settlePto before (powerReact mid)))

/-- Those three leave the port, the settings and the uptime. -/
theorem governed_frame (before mid : State) :
    (governed before mid).chassis = mid.chassis ∧ (governed before mid).settings = mid.settings ∧
    (governed before mid).time.uptime = mid.time.uptime := by
  have hr := (reacted_powerReact mid).trans <| (reacted_settlePto before (powerReact mid)).trans <|
    (reacted_powerReact _).trans <| reacted_settleGovernor (powerReact (settlePto before (powerReact mid)))
  refine ⟨?_, hr.settings, by rw [governed, hr.clock]⟩
  simp only [governed, settleGovernor_chassis, powerReact_chassis, settlePto_chassis]

/-- Where the port's two turns stand in what follows an event. -/
theorem settleWorking_portTurns (s u : State) : ∃ p m z, PortTurns s u (settleWorking s u) p m z := by
  let filled := settleFill s (settleBrake s u)
  let mid := settleReaders s filled
  obtain ⟨h1, h2, h3⟩ := governed_frame s mid
  have ht : settleWorking s u = settleMonitors mid (refreshOutputs (settleChassis mid
      (settleLockout (settleProtection s (governed s mid))))) := rfl
  rw [ht]
  generalize governed s mid = late at h1 h2 h3 ⊢
  exact ⟨settleLockout filled, mid, settleLockout (settleProtection s late),
    { own := ⟨rfl, rfl, rfl, rfl⟩, first := ⟨rfl, rfl, rfl⟩, between := ⟨h1, h2, h3⟩, second := ⟨rfl, rfl, rfl⟩ }⟩

/-- What follows an event in a working part is `settleWorking`. -/
theorem settle_working {u : State} (s : State) (h : u.working = true) : settle s u = settleWorking s u := if_pos h

section
variable {s u t p m z : State} (h : PortTurns s u t p m z)
include h

/-- Each port in between is in the state of the own effect's. -/
theorem PortTurns.port : p.chassis.port = u.chassis.port ∧ z.chassis.port = u.chassis.port ∧
    t.chassis.port = u.chassis.port := by
  obtain ⟨hp, -⟩ := h.own
  have hm : m.chassis.port = u.chassis.port := by rw [h.first.1, (chassisReact_frame s p).1, hp]
  have hz : z.chassis.port = u.chassis.port := by rw [h.between.1]; exact hm
  exact ⟨by rw [hp], hz, by rw [h.second.1, (chassisReact_frame m z).1]; exact hz⟩

/-- T0 at an event that leaves the governor in a mode other than OFF from OFF, or in OFF from another (R37). -/
theorem PortTurns.throttle (ht : ThrottleTurns s t) :
    t.chassis.t0 = (if t.gov.mode = .off then none else some (u.time.uptime + 20#32)) ∧
    (Sends u.settings 0 u.chassis → FallenDue (t.chassis.tx[(0 : Fin 4)])) := by
  obtain ⟨hp1, hp2, hp3, hp4⟩ := h.own
  obtain ⟨hm1, hm2, -⟩ := h.first
  obtain ⟨hz1, hz2, hz3⟩ := h.between
  obtain ⟨ht1, ht2, -⟩ := h.second
  obtain ⟨hport, hport', -⟩ := h.port
  have hsends (hs : Sends u.settings 0 u.chassis) : Sends p.settings 0 p.chassis ∧ Sends z.settings 0 z.chassis := by
    unfold Sends
    rw [hp2, hport, hz2, hport']
    exact ⟨hs, hs⟩
  have hgov : t.gov.mode = z.gov.mode := congrArg Governor.mode ht2
  have hmid : m.gov.mode = p.gov.mode := congrArg Governor.mode hm2
  unfold ThrottleTurns at ht
  by_cases hturn : ThrottleTurns m z
  · refine ⟨?_, fun hs => ?_⟩
    · unfold ThrottleTurns at hturn
      rw [ht1, chassisReact_t0, hz3, hgov]
      by_cases hz : z.gov.mode = .off <;> simp_all
    · rw [ht1, chassisReact_slot0 hturn (hsends hs).2]
      exact fallenDue_slotDue _
  · have hfirst : ThrottleTurns s p := by unfold ThrottleTurns at hturn ⊢; rw [← hmid]; rw [hgov] at ht; tauto
    unfold ThrottleTurns at hturn
    refine ⟨?_, fun hs => ?_⟩
    · have hkept : t.chassis.t0 = m.chassis.t0 := by
        rw [ht1, chassisReact_t0, if_neg (by tauto), if_neg (by tauto), hz1]
      rw [hkept, hm1, chassisReact_t0, hp3, ← hmid]
      by_cases hz : z.gov.mode = .off <;> simp_all
    · have hdue : FallenDue (z.chassis.tx[(0 : Fin 4)]) := by
        rw [hz1, hm1, chassisReact_slot0 hfirst (hsends hs).1]
        exact fallenDue_slotDue _
      rcases chassisReact_slots m z 0 with hkept | hagain
      · rw [ht1, hkept]; exact hdue
      · rw [ht1, hagain]; exact fallenDue_slotDue _

/-- T1 at an event that changes a field of it (R38). -/
theorem PortTurns.interlock (hi : interlockFields s ≠ interlockFields t) (hs : Sends u.settings 1 u.chassis) :
    FallenDue (t.chassis.tx[(1 : Fin 4)]) := by
  obtain ⟨hp1, hp2, -, -⟩ := h.own
  obtain ⟨hm1, -, hm3⟩ := h.first
  obtain ⟨hz1, hz2, -⟩ := h.between
  obtain ⟨ht1, -, ht3⟩ := h.second
  obtain ⟨hport, hport', -⟩ := h.port
  rw [ht1]
  by_cases hturn : interlockFields m = interlockFields z
  · have hfirst : InterlockTurns s p := .inl fun heq => hi (by rw [ht3, ← hturn, hm3, heq])
    have hdue : FallenDue (z.chassis.tx[(1 : Fin 4)]) := by
      rw [hz1, hm1, chassisReact_slot1 hfirst (by rw [Sends, hp2, hport]; exact hs)]
      exact fallenDue_slotDue _
    rcases chassisReact_slots m z 1 with hkept | hagain
    · rw [hkept]; exact hdue
    · rw [hagain]; exact fallenDue_slotDue _
  · rw [chassisReact_slot1 (.inl hturn) (by rw [Sends, hz2, hport']; exact hs)]
    exact fallenDue_slotDue _

/-- T0's timer at an event through which the governor's mode stays in OFF or stays out of it. -/
theorem PortTurns.t0_kept (hu : s.gov.mode = u.gov.mode) (ht : ¬ ThrottleTurns s t) : t.chassis.t0 = u.chassis.t0 := by
  obtain ⟨hp1, -, -, hp4⟩ := h.own
  obtain ⟨hm1, hm2, -⟩ := h.first
  obtain ⟨hz1, -, -⟩ := h.between
  obtain ⟨ht1, ht2, -⟩ := h.second
  unfold ThrottleTurns at ht
  have hgov : t.gov.mode = z.gov.mode := congrArg Governor.mode ht2
  have hmid : m.gov.mode = s.gov.mode := by rw [hm2, hp4, hu]
  have hown : p.gov.mode = s.gov.mode := by rw [hp4, hu]
  rw [hgov] at ht
  rw [ht1, chassisReact_t0, hmid, if_neg (by tauto), if_neg (by tauto), hz1, hm1, chassisReact_t0, hown,
    if_neg (by tauto), if_neg (by tauto), hp1]

end

/-- T1's content follows from the fields whose changes make it fall due. -/
theorem interlockFrame_congr {s t : State} (h : interlockFields s = interlockFields t) :
    frameContent s 1 = frameContent t 1 := by
  simp only [interlockFields, Prod.mk.injEq] at h
  obtain ⟨h1, h2, h3, h4, h5⟩ := h
  simp only [frameContent, interlockFrame, h1, h2, h3, h4, h5]

end Sys2Proof.Machine
end

section
/-! SUPPORT. The commands that make the transmit slots fall due (R35 to R39, R44), and O24. -/

namespace Sys2Proof.Machine

/-- A guarded command of a working part whose guard holds is its effect, and what follows within the event. -/
theorem guarded_reacted {c : Instr} {g : State → Prop} [∀ s, Decidable (g s)] {f : State → State} {s : State}
    (hc : exec c s = .next (workingEvent (fun s => if g s then f s else s) s)) (hw : s.working = true) (hg : g s) :
    ∃ t, exec c s = .next t ∧ t = settle s (f s) ∧ Reacted (f s) t := by
  refine ⟨_, hc, ?_, ?_⟩
  · unfold workingEvent event
    rw [if_pos (working_powered s hw)]
    dsimp only
    rw [if_pos hw, if_pos hg]
  · have hr := workingEvent_reacted (fun s => if g s then f s else s) s hw
    rwa [if_pos hg] at hr

/-! ### Whatever the command -/

/-- A command in a part that goes on working does nothing, or is an effect in whose wake the port has its two turns. -/
theorem Continues.portTurns {c : Instr} {s t : State} (h : Continues c s t) :
    t = s ∨ ∃ u p m z, PortTurns s u t p m z ∧ Reacted u t := by
  rcases h.event_or_same with hc | rfl
  · obtain ⟨-, ht, hexec, -, -⟩ := h
    rcases exec_portKept c s t hc hexec with rfl | ⟨u, -, rfl⟩
    · exact .inl rfl
    · have hr := reacted_settle s u
      have hu : u.working = true := hr.working.symm.trans ht
      obtain ⟨p, m, z, hturns⟩ := settleWorking_portTurns s u
      exact .inr ⟨u, p, m, z, by rwa [settle_working s hu], hr⟩
  · exact .inl rfl

/-- Whatever the command, T0 falls due as the governor's mode leaves OFF and as it becomes OFF (R37). -/
theorem Continues.throttle {c : Instr} {s t : State} (h : Continues c s t)
    (hp : t.chassis.port = .errorActive ∨ t.chassis.port = .errorPassive) (ht : ThrottleTurns s t) :
    t.chassis.t0 = (if t.gov.mode = .off then none else some (t.time.uptime + 20#32)) ∧
    ((t.settings.tx[(0 : Fin 4)]).enabled = true → FallenDue (t.chassis.tx[(0 : Fin 4)])) := by
  rcases h.portTurns with rfl | ⟨u, p, m, z, hturns, hr⟩
  · unfold ThrottleTurns at ht
    exact absurd ht (by tauto)
  · obtain ⟨h0, hdue⟩ := hturns.throttle ht
    refine ⟨by rw [h0, hr.clock], fun he => hdue ⟨hr.settings ▸ he, ?_⟩⟩
    rw [← hturns.port.2.2]
    exact hp

/-- Whatever the command, T1 falls due at a change of what it carries (R38). -/
theorem Continues.interlock {c : Instr} {s t : State} (h : Continues c s t)
    (hp : t.chassis.port = .errorActive ∨ t.chassis.port = .errorPassive) (hi : frameContent s 1 ≠ frameContent t 1)
    (he : (t.settings.tx[(1 : Fin 4)]).enabled = true) : FallenDue (t.chassis.tx[(1 : Fin 4)]) := by
  rcases h.portTurns with rfl | ⟨u, p, m, z, hturns, hr⟩
  · exact absurd rfl hi
  · refine hturns.interlock (fun heq => hi (interlockFrame_congr heq)) ⟨hr.settings ▸ he, ?_⟩
    rw [← hturns.port.2.2]
    exact hp

/-! ### Periods -/

/-- A periodic timer that is due goes on from its expiry (R49). -/
theorem nextPeriod_of_due {now : Uptime} {t : Timer} (ms : Nat) (h : due now t = true) :
    nextPeriod now ms t = t.map (· + BitVec.ofNat 32 ms) := by
  cases t with
  | none => cases h
  | some e => rfl

/-- The effect of a slot that falls due in a part whose port's other fields may have changed. -/
def withDue (k : Fin 4) (ch : Chassis) (s : State) : State := { s with chassis := fallDue s.settings k ch }

/-- After a slot has fallen due, and after the reactions, it is as R35 has it, and the receive slots and the settings are
as they were. -/
theorem withDue_reacted {k : Fin 4} {ch : Chassis} {s t : State} (hr : Reacted (withDue k ch s) t)
    (htx : ch.tx = s.chassis.tx) (hrx : ch.rx = s.chassis.rx) (hs : Sends s.settings k ch) :
    t.chassis.tx[k] = slotDue (s.chassis.tx[k]) ∧ t.chassis.rx = s.chassis.rx ∧ t.settings = s.settings := by
  have hslot : (withDue k ch s).chassis.tx[k] = slotDue (s.chassis.tx[k]) := by
    rw [← htx]
    exact fallDue_slot hs
  refine ⟨?_, ?_, hr.settings⟩
  · rw [hr.slot_fallenDue (by rw [hslot]; exact fallenDue_slotDue _), hslot]
  · rw [hr.port]
    exact (fallDue_rx s.settings k ch).trans hrx

/-- The timers of T1 and T2 after a slot has fallen due, and after the reactions. -/
theorem withDue_timers {k : Fin 4} {ch : Chassis} {s t : State} (hr : Reacted (withDue k ch s) t) :
    t.chassis.t1 = ch.t1 ∧ t.chassis.t2 = ch.t2 := by
  rw [hr.port]
  exact ⟨fallDue_t1 s.settings k ch, fallDue_t2 s.settings k ch⟩

/-- A slot falls due at the end of a period: what the statement asks of the slot, for each of T0 to T2. -/
theorem slot_after_period {x y : TxSlot} (h : y = slotDue x) :
    (x.state ≠ .sending → y.state = .pending) ∧ (x.state = .sending → y.state = .sending ∧ y.dueAgain = true) :=
  h ▸ slotDue_cases x

/-- T0's timer after a period of T0 has ended runs on as it was started, while the mode stays out of OFF (R37). -/
theorem withDue_t0 {s t : State} {ch : Chassis} (ht : t = settle s (withDue 0 ch s)) (hw : s.working = true)
    (hs : s.gov.mode ≠ .off) (hm : t.gov.mode ≠ .off) : t.chassis.t0 = ch.t0 := by
  rw [settle_working s (u := withDue 0 ch s) hw] at ht
  obtain ⟨p, m, z, hturns⟩ := settleWorking_portTurns s (withDue 0 ch s)
  rw [← ht] at hturns
  rw [hturns.t0_kept rfl (by unfold ThrottleTurns; tauto)]
  exact fallDue_t0 s.settings 0 ch

/-- T0 to T2 fall due at the ends of their periods, which run on. -/
theorem period_fallsDue {s : State} (hw : s.working = true) (i : Fin 3) (period : Nat) (timer : Timer) (c : Instr)
    (hc : (i = 0 ∧ period = 20 ∧ timer = s.chassis.t0 ∧ c = .t0Period) ∨
      (i = 1 ∧ period = 100 ∧ timer = s.chassis.t1 ∧ c = .t1Period) ∨
      (i = 2 ∧ period = 1000 ∧ timer = s.chassis.t2 ∧ c = .t2Period))
    (hd : due s.time.uptime timer = true) (hp : s.chassis.port = .errorActive ∨ s.chassis.port = .errorPassive)
    (k : Fin 4) (hk : k.val = i.val) (he : (s.settings.tx[k]).enabled = true) :
    ∃ t, exec c s = .next t ∧ t.chassis.rx = s.chassis.rx ∧ t.settings = s.settings ∧
      ((s.chassis.tx[k]).state ≠ .sending → (t.chassis.tx[k]).state = .pending) ∧
      ((s.chassis.tx[k]).state = .sending → (t.chassis.tx[k]).state = .sending ∧ (t.chassis.tx[k]).dueAgain = true) ∧
      (i = 1 → t.chassis.t1 = s.chassis.t1.map (· + 100#32)) ∧
      (i = 2 → t.chassis.t2 = s.chassis.t2.map (· + 1000#32)) ∧
      (i = 0 → s.gov.mode ≠ .off → t.gov.mode ≠ .off → t.chassis.t0 = s.chassis.t0.map (· + 20#32)) := by
  rcases hc with ⟨rfl, -, rfl, rfl⟩ | ⟨rfl, -, rfl, rfl⟩ | ⟨rfl, -, rfl, rfl⟩
  · obtain rfl : k = 0 := Fin.ext hk
    obtain ⟨t, ht, hset, hr⟩ := guarded_reacted
      (c := .t0Period) (g := fun s => due s.time.uptime s.chassis.t0 = true)
      (f := fun s => withDue 0 { s.chassis with t0 := nextPeriod s.time.uptime 20 s.chassis.t0 } s) rfl hw hd
    obtain ⟨hslot, hrx, hsettings⟩ := withDue_reacted hr rfl rfl ⟨he, hp⟩
    obtain ⟨h1, h2⟩ := slot_after_period hslot
    exact ⟨t, ht, hrx, hsettings, h1, h2, nofun, nofun, fun _ hs hm =>
      (withDue_t0 hset hw hs hm).trans (nextPeriod_of_due 20 hd)⟩
  · obtain rfl : k = 1 := Fin.ext hk
    obtain ⟨t, ht, -, hr⟩ := guarded_reacted
      (c := .t1Period) (g := fun s => due s.time.uptime s.chassis.t1 = true)
      (f := fun s => withDue 1 { s.chassis with t1 := nextPeriod s.time.uptime 100 s.chassis.t1 } s) rfl hw hd
    obtain ⟨hslot, hrx, hsettings⟩ := withDue_reacted hr rfl rfl ⟨he, hp⟩
    obtain ⟨h1, h2⟩ := slot_after_period hslot
    exact ⟨t, ht, hrx, hsettings, h1, h2, fun _ => (withDue_timers hr).1.trans (nextPeriod_of_due 100 hd), nofun, nofun⟩
  · obtain rfl : k = 2 := Fin.ext hk
    obtain ⟨t, ht, -, hr⟩ := guarded_reacted
      (c := .t2Period) (g := fun s => due s.time.uptime s.chassis.t2 = true)
      (f := fun s => withDue 2 { s.chassis with t2 := nextPeriod s.time.uptime 1000 s.chassis.t2 } s) rfl hw hd
    obtain ⟨hslot, hrx, hsettings⟩ := withDue_reacted hr rfl rfl ⟨he, hp⟩
    obtain ⟨h1, h2⟩ := slot_after_period hslot
    exact ⟨t, ht, hrx, hsettings, h1, h2, nofun, fun _ => (withDue_timers hr).2.trans (nextPeriod_of_due 1000 hd), nofun⟩

/-! ### Joining, and a remote frame -/

/-- T1 falls due as the port joins the bus, and the periods of T1 and T2 start (R38, R39, R44). -/
theorem busJoin_fallsDue {s : State} (hw : s.working = true) (hp : s.chassis.port = .errorActive)
    (hj : s.chassis.joined = false) (he : (s.settings.tx[(1 : Fin 4)]).enabled = true)
    (hi : (s.chassis.tx[(1 : Fin 4)]).state = .idle) :
    ∃ t, exec .busJoin s = .next t ∧ t.chassis.joined = true ∧ t.chassis.port = .errorActive ∧
      t.chassis.t1 = some (s.time.uptime + 100#32) ∧ t.chassis.t2 = some (s.time.uptime + 1000#32) ∧
      (t.chassis.tx[(1 : Fin 4)]).state = .pending ∧ t.chassis.rx = s.chassis.rx := by
  obtain ⟨t, ht, -, hr⟩ := guarded_reacted (c := .busJoin)
    (g := fun s => s.chassis.port = .errorActive ∧ s.chassis.joined = false)
    (f := fun s => withDue 1 { s.chassis with
      joined := true, t1 := startTimer s.time.uptime 100, t2 := startTimer s.time.uptime 1000 } s) rfl hw ⟨hp, hj⟩
  obtain ⟨hslot, hrx, -⟩ := withDue_reacted hr rfl rfl ⟨he, .inl hp⟩
  obtain ⟨h1, h2⟩ := withDue_timers hr
  refine ⟨t, ht, ?_, ?_, h1, h2, ?_, hrx⟩
  · rw [hr.port]; exact fallDue_joined _ _ _
  · rw [hr.port]; exact (fallDue_port _ _ _).trans hp
  · rw [hslot, slotDue_of_idle hi]

/-- What a remote frame does of itself (R39): T3 falls due where the frame asks for it, and the receive error count goes
down. -/
theorem receiveRemote_frame (id : CanId) (s : State) :
    (receiveFrame (.remote id) s).chassis.rx = s.chassis.rx ∧
    (receiveFrame (.remote id) s).chassis.rxErrors = s.chassis.rxErrors - 1 ∧
    (receiveFrame (.remote id) s).chassis.tx[(3 : Fin 4)] =
      if s.settings.chassis.autoAnswer ∧ id = txId (s.settings.tx[(3 : Fin 4)]) then
        (fallDue s.settings 3 s.chassis).tx[(3 : Fin 4)] else s.chassis.tx[(3 : Fin 4)] := by
  unfold receiveFrame
  dsimp only
  split
  · exact ⟨fallDue_rx _ _ _, congrArg (· - 1) (fallDue_rxErrors _ _ _), rfl⟩
  · exact ⟨rfl, rfl, rfl⟩

/-- T3 falls due at a remote frame of its own identifier while auto-answer is on, and at no other (R39). -/
theorem rxRemoteFrame_fallsDue {s : State} (hw : s.working = true) (id : CanId) (hb : onBus s.chassis = true)
    (hf : (BusFrame.remote id).wf = true) :
    ∃ t, exec (.rxRemoteFrame id) s = .next t ∧ t.chassis.rx = s.chassis.rx ∧
      t.chassis.rxErrors = s.chassis.rxErrors - 1 ∧
      (s.settings.chassis.autoAnswer = true ∧ (s.settings.tx[(3 : Fin 4)]).enabled = true ∧
          id = txId (s.settings.tx[(3 : Fin 4)]) →
        t.chassis.tx[(3 : Fin 4)] = slotDue (s.chassis.tx[(3 : Fin 4)])) ∧
      (s.settings.chassis.autoAnswer = false ∨ id ≠ txId (s.settings.tx[(3 : Fin 4)]) →
        t.chassis.tx[(3 : Fin 4)] = s.chassis.tx[(3 : Fin 4)]) := by
  obtain ⟨t, ht, -, hr⟩ := guarded_reacted (c := .rxRemoteFrame id) (f := receiveFrame (.remote id)) rfl hw
    (by rw [hb, hf]; rfl)
  obtain ⟨h1, h2, h3⟩ := receiveRemote_frame id s
  refine ⟨t, ht, by rw [hr.port]; exact h1, by rw [hr.port]; exact h2, fun ⟨ha, he, hid⟩ => ?_, fun h => ?_⟩
  · have hp : s.chassis.port = .errorActive ∨ s.chassis.port = .errorPassive := by
      simp only [onBus, Bool.and_eq_true, Bool.or_eq_true, decide_eq_true_eq] at hb
      exact hb.2
    exact hr.slot3.trans (by rw [h3, if_pos ⟨ha, hid⟩, fallDue_slot ⟨he, hp⟩])
  · have hnot : ¬ (s.settings.chassis.autoAnswer = true ∧ id = txId (s.settings.tx[(3 : Fin 4)])) := by
      rintro ⟨ha, hid⟩
      rcases h with h | h
      · exact absurd (ha.symm.trans h) (by decide)
      · exact h hid
    exact hr.slot3.trans (by rw [h3, if_neg hnot])

/-- Settles O24: T0 and T1 whatever the command by the port's two turns within an event, the rest by the commands. -/
theorem slotsFallDue : Obligations.SlotsFallDue := by
  refine ⟨fun c s t h hp => ⟨fun hs ht => ?_, fun hs ht => ?_, fun hi he => h.interlock hp hi he⟩, fun s hw =>
    ⟨period_fallsDue hw, busJoin_fallsDue hw, fun id hb hf => ?_⟩⟩
  · obtain ⟨h0, hdue⟩ := h.throttle hp (by unfold ThrottleTurns; tauto)
    exact ⟨by rw [h0, if_neg ht], hdue⟩
  · obtain ⟨h0, hdue⟩ := h.throttle hp (by unfold ThrottleTurns; tauto)
    exact ⟨by rw [h0, if_pos ht], hdue⟩
  · obtain ⟨t, ht, hrx, hcount, hasked, hother⟩ := rxRemoteFrame_fallsDue hw id hb hf
    refine ⟨t, ht, hrx, hcount, fun h => ?_, hother⟩
    rw [hasked h]
    exact ⟨fun hi => by rw [slotDue_of_idle hi], slotDue_of_pending, fun hs => (slotDue_cases _).2 hs⟩

end Sys2Proof.Machine
end

section
/-! SUPPORT. An event that changes nothing but the port's own record, in a part whose records already follow one another:
no block has a change to take, and the transmit slots stay as the event's own effect leaves them (R37, R38). -/

namespace Sys2Proof.Machine

/-- A port that is neither off the bus for its errors nor OFF. -/
def PortUp (ch : Chassis) : Prop := ch.port = .errorActive ∨ ch.port = .errorPassive

/-- Two states that agree in every record the blocks read of one another, the port being up in the second. -/
structure Alike (s u : State) : Prop where
  time : u.time = s.time
  settings : u.settings = s.settings
  inputs : u.inputs = s.inputs
  slots : u.chassis.rx = s.chassis.rx
  up : PortUp u.chassis
  pto : u.pto = s.pto
  gov : u.gov = s.gov
  gauge : u.gauge = s.gauge
  lock : u.lock = s.lock
  power : u.power = s.power

/-- A port that is up is neither BUS_OFF nor RECOVERING. -/
theorem PortUp.on {ch : Chassis} (h : PortUp ch) : ch.port ≠ .busOff ∧ ch.port ≠ .recovering := by
  rcases h with h | h <;> rw [h] <;> exact ⟨nofun, nofun⟩

section
variable {s u : State} (h : Alike s u)
include h

theorem Alike.quantity (q : Fin 6) : u.quantity q = s.quantity q := by
  unfold State.quantity usableQuantity
  rw [h.settings, h.slots]

theorem Alike.vehicle : u.vehicle = s.vehicle := by
  unfold State.vehicle vehicleOf usableQuantity
  rw [h.settings, h.slots]

theorem Alike.stationary : u.stationary = s.stationary := by
  unfold State.stationary
  rw [h.vehicle]

theorem Alike.level (i : Fin 10) : u.level i = s.level i := by
  unfold State.level
  rw [h.inputs]

/-- The brake monitor has no source changed. -/
theorem Alike.brakeReact : brakeReact s u = s.inputs.brake := by
  simp [Machine.brakeReact, acceptedChange, h.quantity, h.level, h.inputs]

/-- The fill finds what it found. -/
theorem Alike.fillReact : fillReact s u = fillReact s s := by
  simp only [Machine.fillReact, h.inputs, h.time, h.gauge, h.stationary]

/-- The lockout conditions hold as they did. -/
theorem Alike.conditionHolds (hs : PortUp s.chassis) : conditionHolds u = conditionHolds s := by
  obtain ⟨h1, h2⟩ := h.up.on
  obtain ⟨h3, h4⟩ := hs.on
  funext i
  simp only [Machine.conditionHolds, h.pto, h.gauge, h.level, h.vehicle, h.inputs, h.lock, h1, h2, h3, h4]

/-- The lockout unit finds what it found. -/
theorem Alike.lockoutReact (hs : PortUp s.chassis) : lockoutReact u = lockoutReact s := by
  have hc : conditionsAt u = conditionsAt s := by
    funext stage
    cases stage <;> simp only [conditionsAt, earlyConditions, evaluateConditions, earlyHolds, h.conditionHolds hs, h.lock,
      h.time, h.gauge]
  have hset : contributorsAt u = contributorsAt s := by
    funext stage a
    cases stage <;> simp only [contributorsAt, hc, h.settings, h.lock]
  have hover : followOverspeed u = followOverspeed s := by
    unfold followOverspeed overThreshold
    rw [h.pto, h.quantity, h.settings, h.lock, h.time]
  have hstage : evalStage u = evalStage s := by
    unfold evalStage
    rw [h.lock, h.inputs]
  have hspeed : u.speedValue = s.speedValue := by
    unfold State.speedValue
    rw [h.quantity]
  unfold Machine.lockoutReact evaluateActions
  rw [hover, hstage, hspeed, hset, hc, h.settings, h.lock, h.time, h.stationary, h.vehicle]

/-- The governor finds what it found. -/
theorem Alike.governorReact (hs : PortUp s.chassis) : governorReact u = governorReact s := by
  have hpath (p : ThrottlePath) : pathOf u.chassis.port p = pathOf s.chassis.port p := by
    have up {ch : Chassis} (hu : PortUp ch) : pathOf ch.port p = .available := by rcases hu with hu | hu <;> rw [hu] <;> rfl
    rw [up h.up, up hs]
  have hchange : changeGoverned u = changeGoverned s := by
    funext new g
    simp only [changeGoverned, h.settings, h.stationary, h.pto]
  simp only [Machine.governorReact, followPath, hpath, hchange, leaveWindDown, rollWithAux, watchForStop, h.gov, h.pto,
    h.settings, h.stationary, h.time]

/-- The power controller does nothing where it would have done nothing. -/
theorem Alike.powerReact (hs : powerReact s = s) : powerReact u = u := by
  have hk : ignitionKnown u = ignitionKnown s := by simp only [ignitionKnown, h.inputs]
  have hd : u.drivesReleased = s.drivesReleased := by
    simp only [State.drivesReleased, h.pto, h.level]
  have ha : awakeToWatch u = awakeToWatch s := by simp only [awakeToWatch, linkSilent, hd, h.level, h.gauge, h.power]
  have state : (Machine.powerReact s).power = s.power := by rw [hs]
  unfold Machine.powerReact at state ⊢
  rw [hk, h.power, hd, h.level, ha]
  split
  · next known =>
    rw [if_pos known] at state
    split
    · next awake =>
      simp only [awake] at state
      split
      · next leaves =>
        rw [if_pos leaves] at state
        exact absurd ((congrArg Power.state state).trans awake) nofun
      · next stays =>
        rw [if_neg stays] at state
        split
        · next goes =>
          rw [if_pos goes] at state
          have hw : true = s.power.watchPending := congrArg Power.watchPending state
          rw [← hw] at goes
          simp at goes
        · rfl
    · next rundown =>
      simp only [rundown] at state
      split
      · next leaves =>
        rw [if_pos leaves] at state
        exact absurd ((congrArg Power.state state).trans rundown) nofun
      · next stays =>
        rw [if_neg stays] at state
        split
        · next goes =>
          rw [if_pos goes] at state
          have hw : true = s.power.watchPending := congrArg Power.watchPending state
          rw [← hw] at goes
          simp at goes
        · rfl
    · rfl
  · rfl

/-- The sequencer has no source changed. -/
theorem Alike.ptoReact (hs : refreshReady (ptoEnv s) s.pto = s.pto) : ptoReact s u = { pto := s.pto, posts := [] } := by
  have hsrc (d : DriveId) : sourcesChanged s u d = false := by
    simp only [sourcesChanged, sharedSourceChanged, requestSourceChanged, acceptedChange, h.quantity, h.pto, h.level,
      h.power]
    cases (s.pto.drive d).state <;> cases d <;> simp
  have henv : ptoEnv u = ptoEnv s :=
    ptoEnv_congr h.time h.settings h.slots (by rw [h.inputs]) (by rw [h.inputs]) h.power
  have hcheck : checkDrives (ptoEnv s) 4 false false { pto := s.pto, posts := [] } = { pto := s.pto, posts := [] } := by
    simp [checkDrives, arbitrate]
  unfold Machine.ptoReact
  dsimp only
  rw [hsrc, hsrc, henv, h.pto, hcheck, hs]

end

/-! ### The reactions, one after the other -/

section
variable {s u : State} (steady : Steady s) (hs : PortUp s.chassis) (h : Alike s u)
include steady hs h

omit hs in
/-- The brake monitor and the fill leave such a state. -/
theorem Alike.settleFill : Alike s (settleFill s (settleBrake s u)) ∧
    (settleFill s (settleBrake s u)).chassis = u.chassis := by
  have hb : Alike s (settleBrake s u) :=
    { h with inputs := by rw [settleBrake_inputs, h.brakeReact, h.inputs] }
  refine ⟨{ hb with gauge := ?_ }, rfl⟩
  rw [settleFill_gauge, hb.fillReact, steady.fill]

/-- The lockout unit leaves such a state. -/
theorem Alike.settleLockout : Alike s (settleLockout u) :=
  { h with lock := by rw [settleLockout_lock, h.lockoutReact hs, steady.lockout] }

omit steady hs in
/-- The port's reaction leaves such a state, where it finds no change to react to. -/
theorem Alike.chassisReact {m : State} (hm : Alike s m) : chassisReact m u = u.chassis := by
  refine chassisReact_quiet ?_ ?_
  · unfold ThrottleTurns
    rw [hm.gov, h.gov]
    tauto
  · unfold InterlockTurns interlockFields
    rw [hm.lock, hm.power, hm.pto, hm.settings, h.lock, h.power, h.pto, h.settings]
    have := hm.up.on.2
    tauto

/-- The readers of the drive and the fill records leave such a state. -/
theorem Alike.settleReaders (hself : Alike s s) : Alike s (settleReaders s u) ∧
    (settleReaders s u).chassis = u.chassis := by
  have hl := h.settleLockout steady hs
  have hch : Machine.chassisReact s (Machine.settleLockout u) = u.chassis := hl.chassisReact hself
  refine ⟨⟨hl.time, hl.settings, hl.inputs, ?_, ?_, hl.pto, hl.gov, hl.gauge, hl.lock, hl.power⟩, hch⟩
  · exact (congrArg Chassis.rx hch).trans h.slots
  · exact (congrArg PortUp hch).mpr h.up

/-- The power controller, the sequencer and the governor leave such a state. -/
theorem Alike.governed : Alike s (governed s u) := by
  have h1 : Machine.powerReact u = u := h.powerReact steady.power
  have h2 : Alike s (settlePto s u) :=
    { h with pto := by rw [settlePto_pto, h.ptoReact steady.drives] }
  have h3 : Machine.powerReact (settlePto s u) = settlePto s u := h2.powerReact steady.power
  unfold Machine.governed
  rw [h1, h3]
  exact { h2 with gov := by rw [settleGovernor_gov, h2.governorReact hs, steady.governor] }

/-- The whole of what follows within the event leaves the port's record. -/
theorem Alike.settleWorking_chassis : (settleWorking s u).chassis = u.chassis := by
  have hself : Alike s s := ⟨rfl, rfl, rfl, rfl, hs, rfl, rfl, rfl, rfl, rfl⟩
  let filled := Machine.settleFill s (settleBrake s u)
  let mid := Machine.settleReaders s filled
  obtain ⟨hf, cf⟩ : Alike s filled ∧ filled.chassis = u.chassis := h.settleFill steady
  obtain ⟨hm, cm⟩ : Alike s mid ∧ mid.chassis = filled.chassis := hf.settleReaders steady hs hself
  have hg := hm.governed steady hs
  have cg := (governed_frame s mid).1
  have ht : settleWorking s u = settleMonitors mid (refreshOutputs (settleChassis mid
      (Machine.settleLockout (settleProtection s (Machine.governed s mid))))) := rfl
  rw [ht, settleMonitors_chassis, refreshOutputs_chassis, settleChassis_chassis]
  generalize Machine.governed s mid = late at hg cg
  have hp : Alike s (settleProtection s late) := { hg with }
  rw [(hp.settleLockout steady hs).chassisReact hm, settleLockout_chassis, settleProtection_chassis, cg, cm, cf]

end

/-- An event that changes the port's record alone, in a part whose records follow one another, leaves the port as the event's
own effect does. -/
theorem Steady.settle_putChassis {s : State} (steady : Steady s) (hw : s.working = true) (hs : PortUp s.chassis)
    {r : Chassis × List Notice} (hr : r.1.rx = s.chassis.rx) (hup : PortUp r.1) :
    (settle s (putChassis r s)).chassis = r.1 := by
  have h : Alike s (putChassis r s) := ⟨rfl, rfl, rfl, hr, hup, rfl, rfl, rfl, rfl, rfl⟩
  rw [settle_working s (u := putChassis r s) hw]
  exact h.settleWorking_chassis steady hs

end Sys2Proof.Machine
end

section
/-! SUPPORT. The error counts, the state and the recovery of the chassis port (R36, R41 to R43), and O22. -/

namespace Sys2Proof.Machine

/-! ### A change of the port's state is told (R41, R184) -/

/-- Posting notices makes the queue at most as much longer as they are many. -/
theorem postAll_length (now : Uptime) (q : NoticeQueue) (ns : List Notice) :
    (postAll now q ns).entries.length ≤ q.entries.length + ns.length := by
  induction ns generalizing q with
  | nil => exact Nat.le_refl _
  | cons n ns ih =>
    have h := postNotice_length now q n
    have hrest := ih (postNotice now q n)
    rw [postAll_cons, List.length_cons]
    omega

/-- The one entry of a queue that tells of a port that has come from `was` to the state of `ch`. -/
structure PortEntry (was : PortState) (ch : Chassis) (e : Entry) : Prop where
  unsent : e.sending = false
  kind : e.kind = .chassisState
  subject : e.subject = 0
  detail : e.detail = [BitVec.ofNat 8 (portStateCode ch.port), BitVec.ofNat 8 ch.txErrors, BitVec.ofNat 8 ch.rxErrors]
  warns : ch.port = .errorPassive → e.cls ≠ .info
  alarms : ch.port = .busOff ∨ (ch.port = .recovering ∧ was ≠ .busOff) → e.cls = .alarm

/-- The notices of a port's new state, posted to an empty queue, leave one entry there: that of a recovery started at once
takes the ALARM of the BUS_OFF it follows (R181). -/
theorem PortNews.entry {was : PortState} {ch : Chassis} {ns : List Notice} (h : PortNews was ch ns) (now : Uptime)
    {q : NoticeQueue} (hq : q.entries = []) : ∃ e, (postAll now q ns).entries = [e] ∧ PortEntry was ch e := by
  rcases h with ⟨rfl, hfrom⟩ | ⟨hp, rfl⟩
  · refine ⟨newEntry now (noticeChassisState ch.port ch.txErrors ch.rxErrors), ?_, rfl, rfl, rfl, rfl, ?_, ?_⟩
    · simp [postAll, postNotice, hq, coalesceInto, queueCapacity]
    · intro hp; rw [hp]; exact nofun
    · rintro (hp | ⟨hp, hw⟩)
      · rw [hp]; rfl
      · exact absurd (hfrom hp) hw
  · refine ⟨coalesced now (noticeChassisState ch.port ch.txErrors ch.rxErrors)
      (newEntry now (noticeChassisState .busOff 255 ch.rxErrors)), ?_, rfl, rfl, rfl, ?_, ?_, ?_⟩
    · rw [hp]
      simp [postAll, postNotice, hq, coalesceInto, queueCapacity, entryMatches, newEntry, noticeChassisState]
    · rfl
    · intro hpass; rw [hp] at hpass; cases hpass
    · intro _; rw [hp]; rfl

/-- A change of the port's state by an event that the part goes on from has its entry in the queue, if that was empty. -/
theorem Continues.portEntry {c : Instr} {s t : State} (h : Continues c s t) (hq : s.notices.entries = [])
    (hp : t.chassis.port ≠ s.chassis.port) : ∃ e ∈ t.notices.entries, PortEntry s.chassis.port t.chassis e := by
  rcases h.event_or_same with hc | rfl
  · obtain ⟨-, -, hexec, -, -⟩ := h
    obtain ⟨u, hkept, hr⟩ := (exec_portKept c s t hc hexec).reacted (.of_same rfl)
    have hport : t.chassis.port = u.chassis.port := by rw [hr.port]
    rcases hkept.told with hsame | ⟨first, rest, hn, hnews, hlen, hother⟩
    · exact absurd (hport.trans hsame) hp
    · obtain ⟨e, hone, he⟩ := hnews.entry s.time.uptime hq
      rw [postAll_append] at hn
      have hrest : ∀ n ∈ rest, entryMatches n e = false := fun n hmem => by
        have hk : NoticeKind.chassisState ≠ n.kind := fun heq => hother n hmem heq.symm
        simp [entryMatches, he.kind, hk]
      rw [List.length_append] at hlen
      have hcap : rest.length ≤ 10 := by omega
      have hkeep : e ∈ u.notices.entries := by
        rw [hn]
        refine postAll_keepsEntry _ _ _ e (by rw [hone]; exact List.mem_singleton.mpr rfl) hrest ?_
        rw [hone]
        exact show 1 + rest.length ≤ 32 by omega
      have hroom : u.notices.entries.length + 22 ≤ 32 := by
        have hfirst := postAll_length s.time.uptime s.notices (first ++ rest)
        rw [postAll_append, ← hn, hq] at hfirst
        simp only [List.length_nil, List.length_append] at hfirst
        omega
      refine ⟨e, hr.keepsEntry hroom e hkeep (by rw [he.kind]; decide), he.unsent, he.kind, he.subject, ?_, ?_, ?_⟩
      · rw [he.detail, hr.port]
      · rw [hport]; exact he.warns
      · rw [hport]; exact he.alarms
  · exact absurd rfl hp

/-! ### Effects on a port on the bus -/

/-- A command of a working part is its effect and what follows within the event. -/
theorem workingEvent_settle (f : State → State) {s : State} (h : s.working = true) :
    workingEvent f s = settle s (f s) := by
  unfold workingEvent event
  rw [if_pos (working_powered s h)]
  dsimp only
  rw [if_pos h]

/-- The end of a sending attempt on a port on the bus is its effect on the slot, and what follows. -/
theorem attempt_reacted {c : Instr} {f : Fin 4 → State → State} {s : State} {i : Fin 4}
    (hc : exec c s = .next (workingEvent (fun s => if onBus s.chassis then endAttempt f s else s) s))
    (hw : s.working = true) (hb : onBus s.chassis = true) (hi : sendingSlot s.chassis = some i) :
    ∃ t, exec c s = .next t ∧ t = settle s (f i s) ∧ Reacted (f i s) t := by
  have hf : endAttempt f s = f i s := by
    unfold endAttempt
    rw [hi]
  obtain ⟨t, ht, hset, hr⟩ := guarded_reacted (c := c) (g := fun s => onBus s.chassis = true) (f := endAttempt f) hc hw hb
  rw [hf] at hset hr
  exact ⟨t, ht, hset, hr⟩

/-- A port on the bus is up. -/
theorem portUp_of_onBus {ch : Chassis} (h : onBus ch = true) : PortUp ch := by
  simp only [onBus, Bool.and_eq_true, Bool.or_eq_true, decide_eq_true_eq] at h
  exact h.2

/-- The state that new counts give, as R41 has it. -/
theorem withCounts_port (tec rec : Nat) (ch : Chassis) :
    (withCounts tec rec ch).1.port = if 128 ≤ tec ∨ 128 ≤ rec then .errorPassive else .errorActive := rfl

/-- A port with new counts is up. -/
theorem portUp_withCounts (tec rec : Nat) (ch : Chassis) : PortUp (withCounts tec rec ch).1 := by
  unfold PortUp
  rw [withCounts_port]
  split
  · exact .inr rfl
  · exact .inl rfl

/-- The reactions leave all of a slot that is not SENDING but its state. -/
theorem ReactedBy.slot_at_rest {n : Nat} {u t : State} (h : ReactedBy n u t) {i : Fin 4}
    (hi : (u.chassis.tx[i]).state ≠ .sending) : (t.chassis.tx[i]).dueAgain = (u.chassis.tx[i]).dueAgain ∧
      (t.chassis.tx[i]).lastSent = (u.chassis.tx[i]).lastSent := by
  rcases h.slots i with h | h <;> rw [h]
  · exact ⟨rfl, rfl⟩
  · cases hs : (u.chassis.tx[i]).state
    · rw [slotDue_of_idle hs]; exact ⟨rfl, rfl⟩
    · rw [slotDue_of_pending hs]; exact ⟨rfl, rfl⟩
    · exact absurd hs hi

/-! ### A receive error, a frame sent, a transmit error -/

/-- A receive error adds 1 to the receive count, up to 255 (R41). -/
theorem receiveError_counts {s : State} (hw : s.working = true) (hb : onBus s.chassis = true) :
    ∃ t, exec .receiveError s = .next t ∧ t.chassis.rxErrors = min 255 (s.chassis.rxErrors + 1) ∧
      t.chassis.txErrors = s.chassis.txErrors ∧ t.chassis.rx = s.chassis.rx ∧
      t.chassis.port = (if 128 ≤ t.chassis.txErrors ∨ 128 ≤ t.chassis.rxErrors then .errorPassive else .errorActive) := by
  obtain ⟨t, ht, -, hr⟩ := guarded_reacted (c := .receiveError) (g := fun s => onBus s.chassis = true)
    (f := fun s => putChassis (receiveFailed s.chassis) s) rfl hw hb
  exact ⟨t, ht, by rw [hr.port]; rfl, by rw [hr.port]; rfl, by rw [hr.port]; rfl, by rw [hr.port]; rfl⟩

/-- The slot of a frame sent (R36). -/
theorem sentWell_slot (c : Settings) (now : Uptime) (i : Fin 4) (ch : Chassis) : (sentWell c now i ch).1.tx[i] =
    { state := if (c.tx[i]).enabled && (ch.tx[i]).dueAgain then .pending else .idle, dueAgain := false, lastSent := now } := by
  simp [sentWell, withCounts]

/-- A frame sent takes 1 off the transmit count, and leaves its slot IDLE, or PENDING when it was due again (R36, R41). -/
theorem frameSent_counts {s : State} (hw : s.working = true) (hb : onBus s.chassis = true) {i : Fin 4}
    (hi : sendingSlot s.chassis = some i) :
    ∃ t, exec .frameSent s = .next t ∧ t.chassis.txErrors = s.chassis.txErrors - 1 ∧
      t.chassis.rxErrors = s.chassis.rxErrors ∧ t.chassis.rx = s.chassis.rx ∧ t.chassis.content = none ∧
      t.chassis.port = (if 128 ≤ t.chassis.txErrors ∨ 128 ≤ t.chassis.rxErrors then .errorPassive else .errorActive) ∧
      (t.chassis.tx[i]).lastSent = s.time.uptime ∧ (t.chassis.tx[i]).dueAgain = false ∧
      (Steady s → (t.chassis.tx[i]).state =
        if (s.settings.tx[i]).enabled = true ∧ (s.chassis.tx[i]).dueAgain = true then .pending else .idle) := by
  obtain ⟨t, ht, hset, hr⟩ := attempt_reacted (c := .frameSent)
    (f := fun i s => putChassis (sentWell s.settings s.time.uptime i s.chassis) s) rfl hw hb hi
  have hslot := sentWell_slot s.settings s.time.uptime i s.chassis
  obtain ⟨hdue, hlast⟩ := hr.slot_at_rest (i := i) (by
    rw [show (putChassis (sentWell s.settings s.time.uptime i s.chassis) s).chassis.tx[i] = _ from hslot]
    dsimp only
    split <;> exact nofun)
  refine ⟨t, ht, by rw [hr.port]; rfl, by rw [hr.port]; rfl, by rw [hr.port]; rfl, by rw [hr.port]; rfl,
    by rw [hr.port]; rfl, hlast.trans (congrArg TxSlot.lastSent hslot), hdue.trans (congrArg TxSlot.dueAgain hslot),
    fun steady => ?_⟩
  have hch : t.chassis = (sentWell s.settings s.time.uptime i s.chassis).1 := by
    rw [hset]
    exact steady.settle_putChassis hw (portUp_of_onBus hb) rfl (portUp_withCounts _ _ _)
  rw [hch, hslot]
  simp only [Bool.and_eq_true]

/-- A slot taken back by an enabled setting is PENDING. -/
theorem backToPending_state {c : TxSettings} (x : TxSlot) (h : c.enabled = true) : (backToPending c x).state = .pending :=
  if_pos h

/-- A slot taken back is not SENDING. -/
theorem backToPending_not_sending (c : TxSettings) (x : TxSlot) : (backToPending c x).state ≠ .sending := by
  unfold backToPending
  dsimp only
  split <;> exact nofun

/-- The port after an attempt that failed (R36): its slot back to be offered again, and not due again. -/
def takenBack (c : Settings) (i : Fin 4) (ch : Chassis) : Chassis :=
  { ch with tx := ch.tx.set i { backToPending (c.tx[i]) (ch.tx[i]) with dueAgain := false }, content := none }

/-- The slot of an attempt that failed. -/
theorem takenBack_slot (c : Settings) (i : Fin 4) (ch : Chassis) :
    (takenBack c i ch).tx[i] = { backToPending (c.tx[i]) (ch.tx[i]) with dueAgain := false } := by simp [takenBack]

/-- A transmit error within the count's range (R41). -/
theorem sendFailed_counted {c : Settings} {i : Fin 4} {ch : Chassis} (h : ch.txErrors ≤ 247) :
    sendFailed c i ch = withCounts (ch.txErrors + 8) ch.rxErrors (takenBack c i ch) := if_neg (by omega)

/-- A transmit error beyond the count's range: BUS_OFF (R41, R42). -/
theorem sendFailed_bus_off {c : Settings} {i : Fin 4} {ch : Chassis} (h : 247 < ch.txErrors) :
    sendFailed c i ch = enterBusOff c.chassis.autoRecovery (takenBack c i ch) := if_pos (by omega)

/-- A transmit error adds 8 to the transmit count, and takes the slot back to be offered again (R36, R41). -/
theorem transmitError_counts {s : State} (hw : s.working = true) (hb : onBus s.chassis = true) {i : Fin 4}
    (hi : sendingSlot s.chassis = some i) (hc : s.chassis.txErrors ≤ 247) :
    ∃ t, exec .transmitError s = .next t ∧ t.chassis.txErrors = s.chassis.txErrors + 8 ∧
      t.chassis.rxErrors = s.chassis.rxErrors ∧ t.chassis.rx = s.chassis.rx ∧ t.chassis.content = none ∧
      t.chassis.port = (if 128 ≤ t.chassis.txErrors ∨ 128 ≤ t.chassis.rxErrors then .errorPassive else .errorActive) ∧
      (t.chassis.tx[i]).dueAgain = false ∧
      ((s.settings.tx[i]).enabled = true → (t.chassis.tx[i]).state = .pending) := by
  obtain ⟨t, ht, -, hr⟩ := attempt_reacted (c := .transmitError)
    (f := fun i s => putChassis (sendFailed s.settings i s.chassis) s) rfl hw hb hi
  rw [sendFailed_counted hc] at hr
  have hslot : (putChassis (withCounts (s.chassis.txErrors + 8) s.chassis.rxErrors (takenBack s.settings i s.chassis))
      s).chassis.tx[i] = { backToPending (s.settings.tx[i]) (s.chassis.tx[i]) with dueAgain := false } :=
    takenBack_slot s.settings i s.chassis
  obtain ⟨hdue, -⟩ := hr.slot_at_rest (i := i) (by
    rw [hslot]
    exact backToPending_not_sending (s.settings.tx[i]) (s.chassis.tx[i]))
  refine ⟨t, ht, by rw [hr.port]; rfl, by rw [hr.port]; rfl, by rw [hr.port]; rfl, by rw [hr.port]; rfl,
    by rw [hr.port]; rfl, hdue.trans (congrArg TxSlot.dueAgain hslot), fun he => ?_⟩
  have hp := backToPending_state (s.chassis.tx[i]) he
  rw [hr.slot_pending (by rw [hslot]; exact hp), hslot]
  exact hp

/-! ### BUS_OFF -/

/-- The port at entry to BUS_OFF (R42), and of recovery at once with auto-recovery (R43). -/
theorem enterBusOff_frame (auto : Bool) (ch : Chassis) :
    (enterBusOff auto ch).1 = { ch with
      port := if auto then .recovering else .busOff, txErrors := 255, tx := ch.tx.map txIdle, content := none
      progress := 0 } := by
  unfold enterBusOff startRecovery
  cases auto <;> rfl

/-- Off the bus the port's turns within an event leave the slots. -/
theorem PortTurns.slots_off_bus {s u t p m z : State} (h : PortTurns s u t p m z)
    (ho : u.chassis.port = .busOff ∨ u.chassis.port = .recovering) : t.chassis.tx = u.chassis.tx := by
  have hno (x : State) (hx : x.chassis.port = u.chassis.port) :
      x.chassis.port ≠ .errorActive ∧ x.chassis.port ≠ .errorPassive := by
    rw [hx]
    rcases ho with ho | ho <;> rw [ho] <;> exact ⟨nofun, nofun⟩
  obtain ⟨hp, hz, -⟩ := h.port
  obtain ⟨p1, p2⟩ := hno p hp
  obtain ⟨z1, z2⟩ := hno z hz
  rw [h.second.1, chassisReact_off_bus z1 z2, h.between.1, h.first.1, chassisReact_off_bus p1 p2, h.own.1]

/-- The throttle path after the governor's reaction is the port's (R85). -/
theorem governorReact_path (s : State) : (governorReact s).1.path = pathOf s.chassis.port s.gov.path := by
  have follow : (followPath s s.gov).1.path = pathOf s.chassis.port s.gov.path := by
    unfold followPath
    dsimp only
    split
    · next h => rw [h.1]; split <;> rfl
    · rfl
  have change (g : Governor) (n : Option DriveId) : (changeGoverned s n g).path = g.path := by
    unfold changeGoverned
    split <;> try dsimp only
    · split <;> rfl
    · split <;> rfl
    · split <;> rfl
  have leave (g : Governor) : (leaveWindDown s g).path = g.path := by
    unfold leaveWindDown
    split
    · rfl
    · split <;> rfl
  have roll (g : Governor) : (rollWithAux s g).path = g.path := by
    unfold rollWithAux
    split <;> rfl
  have stop (g : Governor) : (watchForStop s g).path = g.path := by
    unfold watchForStop
    split
    · split
      · split <;> rfl
      · rfl
    · rfl
  unfold governorReact
  dsimp only
  rw [stop, roll, leave]
  split
  · exact follow
  · rw [change]; exact follow

/-- Without its port the part has lost the throttle path (R85). -/
theorem settleWorking_path {s u : State} (ho : u.chassis.port = .busOff ∨ u.chassis.port = .recovering) :
    (settleWorking s u).gov.path = .lost := by
  let filled := settleFill s (settleBrake s u)
  let mid := settleReaders s filled
  let late := powerReact (settlePto s (powerReact mid))
  have ht : (settleWorking s u).gov.path = (governorReact late).1.path := rfl
  have hmid : mid.chassis.port = u.chassis.port := by
    have hm : mid.chassis = chassisReact s (settleLockout filled) := rfl
    rw [hm, (chassisReact_frame s _).1]
    rfl
  have hlate : late.chassis = mid.chassis := by simp only [late, powerReact_chassis, settlePto_chassis]
  rw [ht, governorReact_path, hlate, hmid]
  rcases ho with ho | ho <;> rw [ho] <;> rfl

/-- A transmit error that would take the count above 255 takes the port off the bus (R41, R42). -/
theorem transmitError_bus_off {s : State} (hw : s.working = true) (hb : onBus s.chassis = true) {i : Fin 4}
    (hi : sendingSlot s.chassis = some i) (hc : 247 < s.chassis.txErrors) :
    ∃ t, exec .transmitError s = .next t ∧ t.chassis.txErrors = 255 ∧
      t.chassis.port = (if s.settings.chassis.autoRecovery then .recovering else .busOff) ∧
      t.chassis.rx = s.chassis.rx ∧ t.chassis.progress = 0 ∧ t.gov.path = .lost ∧
      ∀ j : Fin 4, (t.chassis.tx[j]).state = .idle ∧ (t.chassis.tx[j]).dueAgain = false := by
  obtain ⟨t, ht, hset, hr⟩ := attempt_reacted (c := .transmitError)
    (f := fun i s => putChassis (sendFailed s.settings i s.chassis) s) rfl hw hb hi
  rw [sendFailed_bus_off hc] at hset hr
  generalize hu : putChassis _ s = u at hset hr
  have hch := congrArg State.chassis hu.symm
  have huw : u.working = true := by rw [← hu]; exact hw
  rw [show (putChassis _ s).chassis = _ from enterBusOff_frame _ _] at hch
  have ho : u.chassis.port = .busOff ∨ u.chassis.port = .recovering := by
    rw [hch]
    cases s.settings.chassis.autoRecovery
    · exact .inl rfl
    · exact .inr rfl
  rw [settle_working s huw] at hset
  obtain ⟨p, m, z, hturns⟩ := settleWorking_portTurns s u
  have htx : t.chassis.tx = u.chassis.tx := by
    rw [hset]
    exact hturns.slots_off_bus ho
  refine ⟨t, ht, by rw [hr.port, hch], by rw [hr.port, hch], by rw [hr.port, hch]; rfl, by rw [hr.port, hch],
    by rw [hset]; exact settleWorking_path ho, fun j => ?_⟩
  rw [htx, hch]
  simp [txIdle]

/-! ### Arbitration lost -/

/-- An arbitration lost to a frame that is not received correctly (R36). -/
theorem lostArbitration_unheard {s : State} (hw : s.working = true) (hb : onBus s.chassis = true) {i : Fin 4}
    (hi : sendingSlot s.chassis = some i) :
    ∃ t, exec (.lostArbitration none) s = .next t ∧ t.chassis.txErrors = s.chassis.txErrors ∧
      t.chassis.rxErrors = s.chassis.rxErrors ∧ t.chassis.port = s.chassis.port ∧ t.chassis.rx = s.chassis.rx ∧
      t.chassis.content = none ∧ ((s.settings.tx[i]).enabled = true → (t.chassis.tx[i]).state = .pending) := by
  obtain ⟨t, ht, -, hr⟩ := attempt_reacted (c := .lostArbitration none) (f := loseArbitration none) rfl hw hb hi
  refine ⟨t, ht, by rw [hr.port]; rfl, by rw [hr.port]; rfl, by rw [hr.port]; rfl, by rw [hr.port]; rfl,
    by rw [hr.port]; rfl, fun he => ?_⟩
  have hslot : (loseArbitration none i s).chassis.tx[i] = backToPending (s.settings.tx[i]) (s.chassis.tx[i]) := by
    simp [loseArbitration, lostTo]
  have hp := backToPending_state (s.chassis.tx[i]) he
  rw [hr.slot_pending (by rw [hslot]; exact hp), hslot]
  exact hp

/-- What a frame received leaves of the port's record, and what it counts (R41). -/
theorem receiveFrame_frame (f : BusFrame) (s : State) :
    (receiveFrame f s).chassis.txErrors = s.chassis.txErrors ∧
    (receiveFrame f s).chassis.rxErrors = s.chassis.rxErrors - 1 ∧
    (receiveFrame f s).chassis.content = s.chassis.content ∧
    ∀ i : Fin 4, (s.chassis.tx[i]).state = .pending → ((receiveFrame f s).chassis.tx[i]).state = .pending := by
  cases f with
  | data id bytes => exact ⟨rfl, rfl, rfl, fun _ h => h⟩
  | remote id =>
    unfold receiveFrame
    dsimp only
    split
    · have hcontent : (fallDue s.settings 3 s.chassis).content = s.chassis.content := by
        rw [(fallDue_frame s.settings 3 s.chassis).1]
      refine ⟨fallDue_txErrors _ _ _, congrArg (· - 1) (fallDue_rxErrors _ _ _), hcontent, fun i hi => ?_⟩
      · rcases fallDue_slots s.settings 3 s.chassis i with h | h
        · exact (congrArg TxSlot.state h).trans hi
        · exact (congrArg TxSlot.state (h.trans (slotDue_of_pending hi))).trans hi
    · exact ⟨rfl, rfl, rfl, fun _ h => h⟩

/-- An arbitration lost to a frame that goes before the one offered: that frame is received too (R28, R36). -/
theorem lostArbitration_heard {s : State} (hw : s.working = true) (hb : onBus s.chassis = true) {i : Fin 4}
    {o : OfferedFrame} {f : BusFrame} (hi : sendingSlot s.chassis = some i) (ho : s.chassis.content = some o)
    (hf : f.wf = true) (hfirst : precedes (frameId f) o.id = true) :
    ∃ t, exec (.lostArbitration (some f)) s = .next t ∧ t.chassis.txErrors = s.chassis.txErrors ∧
      t.chassis.rxErrors = s.chassis.rxErrors - 1 ∧ t.chassis.content = none ∧
      ((s.settings.tx[i]).enabled = true → (t.chassis.tx[i]).state = .pending) ∧
      (∀ id bytes v, f = .data id bytes → exec (.rxDataFrame id bytes) s = .next v → t.chassis.rx = v.chassis.rx) ∧
      (∀ id, f = .remote id → t.chassis.rx = s.chassis.rx) := by
  obtain ⟨t, ht, -, hr⟩ := attempt_reacted (c := .lostArbitration (some f)) (f := loseArbitration (some f)) rfl hw hb hi
  let lost : State := { s with chassis := lostTo s.settings i s.chassis }
  have heff : loseArbitration (some f) i s = receiveFrame f lost := by
    unfold loseArbitration
    dsimp only
    rw [show sendingId s.settings i s.chassis = o.id by unfold sendingId; rw [ho], hf, hfirst]
    rfl
  rw [heff] at hr
  obtain ⟨h1, h2, h3, h4⟩ := receiveFrame_frame f lost
  refine ⟨t, ht, by rw [hr.port]; exact h1, by rw [hr.port]; exact h2, by rw [hr.port]; exact h3, fun he => ?_, ?_, ?_⟩
  · have hp : (lost.chassis.tx[i]).state = .pending := by
      have hslot : lost.chassis.tx[i] = backToPending (s.settings.tx[i]) (s.chassis.tx[i]) := by simp [lost, lostTo]
      rw [hslot]
      exact backToPending_state _ he
    rw [hr.slot_pending (h4 i hp)]
    exact h4 i hp
  · rintro id bytes v rfl hv
    obtain ⟨v', hv', hrv⟩ := rxDataFrame_reacted id bytes s hw hb hf
    cases Host.Outcome.next.inj (hv.symm.trans hv')
    rw [hr.port, hrv.port]
    rfl
  · rintro id rfl
    rw [hr.port]
    exact (receiveRemote_frame id lost).1

/-! ### Recovery (R43) -/

/-- CHASSIS_RECOVER starts the recovery of a port in BUS_OFF, and is refused in any other state. -/
theorem chassisRecover_answers (tag : Byte) (s u : State)
    (hm : mayExecute { kind := 0x10#8, tag, payload := [] } s = true) (hu : u = takeRequest s) :
    ∃ t, exec (.chassisRecover tag) s = .next t ∧
      (s.chassis.port = .busOff → Replied tag .ok [] t ∧ t.chassis.port = .recovering ∧ t.chassis.progress = 0 ∧
        t.chassis.rx = s.chassis.rx) ∧
      (s.chassis.port ≠ .busOff → Reacted (putReply tag .refusedState [] u) t) := by
  have hr := request_reacted { kind := 0x10#8, tag, payload := [] } handleRecover s hm
  have hch : u.chassis = s.chassis := hu ▸ (takeRequest_frame s).1
  rw [← hu] at hr
  refine ⟨_, rfl, fun hp => ?_, fun hp => ?_⟩
  · have ha : handleRecover u = plain .ok (putChassis (startRecovery u.chassis) u) := if_pos (hch ▸ hp)
    rw [ha] at hr
    refine ⟨congrArg Link.reply hr.link, ?_, ?_, ?_⟩
    · exact congrArg Chassis.port hr.port
    · exact congrArg Chassis.progress hr.port
    · exact (congrArg Chassis.rx hr.port).trans (show u.chassis.rx = s.chassis.rx by rw [hch])
  · have ha : handleRecover u = plain .refusedState u := if_neg (hch ▸ hp)
    rw [ha] at hr
    exact hr

/-- A recessive run before the 128th counts 1. -/
theorem recessiveRun_counts {s : State} (hw : s.working = true) (hp : s.chassis.port = .recovering)
    (hg : s.chassis.progress < 127) : ∃ t, exec .recessiveRun s = .next t ∧
      Reacted { s with chassis := { s.chassis with progress := s.chassis.progress + 1 } } t := by
  have hr := workingEvent_reacted (fun s => putChassis (recessiveRun s.chassis) s) s hw
  have hrun : recessiveRun s.chassis = ({ s.chassis with progress := s.chassis.progress + 1 }, []) := by
    unfold recessiveRun
    split
    · exact if_neg (by omega)
    · next hno => exact absurd hp hno
  rw [hrun] at hr
  exact ⟨_, rfl, hr⟩

/-- T1 falls due as the port comes back from RECOVERING (R38). -/
theorem PortTurns.recovered {s u t p m z : State} (h : PortTurns s u t p m z) (hs : s.chassis.port = .recovering)
    (hu : u.chassis.port = .errorActive) (he : (u.settings.tx[(1 : Fin 4)]).enabled = true) :
    FallenDue (t.chassis.tx[(1 : Fin 4)]) := by
  obtain ⟨hp1, hp2, -, -⟩ := h.own
  obtain ⟨hport, -, -⟩ := h.port
  have hdue : FallenDue (z.chassis.tx[(1 : Fin 4)]) := by
    rw [h.between.1, h.first.1, chassisReact_slot1 (.inr ⟨hs, hport.trans hu⟩)
      ⟨by rw [hp2]; exact he, .inl (hport.trans hu)⟩]
    exact fallenDue_slotDue _
  rw [h.second.1]
  rcases chassisReact_slots m z 1 with hkept | hagain
  · rw [hkept]; exact hdue
  · rw [hagain]; exact fallenDue_slotDue _

/-- The 128th recessive run ends the recovery, as RECOVERY_COMPLETE does (log entry 8). -/
theorem recessiveRun_recovers {s : State} (hw : s.working = true) (hp : s.chassis.port = .recovering)
    (hg : s.chassis.progress = 127) : ∃ t, exec .recessiveRun s = .next t ∧ exec .recoveryComplete s = .next t ∧
      t.chassis.port = .errorActive ∧ t.chassis.txErrors = 0 ∧ t.chassis.rxErrors = 0 ∧ onBus t.chassis = true ∧
      t.chassis.rx = s.chassis.rx ∧
      ((s.settings.tx[(1 : Fin 4)]).enabled = true → (s.chassis.tx[(1 : Fin 4)]).state = .idle →
        (t.chassis.tx[(1 : Fin 4)]).state = .pending) := by
  let u := putChassis (endRecovery s.chassis) s
  have hrun : recessiveRun s.chassis = endRecovery s.chassis := by
    unfold recessiveRun
    split
    · exact if_pos (by omega)
    · next hno => exact absurd hp hno
  have hboth : exec .recessiveRun s = .next (settle s u) := by
    show Host.Outcome.next (workingEvent (fun s => putChassis (recessiveRun s.chassis) s) s) = _
    rw [workingEvent_settle _ hw, hrun]
  obtain ⟨t, ht, rfl, hr⟩ := guarded_reacted (c := .recoveryComplete)
    (g := fun s => s.chassis.port = .recovering ∧ s.chassis.progress = 127)
    (f := fun s => putChassis (endRecovery s.chassis) s) rfl hw ⟨hp, hg⟩
  refine ⟨_, hboth, ht, by rw [hr.port]; rfl, by rw [hr.port]; rfl, by rw [hr.port]; rfl, by rw [hr.port]; rfl,
    by rw [hr.port]; rfl, fun he hidle => ?_⟩
  obtain ⟨p, m, z, hturns⟩ := settleWorking_portTurns s u
  rw [← settle_working s (show u.working = true from hw)] at hturns
  rcases hturns.recovered hp rfl he with hpend | ⟨hsend, -⟩
  · exact hpend
  · have hu : (u.chassis.tx[(1 : Fin 4)]).state = .idle := hidle
    rcases hr.slots 1 with h | h
    · exact absurd (hsend.symm.trans ((congrArg TxSlot.state h).trans hu)) nofun
    · exact (congrArg TxSlot.state (h.trans (slotDue_of_idle hu))).trans rfl

/-- Settles O22: a change of the state is told by each event's own effect, and the counts, BUS_OFF and the recovery are those
of the commands. -/
theorem portFollowsErrorsAndRecovery : Obligations.PortFollowsErrorsAndRecovery := by
  refine ⟨?_, fun s hw hb => ⟨receiveError_counts hw hb, fun i hi => ⟨frameSent_counts hw hb hi,
      transmitError_counts hw hb hi, transmitError_bus_off hw hb hi, lostArbitration_unheard hw hb hi⟩,
      fun i o f hi ho hf hfirst => lostArbitration_heard hw hb hi ho hf hfirst⟩,
    chassisRecover_answers, fun s hw hp => ⟨recessiveRun_counts hw hp, recessiveRun_recovers hw hp⟩⟩
  rintro c s t now detail h hq rfl hp rfl
  obtain ⟨e, hmem, he⟩ := h.portEntry hq hp
  exact ⟨⟨e, hmem, he.unsent, he.kind, he.subject, he.detail⟩,
    fun hpass => ⟨e, hmem, he.unsent, he.kind, he.subject, he.detail, he.warns hpass⟩,
    fun hoff => ⟨e, hmem, he.unsent, he.alarms hoff, he.kind, he.subject⟩⟩

end Sys2Proof.Machine
end

section
/-! SUPPORT. What a completed meter write leads to (R53, R76, R164, R179, R189, R192): entry to WATCH, AWAKE as it was, or a
restart; and O16. -/

namespace Sys2Proof.Machine

/-! ### The write itself -/

/-- The part with the meters written to the memory (R53). -/
def metersWritten (m a r : Nat) (s : State) : State :=
  { s with
    nv := { s.nv with activity := .idle, meterMain := m, meterAux := a, meterRoll := r, metersIntact := true }
    time := { s.time with mainPumping := { s.time.mainPumping with written := m }
                          auxPumping := { s.time.auxPumping with written := a }
                          roll := { s.time.roll with written := r }, blockState := .valid, lastWrite := s.time.uptime } }

/-- A meter write that no STORE waits for ends with the meters written. -/
theorem finishMeterWrite_eq (m a r : Nat) {s : State} (h : s.nv.storeWaiting = false) :
    finishMeterWrite m a r s = metersWritten m a r s := if_neg (by simp [h])

/-- A meter write's completion, but for a RESTART's, is an event. -/
theorem meterWriteComplete_event {s : State} {m a r : Nat} {w : Bool} (h : s.nv.activity = .meterWrite m a r w false) :
    exec .meterWriteComplete s = .next (event (completeWrite m a r w) s) := by
  show execMeterWriteComplete s = _
  unfold execMeterWriteComplete
  rw [h]
  simp

/-- The part with its meters written and no longer on the way to WATCH. -/
def watchDropped (m a r : Nat) (s : State) : State :=
  { metersWritten m a r s with power := { s.power with watchPending := false } }

/-- The completion of the write that an entry to WATCH awaits: the entry from RUNDOWN, and from AWAKE if its conditions still
hold; else only that the write is done (R192). -/
theorem completeWrite_for_watch {s : State} (m a r : Nat) (hw : s.power.watchPending = true)
    (hn : s.nv.storeWaiting = false) :
    (s.power.state = .rundown ∨ (s.power.state = .awake ∧ awakeToWatch s = true) →
      completeWrite m a r true s = enterWatch s.power.watchCause (watchDropped m a r s)) ∧
    (s.power.state = .awake → awakeToWatch s = false → completeWrite m a r true s = watchDropped m a r s) := by
  have hc : completeWrite m a r true s = watchWriteDone (metersWritten m a r s) := by
    unfold completeWrite
    rw [finishMeterWrite_eq m a r hn]
    exact if_pos hw
  have ha : awakeToWatch (metersWritten m a r s) = awakeToWatch s := rfl
  have hp : (metersWritten m a r s).power.state = s.power.state := rfl
  rw [hc]
  unfold watchWriteDone
  refine ⟨fun h => ?_, fun h hno => ?_⟩
  · rcases h with h | ⟨h, hyes⟩
    · rw [hp, h]; rfl
    · rw [hp, h, ha, hyes]; rfl
  · rw [hp, h, ha, hno]; rfl

/-- The conditions under which AWAKE leads toward WATCH, as R190 has them. -/
theorem awakeToWatch_iff (s : State) : awakeToWatch s = true ↔
    s.level 8 = false ∧ s.drivesReleased = true ∧ s.gauge.fill.active = false ∧ s.power.silence = none := by
  simp [awakeToWatch, linkSilent, and_assoc]

/-! ### Entry to WATCH -/

/-- A drive at entry to WATCH has no timer running (R76). -/
theorem driveToWatch_noTimers (e : PtoEnv) (d : DriveId) (r : PtoRun) :
    NoTimers ((driveToWatch e d r).pto.drive d) := by
  unfold driveToWatch
  split <;> simp [PtoRun.put, PtoRun.say, NoTimers, quiet, enter]

/-- The entry of one drive leaves the other. -/
theorem driveToWatch_other (e : PtoEnv) (d : DriveId) (r : PtoRun) :
    (driveToWatch e (otherDrive d) r).pto.drive d = r.pto.drive d := by
  unfold driveToWatch
  split <;> simp [PtoRun.put, PtoRun.say]

/-- A drive at entry to WATCH posts at most PTO_REFUSED (R76). -/
theorem driveToWatch_posts (e : PtoEnv) (d : DriveId) (r : PtoRun) :
    PostsMore 1 [.ptoRefused] r (driveToWatch e d r) := by
  unfold driveToWatch
  split
  · exact .one (noticePtoRefused d (some .powerState)) rfl (by simp [noticePtoRefused]) (Nat.le_refl 1)
  · exact .none rfl

/-- Both drives at entry to WATCH. -/
theorem ptoToWatch_noTimers (e : PtoEnv) (r : PtoRun) :
    NoTimers (ptoToWatch e r).pto.main ∧ NoTimers (ptoToWatch e r).pto.aux :=
  ⟨by
    have h := driveToWatch_other e .main (driveToWatch e .main r)
    have hn := driveToWatch_noTimers e .main r
    rw [← h] at hn
    exact hn, driveToWatch_noTimers e .aux _⟩

/-- Both drives at entry to WATCH post at most two notices. -/
theorem ptoToWatch_posts_length (s : State) : (ptoToWatch (ptoEnv s) s.ptoRun).posts.length ≤ 2 := by
  obtain ⟨ns, hns, hl, -⟩ :=
    (driveToWatch_posts (ptoEnv s) .main s.ptoRun).trans (driveToWatch_posts (ptoEnv s) .aux _)
  have he : (ptoToWatch (ptoEnv s) s.ptoRun).posts = ns := hns
  rw [he]
  exact hl

/-- The line settings put in force leave the sequence number and what is being executed (R165). -/
theorem applyLine_frame (c : LinkSettings) (l : Link) :
    (applyLine c l).seq = l.seq ∧ (applyLine c l).executing = l.executing := by
  unfold applyLine
  split
  · dsimp only
    split <;> exact ⟨rfl, rfl⟩
  · exact ⟨rfl, rfl⟩

/-- The link at entry to WATCH counts its unsolicited frames from 0, and a RESTART being executed goes on (R166, log entry
38). -/
theorem linkToWatch_frame (c : LinkSettings) (l : Link) :
    (linkToWatch c l).seq = 0#8 ∧
    ∀ b, l.executing = some (.restart b) → (linkToWatch c l).executing = some (.restart b) := by
  have hexec (b : Bool) (h : l.executing = some (.restart b)) : discardStoreReply l.executing = some (.restart b) := by
    rw [h]; rfl
  unfold linkToWatch
  dsimp only
  split
  · rw [(applyLine_frame c _).1, (applyLine_frame c _).2]
    exact ⟨rfl, hexec⟩
  · exact ⟨rfl, hexec⟩

/-- No fill is active after its end (R139). -/
theorem endFill_inactive (now : Uptime) (r : FillReason) (g : TankGauge) : (endFill now r g).1.fill.active = false := by
  unfold endFill
  split
  · rfl
  · next h => simpa using h

/-- The leak watch at entry to WATCH is armed if WATER is fitted, with the last stable volume as its reference (R141). -/
theorem armLeakWatch_armed (now : Uptime) (g : TankGauge) :
    (armLeakWatch now g).leak = false ∧ ((armLeakWatch now g).armed = true ↔ g.water.state ≠ .absent) ∧
    ((armLeakWatch now g).armed = true → (armLeakWatch now g).reference = g.water.lastStable) := by
  unfold armLeakWatch
  split
  · next h => exact ⟨rfl, by simp [leakStart, h], by simp [leakStart]⟩
  · next h => exact ⟨rfl, by simp [h], fun _ => rfl⟩

/-- A notice posted to a queue with room waits in it, with its detail (R181). -/
theorem postNotice_noticeWaits (now : Uptime) (q : NoticeQueue) (n : Notice) (hl : q.entries.length < queueCapacity) :
    NoticeWaits n.kind n.subject n.detail (postNotice now q n) := by
  rcases postNotice_cases now q n with ⟨a, x, b, -, hx, hp⟩ | ⟨-, ⟨-, hp⟩ | ⟨h, -⟩ | ⟨h, -⟩⟩
  · simp only [entryMatches, Bool.and_eq_true, Bool.not_eq_true', decide_eq_true_eq] at hx
    obtain ⟨⟨hsend, hkind⟩, hsub⟩ := hx
    exact ⟨coalesced now n x, by rw [hp]; simp, hsend, hkind, hsub, rfl⟩
  · exact ⟨newEntry now n, by rw [hp]; simp, rfl, rfl, rfl, rfl⟩
  · omega
  · omega

/-- POWER_STATE is the last of an entry to WATCH's notices, and finds room in a queue that has it left (R192). -/
theorem enterWatch_posts (cause : PowerCause) (s : State) : ∃ q,
    (RoomLeft s.notices → q.entries.length < queueCapacity) ∧
    (enterWatch cause s).notices = postNotice s.time.uptime q (noticePowerState .watch cause) := by
  let first := (endFill s.time.uptime .power s.gauge).2 ++ (ptoToWatch (ptoEnv s) s.ptoRun).posts
  refine ⟨postAll s.time.uptime s.notices first, fun hroom => ?_, ?_⟩
  · have hlen := postAll_length s.time.uptime s.notices first
    have hfill := (endFill_posts s.time.uptime .power s.gauge).1
    have hpto := ptoToWatch_posts_length s
    have hfirst : first.length ≤ 3 := by
      simp only [first, List.length_append]
      omega
    unfold RoomLeft at hroom
    exact show _ < 32 by omega
  · exact postAll_append s.time.uptime s.notices first [noticePowerState .watch cause]

/-- POWER_STATE after an entry to WATCH: waiting with its cause, a WARNING for RUNDOWN_TIMEOUT. -/
theorem enterWatch_told (cause : PowerCause) {s : State} (hroom : RoomLeft s.notices) {detail : List Byte}
    (hd : detail = [BitVec.ofNat 8 (powerStateCode .watch), BitVec.ofNat 8 (powerCauseCode cause)]) :
    NoticeWaits .powerState 0 detail (enterWatch cause s).notices ∧
    (cause = .rundownTimeout → WarningWaits .powerState 0 detail (enterWatch cause s).notices) := by
  obtain ⟨q, hq, hn⟩ := enterWatch_posts cause s
  have hdetail : detail = (noticePowerState .watch cause).detail := hd
  rw [hn, hdetail]
  refine ⟨postNotice_noticeWaits _ q _ (hq hroom), fun hc => ?_⟩
  exact postNotice_warningWaits _ q (noticePowerState .watch cause) (by rw [hc]; exact nofun) (hq hroom)

/-- Outside AWAKE and RUNDOWN only the outputs follow an event. -/
theorem settle_not_working (s : State) {u : State} (h : u.working = false) : settle s u = refreshOutputs u :=
  if_neg (by rw [h]; exact nofun)

/-- A command that leaves a part with supply in WATCH has nothing follow within the event but the outputs, which are off. -/
theorem settle_watch (s : State) {u : State} (h : u.power.state = .watch) (hl : u.gauge.leak.leak = false) :
    settle s u = { u with outputs := outputsOff } := by
  have hw : u.working = false := by simp [State.working, working, h]
  rw [settle_not_working s hw]
  unfold refreshOutputs outputsOf
  simp [hw, hl, outputsOff]

/-! ### AWAKE as it was -/

/-- In AWAKE with the drives released the power controller does nothing unless every condition of the way to WATCH holds
(R190). -/
theorem powerReact_waits {s : State} (ha : s.power.state = .awake) (hd : s.drivesReleased = true)
    (hno : s.power.silence ≠ none ∨ s.gauge.fill.active = true) : powerReact s = s := by
  have hw : awakeToWatch s = false := by
    rw [Bool.eq_false_iff, ne_eq, awakeToWatch_iff]
    rintro ⟨-, -, hf, hs⟩
    rcases hno with h | h
    · exact h hs
    · exact absurd (hf.symm.trans h) (by decide)
  unfold powerReact
  rw [ha, hd, hw]
  simp

/-- The sequencer's reaction leaves released drives released. -/
theorem settlePto_drivesReleased (b s : State) (h : s.drivesReleased = true) :
    (settlePto b s).drivesReleased = true := by
  have keep (d : DriveId) (fb : Bool) (hd : driveReleased (s.pto.drive d) fb = true) :
      driveReleased ((ptoReact b s).pto.drive d) fb = true := by
    have hrest : inert (s.pto.drive d) := by
      simp only [driveReleased, Bool.or_eq_true, Bool.and_eq_true, decide_eq_true_eq] at hd
      rcases hd with hd | ⟨hd, -⟩ <;> exact ⟨by rw [hd]; decide, by rw [hd]; decide⟩
    rw [ptoReact_inert b s d hrest]
    exact hd
  simp only [State.drivesReleased, Bool.and_eq_true] at h ⊢
  obtain ⟨hm, ha⟩ := h
  exact ⟨keep .main _ hm, keep .aux _ ha⟩

/-- The fill of a part whose channels have not changed and whose vehicle stands goes on (R139). -/
theorem fillReact_goes_on {b s : State} (hi : s.inputs.analog = b.inputs.analog) (hv : s.vehicle = .stationary) :
    fillReact b s = (s.gauge, []) := by
  have hlost : bothWaterLost s.inputs = bothWaterLost b.inputs := by unfold bothWaterLost; rw [hi]
  unfold fillReact State.stationary
  rw [hlost, hv]
  simp

/-- The power record of a part that goes on in AWAKE through an event: its drives released, and a frame heard or a fill active
at a standing vehicle. -/
theorem settle_power_waits {b s : State} (hw : s.working = true) (ha : s.power.state = .awake)
    (hd : s.drivesReleased = true) (hi : s.inputs.analog = b.inputs.analog)
    (hno : s.power.silence ≠ none ∨ (s.gauge.fill.active = true ∧ s.vehicle = .stationary)) :
    (settle b s).power = s.power := by
  let mid := settleReaders b (settleFill b (settleBrake b s))
  have hno' : mid.power.silence ≠ none ∨ mid.gauge.fill.active = true := by
    refine hno.imp id fun ⟨hf, hv⟩ => ?_
    have hgauge : mid.gauge = s.gauge :=
      congrArg Prod.fst (fillReact_goes_on (b := b) (s := settleBrake b s) hi hv)
    rw [hgauge]
    exact hf
  have hmid : mid.drivesReleased = true := hd
  have h1 : powerReact mid = mid := powerReact_waits (s := mid) ha hmid hno'
  have h2 : powerReact (settlePto b mid) = settlePto b mid :=
    powerReact_waits (s := settlePto b mid) ha (settlePto_drivesReleased b mid hmid) hno'
  have ht : settleWorking b s = settleMonitors mid (refreshOutputs (settleChassis mid
      (settleLockout (settleProtection b (governed b mid))))) := rfl
  have hmidp : mid.power = s.power := rfl
  rw [settle_working b hw, ht]
  simp only [settleMonitors_power, refreshOutputs_power, settleChassis_power, settleLockout_power, settleProtection_power,
    governed, settleGovernor_power, h1, h2, settlePto_power, hmidp]

/-! ### A restart -/

/-- The notices of a restart: LINK_READY, and SETTINGS_DEFAULTED where the stored copy is bad (R179, R185). -/
theorem restartNotices (now : Uptime) (n : NonVolatile) :
    (postAll now { entries := [], lost := false } (noticeLinkReady .restart :: defaultsNotice n)).entries.map
      (fun e => (e.kind, e.detail)) =
    [(.linkReady, u8 1)] ++ (if n.storedIntact then [] else [(.settingsDefaulted, [])]) := by
  unfold defaultsNotice
  cases n.storedIntact <;> rfl

/-- The completion of a RESTART's meter write restarts the part (R183, R185, R189). -/
theorem restartPart_restarted (m a r : Nat) (s : State) :
    Restarted s (refreshOutputs (restartPart (metersWritten m a r s))) :=
  { pending := rfl, settings := rfl, uptime := rfl, remainder := rfl, stores := rfl, awake := rfl, entered := rfl
    notices := restartNotices s.time.uptime s.nv
    drives := rfl, inputs := rfl, chassis := rfl, gov := rfl, prot := rfl, gauge := rfl, lock := rfl, link := rfl }

/-- What a RESTART's meter write leads to, by the power state (R48, R189). -/
theorem meterWriteComplete_restart {s : State} {m a r : Nat} {w : Bool}
    (h : s.nv.activity = .meterWrite m a r w true) (hs : s.powered = true) (hn : s.nv.storeWaiting = false) :
    (s.power.state ≠ .waking →
      exec .meterWriteComplete s = .next (refreshOutputs (restartPart (metersWritten m a r s)))) ∧
    (s.power.state = .waking →
      exec .meterWriteComplete s = .next (refreshOutputs (awaitSettling (metersWritten m a r s)))) := by
  have hexec : exec .meterWriteComplete s = .next (if s.power.state = .waking then
      event (fun s => awaitSettling (finishMeterWrite m a r s)) s
      else refreshOutputs (restartPart (finishMeterWrite m a r s))) := by
    show execMeterWriteComplete s = _
    unfold execMeterWriteComplete
    rw [h]
    simp [hs]
  rw [hexec, finishMeterWrite_eq m a r hn]
  refine ⟨fun hp => by rw [if_neg hp], fun hp => ?_⟩
  have hw : (awaitSettling (metersWritten m a r s)).working = false := by
    have hp' : (metersWritten m a r s).power.state = .waking := hp
    simp [State.working, working, hp']
  rw [if_pos hp]
  unfold event
  dsimp only
  rw [if_pos hs, finishMeterWrite_eq m a r hn, settle_not_working s hw]

/-! ### What the write for an entry to WATCH leads to -/

/-- The write that an entry to WATCH awaits completes and the part enters WATCH (R192). -/
theorem meterWriteComplete_enters {s : State} {m a r : Nat} (hs : s.powered = true)
    (h : s.nv.activity = .meterWrite m a r true false) (hn : s.nv.storeWaiting = false)
    (hw : s.power.watchPending = true)
    (hp : s.power.state = .rundown ∨ (s.power.state = .awake ∧ awakeToWatch s = true)) :
    exec .meterWriteComplete s =
      .next { enterWatch s.power.watchCause (watchDropped m a r s) with outputs := outputsOff } := by
  have hleak : (enterWatch s.power.watchCause (watchDropped m a r s)).gauge.leak.leak = false :=
    (armLeakWatch_armed s.time.uptime (endFill s.time.uptime .power s.gauge).1).1
  rw [meterWriteComplete_event h]
  unfold event
  rw [if_pos hs, (completeWrite_for_watch m a r hw hn).1 hp, settle_watch s rfl hleak]

/-- A write whose activity is idle is over. -/
theorem writeCarried_idle {a : NvActivity} (h : writeCarried a = writeCarried .idle) : a = .idle := by
  cases a <;> cases h
  rfl

/-- The write that an entry to WATCH awaits completes, and the part goes on as its conditions no longer hold (R192). -/
theorem meterWriteComplete_goes_on {s : State} {m a r : Nat} (hs : s.powered = true)
    (h : s.nv.activity = .meterWrite m a r true false) (hn : s.nv.storeWaiting = false)
    (hw : s.power.watchPending = true) (hp : s.power.state = .awake) (hno : awakeToWatch s = false) :
    ∃ t, exec .meterWriteComplete s = .next t ∧ t.power.state ≠ .watch ∧ t.nv.meterMain = m ∧
      t.nv.metersIntact = true ∧ t.nv.activity = .idle ∧ t.settings = s.settings ∧
      (s.level 8 = true ∨ (s.drivesReleased = true ∧
          (s.power.silence ≠ none ∨ (s.gauge.fill.active = true ∧ s.vehicle = .stationary))) →
        t.power.state = .awake ∧ t.power.watchPending = false) := by
  let u := watchDropped m a r s
  have hu : u.working = true := by
    have hu1 : u.powered = true := hs
    have hu2 : u.power.state = .awake := hp
    simp [State.working, working, hu1, hu2]
  have hexec : exec .meterWriteComplete s = .next (settle s u) := by
    rw [meterWriteComplete_event h]
    unfold event
    rw [if_pos hs, (completeWrite_for_watch m a r hw hn).2 hp hno]
  have hr := reacted_settle s u
  refine ⟨_, hexec, fun hwatch => ?_, by rw [hr.memory]; rfl, by rw [hr.memory]; rfl, writeCarried_idle hr.writing,
    hr.settings, fun hstay => ?_⟩
  · have hwork := hr.working.trans hu
    simp [State.working, working, hwatch] at hwork
  · have hkept : (settle s u).power = u.power := by
      rcases hstay with h8 | ⟨hd, hwait⟩
      · exact (hr.ignited ⟨hs, hp, h8⟩).1
      · exact settle_power_waits hu hp hd rfl hwait
    rw [hkept]
    exact ⟨hp, rfl⟩

/-- Settles O16, by what each awaited write leads to: an entry to WATCH, AWAKE as it was, or a restart. -/
theorem meterWriteCompletionGoesOn : Obligations.MeterWriteCompletionGoesOn := by
  refine ⟨?_, ?_⟩
  · intro s m a r enters hs h hn hw henters
    have hiff : enters = true ↔ s.power.state = .rundown ∨ (s.power.state = .awake ∧ awakeToWatch s = true) := by
      rw [henters, awakeToWatch_iff]
    refine ⟨fun he => ?_, fun hp he => ?_⟩
    · let v := watchDropped m a r s
      have hexec := meterWriteComplete_enters hs h hn hw (hiff.mp he)
      obtain ⟨hleak, harmed, href⟩ := armLeakWatch_armed s.time.uptime (endFill s.time.uptime .power s.gauge).1
      obtain ⟨hmain, haux⟩ := ptoToWatch_noTimers (ptoEnv v) v.ptoRun
      obtain ⟨hseq, hrestart⟩ := linkToWatch_frame s.settings.link s.link
      refine ⟨_, hexec, rfl, rfl, rfl, rfl, rfl, rfl, rfl, rfl, hseq, endFill_inactive s.time.uptime .power s.gauge, rfl, hleak,
        harmed, href, hmain, haux, rfl, rfl, rfl, rfl, rfl, rfl, rfl, fun hroom detail hd => ?_, hrestart⟩
      exact enterWatch_told s.power.watchCause (s := v) hroom hd
    · have hno : awakeToWatch s = false := by
        rw [Bool.eq_false_iff]
        intro hyes
        exact absurd (he.symm.trans (hiff.mpr (.inr ⟨hp, hyes⟩))) (by decide)
      exact meterWriteComplete_goes_on hs h hn hw hp hno
  · rintro s m a r w time hs h hn rfl
    obtain ⟨hrestart, hwaits⟩ := meterWriteComplete_restart h hs hn
    exact ⟨fun hp => ⟨_, hrestart hp, restartPart_restarted m a r s, rfl⟩,
      fun hp => ⟨_, hwaits hp, rfl, (reacted_refreshOutputs (awaitSettling (metersWritten m a r s))).le (by omega)⟩⟩

end Sys2Proof.Machine
end

section
/-! SUPPORT. The outputs as the records say (R57, R109 to R111, R137, R143, R157, R190), and O5: every command ends with the
outputs refreshed, or leaves them with the records they follow. -/

namespace Sys2Proof.Machine

/-! ### The outputs and the records -/

/-- A drive's solenoid is energised in the four states of R57. -/
theorem solenoidOn_iff (st : DriveState) :
    solenoidOn st = true ↔ st ∈ [DriveState.shifting, .settling, .engaged, .windingDown] := by
  cases st <;> decide

/-- The lamp is lit by an enabled condition that is ACTIVE, or by a faulted discharge or intake channel (R111). -/
theorem lampLit_iff (c : ProtSettings) (p : Protection) (i : Inputs) :
    lampLit c p i = true ↔ (∃ k : Fin 5, c.enabled[k] = true ∧ (p.conds[k]).state = .active) ∨
      (i.analog[(0 : Fin 10)]).state = .fault ∨ (i.analog[(1 : Fin 10)]).state = .fault ∨
      (i.analog[(2 : Fin 10)]).state = .fault := by
  have hany : anyActive c p.conds = true ↔ ∃ k : Fin 5, c.enabled[k] = true ∧ (p.conds[k]).state = .active := by
    simp [anyActive, lowestActive, condActive]
  simp only [lampLit, Bool.or_eq_true, hany, decide_eq_true_eq, or_assoc]

/-- A working part is AWAKE or in RUNDOWN. -/
theorem working_iff (s : State) :
    s.working = true ↔ s.powered = true ∧ (s.power.state = .awake ∨ s.power.state = .rundown) := by
  simp [State.working, working]

/-- The outputs stand as their owners' rules say when they are those the records give. -/
theorem outputsSound_of_eq {s : State} (h : s.outputs = outputsOf s) : OutputsSound s := by
  unfold outputsOf at h
  split at h
  · next hw =>
    obtain ⟨hp, -⟩ := (working_iff s).mp hw
    exact
      { o0 := by rw [h, solenoidOn_iff]; simp [hw]
        o1 := by rw [h, solenoidOn_iff]; simp [hw]
        o2 := by rw [h]; simp [permit, hp, and_comm]
        o3 := by rw [h]; simp [hw]
        o4 := by rw [h]; simp [hw, dumpOpen]
        o5 := by rw [h]; simp [hw]
        o6 := by rw [h, lampLit_iff]; simp only [hw, true_and]
        o7 := by rw [h]; simp [hw] }
  · next hw =>
    have hw' : s.working = false := by simpa using hw
    have hawake (hp : s.powered = true) : s.power.state ≠ .awake := fun ha => hw ((working_iff s).mpr ⟨hp, .inl ha⟩)
    exact
      { o0 := by rw [h]; simp [hw', outputsOff]
        o1 := by rw [h]; simp [hw', outputsOff]
        o2 := by rw [h]; simp only [outputsOff]; exact ⟨nofun, fun ⟨hp, ha, _⟩ => absurd ha (hawake hp)⟩
        o3 := by rw [h]; simp [hw', outputsOff]
        o4 := by rw [h]; simp [hw', outputsOff]
        o5 := by rw [h]; simp [hw', outputsOff]
        o6 := by rw [h]; simp [hw', outputsOff]
        o7 := by rw [h]; simp [hw'] }

/-! ### The end of each command -/

/-- What follows an event ends with the outputs refreshed. -/
theorem settle_outputs (s u : State) : (settle s u).outputs = outputsOf (settle s u) := by
  unfold settle
  split <;> rfl

/-- An event keeps the outputs sound: it refreshes them, or without supply does nothing. -/
theorem event_outputsSound {f : State → State} {s : State} (h : OutputsSound s) : OutputsSound (event f s) := by
  unfold event
  split
  · exact outputsSound_of_eq (settle_outputs s (f s))
  · exact h

/-- Refreshed outputs are sound. -/
theorem outputsSound_refreshOutputs (s : State) : OutputsSound (refreshOutputs s) := outputsSound_of_eq rfl

/-- A loss of supply leaves every output off, and they are sound so. -/
theorem outputsSound_loseSupply (s : State) : OutputsSound (loseSupply s) :=
  outputsSound_of_eq (by simp [outputsOf, loseSupply, State.working, outputsOff])

/-- Every command keeps the outputs sound. -/
theorem exec_outputsSound (c : Instr) (s t : State) (hs : OutputsSound s) (h : exec c s = .next t) :
    OutputsSound t := by
  cases hc : mayStart c
  · rcases exec_portKept c s t hc h with rfl | ⟨u, -, rfl⟩
    · exact hs
    · exact outputsSound_of_eq (settle_outputs s u)
  · match c with
    | .powerOn => cases h; exact outputsSound_refreshOutputs _
    | .lossOfSupply => cases h; exact outputsSound_loseSupply s
    | .settlingEnd =>
      cases h
      split
      · exact outputsSound_refreshOutputs _
      · exact hs
    | .meterWriteComplete =>
      cases h
      split
      · split
        · split
          · exact event_outputsSound hs
          · exact outputsSound_refreshOutputs _
        · exact event_outputsSound hs
      · exact hs

/-- Settles O5, by the command that the step takes from the queue. -/
theorem stepKeepsOutputsSound : Obligations.StepKeepsOutputsSound := by
  intro s t hs h
  unfold step at h
  split at h
  · cases h; exact hs
  · refine exec_outputsSound _ _ t ?_ h
    exact { hs with }

end Sys2Proof.Machine
end

section
/-! SUPPORT. What the sequencer's operations make of the drives (R58 to R74): the one shift stays with one drive, a drive comes to
SHIFTING and SETTLING on its conditions alone, and leaves WINDING_DOWN without a waiver on R67's alone. -/

namespace Sys2Proof.Machine

/-! ### The two drives -/

/-- A drive is the one or the other. -/
theorem drive_eq_or_other (k d : DriveId) : d = k ∨ d = otherDrive k := by cases k <;> cases d <;> simp [otherDrive]

/-- The other's other is the drive itself. -/
@[simp] theorem otherDrive_otherDrive (d : DriveId) : otherDrive (otherDrive d) = d := by cases d <;> rfl

/-- A run of the sequencer with one drive replaced, and with one notice more. -/
@[simp] theorem PtoRun.put_pto (r : PtoRun) (d : DriveId) (x : Drive) : (r.put d x).pto = r.pto.setDrive d x := rfl
@[simp] theorem PtoRun.say_pto (r : PtoRun) (n : Notice) : (r.say n).pto = r.pto := rfl

/-! ### The records of a drive that enters a state -/

/-- A drive as it enters DISENGAGED (R72). -/
def disengagedDrive (e : PtoEnv) (d : DriveId) (x : Drive) : Drive :=
  { enter e .disengaged x with
    uncommanded := if e.fb d then (if x.uncommanded.isSome then x.uncommanded else startTimer e.now uncommandedMs)
                   else none }

/-- A drive as it enters RELEASING (R68). -/
def releasingDrive (e : PtoEnv) (x : Drive) : Drive :=
  { enter e .releasing x with release := startTimer e.now e.cfg.releaseLimit }

/-- A drive as it enters WINDING_DOWN (R67). -/
def windingDrive (e : PtoEnv) (waiver : Bool) (x : Drive) : Drive :=
  { enter e .windingDown x with
    waiver := waiver, windDown := startTimer e.now windDownNoticeMs, recheck := startTimer e.now recheckMs }

/-- A drive as it enters SETTLING (R64). -/
def settlingDrive (e : PtoEnv) (x : Drive) : Drive :=
  { enter e .settling x with settle := startTimer e.now (orShortest 10 e.cfg.settleTime) }

/-- A drive as it enters SHIFTING (R63). -/
def shiftingDrive (e : PtoEnv) (x : Drive) : Drive :=
  { enter e .shifting x with shiftStart := e.now, shift := startTimer e.now e.cfg.shiftLimit, uncommanded := none }

/-- A drive as it enters ENGAGED (R64, R65). -/
def engagedDrive (e : PtoEnv) (d : DriveId) (x : Drive) : Drive := { enter e .engaged x with ready := turning e d }

section
variable (e : PtoEnv) (d : DriveId) (r : PtoRun)

theorem enterFault_eq (c : DriveCause) : enterFault e d c r =
    (r.put d (faultedDrive e.now c (r.pto.drive d))).say (noticePtoFault d c (r.pto.drive d).state) := rfl

theorem enterDisengaged_eq : enterDisengaged e d r = r.put d (disengagedDrive e d (r.pto.drive d)) := rfl

theorem enterReleasing_eq : enterReleasing e d r =
    if e.fb d then r.put d (releasingDrive e (r.pto.drive d))
    else (r.put d (disengagedDrive e d (r.pto.drive d))).say (noticePtoDisengaged d) := rfl

theorem enterWindingDown_eq (w : Bool) : enterWindingDown e d w r = r.put d (windingDrive e w (r.pto.drive d)) := rfl

theorem enterSettling_eq : enterSettling e d r =
    releaseInRundown e d (r.put d (settlingDrive e (r.pto.drive d))) := rfl

theorem enterShifting_eq : enterShifting e d r =
    if e.fb d then enterSettling e d (r.put d (shiftingDrive e (r.pto.drive d)))
    else r.put d (shiftingDrive e (r.pto.drive d)) := rfl

theorem enterEngaged_eq : enterEngaged e d r = r.put d (engagedDrive e d (r.pto.drive d)) := rfl

end

/-! ### The arbitration -/

/-- At most one of two drive records holds the shift (R58). -/
def ShiftFree (p : Pto) : Prop := ∀ d, holdsShift (p.drive d) = true → holdsShift (p.drive (otherDrive d)) = false

/-- The state's one shift is that of its drive records. -/
theorem oneShift_iff (s : State) : OneShift s ↔ ShiftFree s.pto := by
  have hm := holdsShift_iff s .aux
  have ha := holdsShift_iff s .main
  have hand : OneShift s ↔ ¬ (OtherShifts s .aux ∧ OtherShifts s .main) := Iff.rfl
  rw [hand, ← hm, ← ha]
  refine ⟨fun h d hd => ?_, fun h ⟨h1, h2⟩ => ?_⟩
  · cases d
    · exact Bool.eq_false_iff.mpr fun h2 => h ⟨hd, h2⟩
    · exact Bool.eq_false_iff.mpr fun h2 => h ⟨h2, hd⟩
  · exact absurd h2 (by rw [show holdsShift (s.pto.drive (otherDrive .main)) = false from h .main h1]; decide)

/-- Every condition of R60 and R61 on a drive's shift is met, but for the other drive's shift. -/
def Eligible (e : PtoEnv) (d : DriveId) : Prop := ∃ p, engageReason e p d = none

/-- The engine and, for MAIN, the gear let a drive go as R67 asks. -/
def SlowEnough (e : PtoEnv) (d : DriveId) : Prop := engineSlow e = true ∧ (d = .main → e.gear = some 0)

/-- What a run of the sequencer keeps of the arbitration (R58, R60, R61): one shift at most, and SHIFTING and SETTLING entered
by an eligible drive alone. -/
structure Lawful (e : PtoEnv) (p p' : Pto) : Prop where
  oneShift : ShiftFree p → ShiftFree p'
  starts : ∀ d, (p.drive d).state ∉ [DriveState.shifting, .settling] →
    (p'.drive d).state ∈ [DriveState.shifting, .settling] → Eligible e d
  shifts : ∀ d, (p.drive d).state ≠ .shifting → (p'.drive d).state = .shifting → ShiftFree p'

/-- Nothing done is lawful. -/
theorem Lawful.refl (e : PtoEnv) (p : Pto) : Lawful e p p := ⟨id, fun _ h h' => absurd h' h, fun _ h h' => absurd h' h⟩

/-- Lawful runs follow one another. -/
theorem Lawful.trans {e : PtoEnv} {p q r : Pto} (h : Lawful e p q) (g : Lawful e q r) : Lawful e p r where
  oneShift := g.oneShift ∘ h.oneShift
  starts d hp hr := by
    by_cases hq : (q.drive d).state ∈ [DriveState.shifting, .settling]
    · exact h.starts d hp hq
    · exact g.starts d hq hr
  shifts d hp hr := by
    by_cases hq : (q.drive d).state = .shifting
    · exact g.oneShift (h.shifts d hp hq)
    · exact g.shifts d hq hr

/-- One drive replaced is lawful by what becomes of that drive. -/
theorem Lawful.put {e : PtoEnv} {p : Pto} {k : DriveId} {x : Drive}
    (holds : holdsShift x = true → holdsShift (p.drive k) = true ∨ holdsShift (p.drive (otherDrive k)) = false)
    (starts : (p.drive k).state ∉ [DriveState.shifting, .settling] → x.state ∈ [DriveState.shifting, .settling] →
      Eligible e k)
    (shifts : (p.drive k).state ≠ .shifting → x.state = .shifting → holdsShift (p.drive (otherDrive k)) = false) :
    Lawful e p (p.setDrive k x) where
  oneShift h d hd := by
    rcases drive_eq_or_other k d with rfl | rfl
    · rw [drive_setDrive] at hd
      rw [drive_setDrive_other']
      rcases holds hd with hx | hx
      · exact h d hx
      · exact hx
    · rw [drive_setDrive_other'] at hd
      rw [otherDrive_otherDrive, drive_setDrive]
      refine Bool.eq_false_iff.mpr fun hx => ?_
      rcases holds hx with hk | hk
      · rw [h k hk] at hd; cases hd
      · rw [hk] at hd; cases hd
  starts d hp hx := by
    rcases drive_eq_or_other k d with rfl | rfl
    · rw [drive_setDrive] at hx; exact starts hp hx
    · rw [drive_setDrive_other'] at hx; exact absurd hx hp
  shifts d hp hx := by
    rcases drive_eq_or_other k d with rfl | rfl
    · rw [drive_setDrive] at hx
      have ho := shifts hp hx
      intro d' hd'
      rcases drive_eq_or_other d d' with rfl | rfl
      · rw [drive_setDrive_other']; exact ho
      · rw [drive_setDrive_other', ho] at hd'; cases hd'
    · rw [drive_setDrive_other'] at hx; exact absurd hx hp

/-- A drive's state that neither holds the shift nor comes of it. -/
def calm (st : DriveState) : Prop := st ∉ [DriveState.shifting, .settling, .releasing]

/-- A drive put in a calm state is lawful. -/
theorem Lawful.put_calm {e : PtoEnv} {p : Pto} {k : DriveId} {x : Drive} (h : calm x.state) :
    Lawful e p (p.setDrive k x) := by
  simp only [calm, List.mem_cons, List.not_mem_nil, or_false, not_or] at h
  obtain ⟨h1, h2, h3⟩ := h
  exact .put (by simp [holdsShift, h1, h3]) (by simp [h1, h2]) (fun _ hx => absurd hx h1)

/-- A drive whose record changes in its state's clothes alone is lawful. -/
theorem Lawful.put_same {e : PtoEnv} {p : Pto} {k : DriveId} {x : Drive} (h : x.state = (p.drive k).state) :
    Lawful e p (p.setDrive k x) :=
  .put (by simp only [holdsShift, h]; exact .inl) (by rw [h]; exact fun h1 h2 => absurd h2 h1)
    (by rw [h]; exact fun h1 h2 => absurd h2 h1)

/-! ### The sequencer's operations are lawful -/

section
variable {e : PtoEnv} {d : DriveId} {r : PtoRun}

theorem lawful_enterDisengaged : Lawful e r.pto (enterDisengaged e d r).pto := .put_calm (by simp [enter, calm])

theorem lawful_enterFault {c : DriveCause} : Lawful e r.pto (enterFault e d c r).pto := .put_calm (by simp [enter, calm])

theorem lawful_enterWindingDown {w : Bool} : Lawful e r.pto (enterWindingDown e d w r).pto :=
  .put_calm (by simp [enter, calm])

theorem lawful_enterEngaged : Lawful e r.pto (enterEngaged e d r).pto := .put_calm (by simp [enter, calm])

/-- A drive released has the shift already, or the other has not (R58). -/
theorem lawful_enterReleasing
    (h : holdsShift (r.pto.drive d) = true ∨ holdsShift (r.pto.drive (otherDrive d)) = false) :
    Lawful e r.pto (enterReleasing e d r).pto := by
  unfold enterReleasing
  split
  · exact .put (fun _ => h) (by simp [enter]) (by simp [enter])
  · exact lawful_enterDisengaged

/-- The release of R58 waits where the other drive has the shift. -/
theorem lawful_releaseDrive : Lawful e r.pto (releaseDrive e d r).pto := by
  unfold releaseDrive
  split
  · exact lawful_enterWindingDown
  · next h => exact lawful_enterReleasing (.inr (by simpa using h))

theorem lawful_releaseInRundown : Lawful e r.pto (releaseInRundown e d r).pto := by
  unfold releaseInRundown
  split
  · exact lawful_releaseDrive
  · exact .refl e r.pto

/-- A drive settles out of SHIFTING, or as an eligible drive with its feedback on (R63, R64). -/
theorem lawful_enterSettling (h : (r.pto.drive d).state = .shifting ∨ Eligible e d) :
    Lawful e r.pto (enterSettling e d r).pto := by
  have hput : Lawful e r.pto (r.put d (settlingDrive e (r.pto.drive d))).pto := by
    refine .put (by simp [settlingDrive, enter, holdsShift]) (fun hx _ => ?_) (by simp [settlingDrive, enter])
    rcases h with h | h
    · simp [h] at hx
    · exact h
  rw [enterSettling_eq]
  exact hput.trans lawful_releaseInRundown

/-- An eligible drive shifts while the other has not the shift (R58, R63). -/
theorem lawful_enterShifting (h : Eligible e d) (ho : holdsShift (r.pto.drive (otherDrive d)) = false) :
    Lawful e r.pto (enterShifting e d r).pto := by
  have hput : Lawful e r.pto (r.put d (shiftingDrive e (r.pto.drive d))).pto :=
    .put (fun _ => .inr ho) (fun _ _ => h) (fun _ _ => ho)
  rw [enterShifting_eq]
  split
  · exact hput.trans (lawful_enterSettling (.inr h))
  · exact hput

/-- A check that lets a drive go found the other without the shift (R67). -/
theorem mayRelease_other {p : Pto} (h : mayRelease e p d = true) : holdsShift (p.drive (otherDrive d)) = false := by
  simp only [mayRelease, releaseReason, Bool.and_eq_true, decide_eq_true_eq] at h
  obtain ⟨-, h⟩ := h
  split at h
  · cases h
  · split at h
    · cases h
    · split at h
      · cases h
      · next ho => simpa using ho

/-- A check that lets a drive shift found it eligible and the other without the shift (R60, R61). -/
theorem mayShift_eligible {p : Pto} (h : mayShift e p d = true) :
    Eligible e d ∧ holdsShift (p.drive (otherDrive d)) = false := by
  simp only [mayShift, Bool.and_eq_true, decide_eq_true_eq] at h
  obtain ⟨-, h⟩ := h
  refine ⟨⟨p, h⟩, Bool.eq_false_iff.mpr fun ho => ?_⟩
  cases d
  · have ho' : holdsShift p.aux = true := ho
    simp only [engageReason, ho', if_true] at h
    repeat' split at h
    all_goals cases h
  · have ho' : holdsShift p.main = true := ho
    simp only [engageReason, ho', if_true] at h
    repeat' split at h
    all_goals cases h

end

section
variable {e : PtoEnv}

/-- The arbitration lets go and shifts as R58 says. -/
theorem lawful_arbitrate {m a : Bool} {r r' : PtoRun} (h : arbitrate e m a r = some r') : Lawful e r.pto r'.pto := by
  unfold arbitrate at h
  split at h
  · next hc =>
    cases h
    exact lawful_enterReleasing (.inr (mayRelease_other (Bool.and_eq_true_iff.mp hc).2))
  · split at h
    · next hc =>
      cases h
      exact lawful_enterReleasing (.inr (mayRelease_other (Bool.and_eq_true_iff.mp hc).2))
    · split at h
      · next hc =>
        cases h
        obtain ⟨he, ho⟩ := mayShift_eligible (Bool.and_eq_true_iff.mp hc).2
        exact lawful_enterShifting he ho
      · split at h
        · next hc =>
          cases h
          obtain ⟨he, ho⟩ := mayShift_eligible (Bool.and_eq_true_iff.mp hc).2
          exact lawful_enterShifting he ho
        · cases h

/-- A pending refusal reason set leaves the state. -/
theorem lawful_setReason (d : DriveId) (r : PtoRun) : Lawful e r.pto (setReason e d r).pto := by
  unfold setReason
  dsimp only
  split
  · exact .put_same rfl
  · exact .put_same rfl
  · exact .refl e r.pto

/-- The checks of an event. -/
theorem lawful_checkDrives (n : Nat) (m a : Bool) (r : PtoRun) : Lawful e r.pto (checkDrives e n m a r).pto := by
  induction n generalizing m a r with
  | zero => exact .refl e r.pto
  | succ n ih =>
    unfold checkDrives
    split
    · next r' hr => exact (lawful_arbitrate hr).trans (ih true true r')
    · dsimp only
      have hm : Lawful e r.pto (if m then setReason e .main r else r).pto := by
        split
        · exact lawful_setReason .main r
        · exact .refl e r.pto
      split
      · exact hm.trans (lawful_setReason .aux _)
      · exact hm

/-- The ready flags leave the states. -/
theorem lawful_refreshReady (p : Pto) : Lawful e p (refreshReady e p) :=
  Lawful.trans
    (.put_same (k := .main) (x := { p.main with ready := decide (p.main.state = .engaged) && turning e .main }) rfl)
    (.put_same (k := .aux) (x := { p.aux with ready := decide (p.aux.state = .engaged) && turning e .aux }) rfl)

/-- The sequencer's reaction to an event. -/
theorem lawful_ptoReact (b s : State) : Lawful (ptoEnv s) s.pto (ptoReact b s).pto :=
  (lawful_checkDrives 4 _ _ { pto := s.pto, posts := [] }).trans (lawful_refreshReady _)

variable {d : DriveId} {r : PtoRun}

theorem lawful_engageDrive : Lawful e r.pto (engageDrive e d r).1.pto := by
  unfold engageDrive
  dsimp only
  split
  · exact .put_calm (by simp [enter, calm])
  · split
    · exact .refl e r.pto
    · exact lawful_enterEngaged.trans lawful_releaseInRundown
  · exact .refl e r.pto

/-- The cab pump request is an ENGAGE of MAIN. -/
theorem cabEngage_pto : (cabEngage e r).pto = (engageDrive e .main r).1.pto ∨ (cabEngage e r).pto = r.pto := by
  unfold cabEngage
  split
  · next h =>
    refine .inr ?_
    unfold engageDrive at h
    dsimp only at h
    split at h
    · cases h
    · split at h
      · cases h; rfl
      · cases h
    · cases h; rfl
  · next h => rw [h]; exact .inl rfl

theorem lawful_cabEngage : Lawful e r.pto (cabEngage e r).pto := by
  rcases cabEngage_pto (e := e) (r := r) with h | h <;> rw [h]
  · exact lawful_engageDrive
  · exact .refl e r.pto

/-- A drive in SHIFTING has the shift. -/
theorem holdsShift_of_shifting {x : Drive} (h : x.state = .shifting) : holdsShift x = true := by simp [holdsShift, h]

theorem lawful_disengageDrive : Lawful e r.pto (disengageDrive e d r).1.pto := by
  unfold disengageDrive
  split
  · exact lawful_enterWindingDown
  · exact lawful_enterDisengaged
  · next h => exact lawful_enterReleasing (.inl (holdsShift_of_shifting h))
  · exact lawful_releaseDrive
  · exact .refl e r.pto

theorem lawful_waiveRelease : Lawful e r.pto (waiveRelease e d r).pto := by
  have hput : Lawful e r.pto (r.put d { r.pto.drive d with waiver := true }).pto := .put_same rfl
  unfold waiveRelease
  dsimp only
  split
  · next h => exact hput.trans (lawful_enterReleasing (.inr (mayRelease_other h)))
  · exact hput.trans (lawful_setReason d _)

theorem lawful_dropDrive {reason : Reason} : Lawful e r.pto (dropDrive e d reason r).pto := by
  unfold dropDrive
  dsimp only
  split
  · exact lawful_releaseDrive
  · exact lawful_releaseDrive
  · exact lawful_waiveRelease
  · next h => exact lawful_enterReleasing (.inl (holdsShift_of_shifting h))
  · exact lawful_enterDisengaged
  · exact .refl e r.pto

theorem lawful_rundownRelease : Lawful e r.pto (rundownRelease e r).pto :=
  lawful_dropDrive.trans lawful_dropDrive

theorem lawful_clearFault : Lawful e r.pto (clearFault e d r).1.pto := by
  unfold clearFault
  split
  · split
    · exact .refl e r.pto
    · exact lawful_enterDisengaged
  · exact .refl e r.pto

theorem lawful_feedbackChange : Lawful e r.pto (feedbackChange e d r).pto := by
  unfold feedbackChange feedbackOn feedbackOff
  dsimp only
  split
  · split
    · next h => exact lawful_enterSettling (.inl h)
    · exact .put_same rfl
    · exact .put_same rfl
    · exact .refl e r.pto
  · split
    · exact lawful_enterFault
    · exact lawful_enterFault
    · exact lawful_enterFault
    · exact lawful_enterDisengaged
    · exact .put_same rfl
    · exact .put_same rfl
    · split
      · exact lawful_enterDisengaged
      · exact .refl e r.pto
    · exact .refl e r.pto

theorem lawful_firstFeedback {was : Bool} : Lawful e r.pto (firstFeedback e d was r).pto := by
  unfold firstFeedback
  split
  · exact lawful_enterFault
  · split
    · exact lawful_feedbackChange
    · exact .refl e r.pto

theorem lawful_expireWindow : Lawful e r.pto (expireWindow e d r).pto := by
  unfold expireWindow
  split
  · exact lawful_enterDisengaged
  · exact .refl e r.pto

theorem lawful_expireShift : Lawful e r.pto (expireShift e d r).pto := by
  unfold expireShift
  split
  · exact lawful_enterFault
  · exact .refl e r.pto

theorem lawful_expireSettle : Lawful e r.pto (expireSettle e d r).pto := by
  unfold expireSettle
  split
  · exact Lawful.trans (q := (enterEngaged e d r).pto) lawful_enterEngaged
      (lawful_releaseInRundown (r := (enterEngaged e d r).say _))
  · exact .refl e r.pto

theorem lawful_expireWindDown : Lawful e r.pto (expireWindDown d r).pto := by
  unfold expireWindDown
  dsimp only
  split
  · exact .put_same rfl
  · exact .refl e r.pto

theorem lawful_expireRelease : Lawful e r.pto (expireRelease e d r).pto := by
  unfold expireRelease
  split
  · exact lawful_enterFault
  · exact .refl e r.pto

theorem lawful_expireUncommanded : Lawful e r.pto (expireUncommanded e d r).pto := by
  unfold expireUncommanded
  split
  · exact lawful_enterFault
  · exact lawful_enterFault
  · exact .refl e r.pto

theorem lawful_recheckDrive : Lawful e r.pto (recheckDrive e d r).pto :=
  let x : Drive := { r.pto.drive d with recheck := nextPeriod e.now recheckMs (r.pto.drive d).recheck }
  Lawful.trans (.put_same (x := x) rfl) (lawful_checkDrives 4 _ _ (r.put d x))

theorem lawful_driveToWatch : Lawful e r.pto (driveToWatch e d r).pto := by
  unfold driveToWatch
  split
  · exact .put_calm (by simp [enter, calm])
  · exact .put_same rfl

theorem lawful_ptoToWatch : Lawful e r.pto (ptoToWatch e r).pto := lawful_driveToWatch.trans lawful_driveToWatch

end

/-! ### How a drive leaves WINDING_DOWN (R67 to R71) -/

/-- A drive that winds down without a waiver, or has come out of that by an ENGAGE or a loss of its feedback. -/
def Held (x : Drive) : Prop :=
  (x.state = .windingDown ∧ x.waiver = false) ∨ x.state = .engaged ∨
  (x.state = .fault ∧ x.cause ≠ some .foundEngaged)

/-- Outside RUNDOWN a run of the sequencer keeps each held drive held, or finds that the engine and the gear let it go. -/
def Holding (e : PtoEnv) (p p' : Pto) : Prop :=
  e.power ≠ .rundown → ∀ d, Held (p.drive d) → Held (p'.drive d) ∨ SlowEnough e d

section
variable {e : PtoEnv}

theorem Holding.refl (p : Pto) : Holding e p p := fun _ _ h => .inl h

theorem Holding.trans {p q r : Pto} (h : Holding e p q) (g : Holding e q r) : Holding e p r := fun hr d hp =>
  (h hr d hp).elim (g hr d) .inr

/-- A run that moves one drive holds the other. -/
theorem Holding.of_other {p p' : Pto} {k : DriveId} (ho : p'.drive (otherDrive k) = p.drive (otherDrive k))
    (h : e.power ≠ .rundown → Held (p.drive k) → Held (p'.drive k) ∨ SlowEnough e k) : Holding e p p' := by
  intro hr d hd
  rcases drive_eq_or_other k d with rfl | rfl
  · exact h hr hd
  · exact .inl (by rwa [ho])

/-- One drive replaced. -/
theorem Holding.put {p : Pto} {k : DriveId} {x : Drive}
    (h : e.power ≠ .rundown → Held (p.drive k) → Held x ∨ SlowEnough e k) : Holding e p (p.setDrive k x) :=
  .of_other (by rw [drive_setDrive_other']) (by rwa [drive_setDrive])

/-- A drive in another state than these three is not held. -/
theorem not_held {x : Drive} (h : x.state ∉ [DriveState.windingDown, .engaged, .fault]) : ¬ Held x := by
  simp only [List.mem_cons, List.not_mem_nil, or_false, not_or] at h
  obtain ⟨h1, h2, h3⟩ := h
  rintro (⟨hx, -⟩ | hx | ⟨hx, -⟩)
  · exact h1 hx
  · exact h2 hx
  · exact h3 hx

/-- A drive whose record changes but for its state, its waiver and its cause. -/
theorem Holding.put_same {p : Pto} {k : DriveId} {x : Drive} (hs : x.state = (p.drive k).state)
    (hw : x.waiver = (p.drive k).waiver) (hc : x.cause = (p.drive k).cause) : Holding e p (p.setDrive k x) :=
  .put fun _ h => .inl (by unfold Held at h ⊢; rwa [hs, hw, hc])

variable {d : DriveId} {r : PtoRun}

theorem releaseDrive_other : (releaseDrive e d r).pto.drive (otherDrive d) = r.pto.drive (otherDrive d) := by
  unfold releaseDrive
  split
  · simp [enterWindingDown_eq]
  · have h := enterReleasing_other e (otherDrive d) r
    rwa [otherDrive_otherDrive] at h

theorem releaseInRundown_other :
    (releaseInRundown e d r).pto.drive (otherDrive d) = r.pto.drive (otherDrive d) := by
  unfold releaseInRundown
  split
  · exact releaseDrive_other
  · rfl

/-- Outside RUNDOWN no drive is released for it (R70). -/
theorem releaseInRundown_off (h : e.power ≠ .rundown) : releaseInRundown e d r = r := if_neg h

theorem enterSettling_other : (enterSettling e d r).pto.drive (otherDrive d) = r.pto.drive (otherDrive d) := by
  rw [enterSettling_eq, releaseInRundown_other]; simp

/-- Entry to FAULT for another cause than a feedback found on holds the drive (R73). -/
theorem holding_enterFault {c : DriveCause} (hc : c ≠ .foundEngaged) :
    Holding e r.pto (enterFault e d c r).pto :=
  .put fun _ _ => .inl (.inr (.inr ⟨rfl, by simpa using hc⟩))

/-- A check that lets a drive without a waiver go found the engine and the gear to do so (R67). -/
theorem mayRelease_slow {p : Pto} (h : mayRelease e p d = true) (hw : (p.drive d).waiver = false) :
    SlowEnough e d := by
  simp only [mayRelease, releaseReason, hw, Bool.and_eq_true, decide_eq_true_eq] at h
  obtain ⟨-, h⟩ := h
  split at h
  · cases h
  · next hs =>
    split at h
    · cases h
    · next hg => exact ⟨by simpa using hs, fun hd => by simpa [hd] using hg⟩

/-- A release by a check (R67). -/
theorem holding_mayRelease (h : mayRelease e r.pto d = true) : Holding e r.pto (enterReleasing e d r).pto := by
  have ho := enterReleasing_other e (otherDrive d) r
  rw [otherDrive_otherDrive] at ho
  refine .of_other ho fun _ hx => .inr (mayRelease_slow h ?_)
  have hs : (r.pto.drive d).state = .windingDown := by
    simp only [mayRelease, Bool.and_eq_true, decide_eq_true_eq] at h
    exact h.1
  rcases hx with ⟨-, hw⟩ | hx | ⟨hx, -⟩
  · exact hw
  · rw [hs] at hx; cases hx
  · rw [hs] at hx; cases hx

/-- A shift by a check concerns a drive in REQUESTED (R62). -/
theorem holding_mayShift (h : mayShift e r.pto d = true) : Holding e r.pto (enterShifting e d r).pto := by
  have ho := enterShifting_other e (otherDrive d) r
  rw [otherDrive_otherDrive] at ho
  have hs : (r.pto.drive d).state = .requested := by
    simp only [mayShift, Bool.and_eq_true, decide_eq_true_eq] at h
    exact h.1
  exact .of_other ho fun _ hx => absurd hx (not_held (by rw [hs]; decide))

theorem holding_arbitrate {m a : Bool} {r r' : PtoRun} (h : arbitrate e m a r = some r') :
    Holding e r.pto r'.pto := by
  unfold arbitrate at h
  split at h
  · next hc => cases h; exact holding_mayRelease (Bool.and_eq_true_iff.mp hc).2
  · split at h
    · next hc => cases h; exact holding_mayRelease (Bool.and_eq_true_iff.mp hc).2
    · split at h
      · next hc => cases h; exact holding_mayShift (Bool.and_eq_true_iff.mp hc).2
      · split at h
        · next hc => cases h; exact holding_mayShift (Bool.and_eq_true_iff.mp hc).2
        · cases h

theorem holding_setReason (d : DriveId) (r : PtoRun) : Holding e r.pto (setReason e d r).pto := by
  unfold setReason
  dsimp only
  split
  · exact .put_same rfl rfl rfl
  · exact .put_same rfl rfl rfl
  · exact .refl r.pto

theorem holding_checkDrives (n : Nat) (m a : Bool) (r : PtoRun) : Holding e r.pto (checkDrives e n m a r).pto := by
  induction n generalizing m a r with
  | zero => exact .refl r.pto
  | succ n ih =>
    unfold checkDrives
    split
    · next r' hr => exact (holding_arbitrate hr).trans (ih true true r')
    · dsimp only
      have hm : Holding e r.pto (if m then setReason e .main r else r).pto := by
        split
        · exact holding_setReason .main r
        · exact .refl r.pto
      split
      · exact hm.trans (holding_setReason .aux _)
      · exact hm

/-- The sequencer's reaction to an event holds the drives. -/
theorem holding_ptoReact (b s : State) : Holding (ptoEnv s) s.pto (ptoReact b s).pto :=
  let e := ptoEnv s
  let p := (checkDrives e 4 (sourcesChanged b s .main) (sourcesChanged b s .aux) { pto := s.pto, posts := [] }).pto
  ((holding_checkDrives 4 _ _ { pto := s.pto, posts := [] }).trans
    (.put_same (k := .main) (x := { p.main with ready := decide (p.main.state = .engaged) && turning e .main })
      rfl rfl rfl)).trans
    (.put_same (k := .aux) (x := { p.aux with ready := decide (p.aux.state = .engaged) && turning e .aux }) rfl rfl rfl)

theorem holding_recheckDrive : Holding e r.pto (recheckDrive e d r).pto :=
  let x : Drive := { r.pto.drive d with recheck := nextPeriod e.now recheckMs (r.pto.drive d).recheck }
  Holding.trans (.put_same (x := x) rfl rfl rfl) (holding_checkDrives 4 _ _ (r.put d x))

/-- ENGAGE takes a held drive back to ENGAGED, or leaves it (R59). -/
theorem holding_engageDrive : Holding e r.pto (engageDrive e d r).1.pto := by
  unfold engageDrive
  dsimp only
  split
  · next hs => exact .put fun _ hx => absurd hx (not_held (by rw [hs]; decide))
  · split
    · exact .refl r.pto
    · refine .of_other (k := d) ?_ fun hr _ => ?_
      · rw [releaseInRundown_other]; simp [enterEngaged_eq]
      · rw [releaseInRundown_off hr, enterEngaged_eq]
        exact .inl (.inr (.inl (by simp [engagedDrive, enter])))
  · exact .refl r.pto

theorem holding_cabEngage : Holding e r.pto (cabEngage e r).pto := by
  rcases cabEngage_pto (e := e) (r := r) with h | h <;> rw [h]
  · exact holding_engageDrive
  · exact .refl r.pto

/-- DISENGAGE has an engaged drive wind down without a waiver (R66). -/
theorem holding_disengageDrive : Holding e r.pto (disengageDrive e d r).1.pto := by
  unfold disengageDrive
  split
  · exact .put fun _ _ => .inl (.inl ⟨rfl, rfl⟩)
  · next hs => exact .put fun _ hx => absurd hx (not_held (by rw [hs]; decide))
  · next hs =>
    have ho := enterReleasing_other e (otherDrive d) r
    rw [otherDrive_otherDrive] at ho
    exact .of_other ho fun _ hx => absurd hx (not_held (by rw [hs]; decide))
  · next hs => exact .of_other releaseDrive_other fun _ hx => absurd hx (not_held (by rw [hs]; decide))
  · exact .refl r.pto

/-- A change of feedback takes a held drive to FAULT DROPPED, or leaves it (R71). -/
theorem holding_feedbackChange : Holding e r.pto (feedbackChange e d r).pto := by
  unfold feedbackChange feedbackOn feedbackOff
  dsimp only
  split
  · split
    · next hs => exact .of_other enterSettling_other fun _ hx => absurd hx (not_held (by rw [hs]; decide))
    · exact .put_same rfl rfl rfl
    · exact .put_same rfl rfl rfl
    · exact .refl r.pto
  · split
    · exact holding_enterFault nofun
    · exact holding_enterFault nofun
    · exact holding_enterFault nofun
    · next hs => exact .put fun _ hx => absurd hx (not_held (by rw [hs]; decide))
    · exact .put_same rfl rfl rfl
    · exact .put_same rfl rfl rfl
    · next hs =>
      split
      · next hc =>
        refine .put fun _ hx => ?_
        rcases hx with ⟨hx, -⟩ | hx | ⟨-, hx⟩
        · rw [hs] at hx; cases hx
        · rw [hs] at hx; cases hx
        · exact absurd hc hx
      · exact .refl r.pto
    · exact .refl r.pto

theorem holding_firstFeedback {was : Bool} : Holding e r.pto (firstFeedback e d was r).pto := by
  unfold firstFeedback
  split
  · next h => exact .put fun _ hx => absurd hx (not_held (by rw [h.2]; decide))
  · split
    · exact holding_feedbackChange
    · exact .refl r.pto

theorem holding_expireWindow : Holding e r.pto (expireWindow e d r).pto := by
  unfold expireWindow
  split
  · next hs => exact .put fun _ hx => absurd hx (not_held (by rw [hs]; decide))
  · exact .refl r.pto

theorem holding_expireShift : Holding e r.pto (expireShift e d r).pto := by
  unfold expireShift
  split
  · exact holding_enterFault nofun
  · exact .refl r.pto

theorem holding_expireSettle : Holding e r.pto (expireSettle e d r).pto := by
  unfold expireSettle
  split
  · next hs =>
    refine .of_other ?_ fun _ hx => absurd hx (not_held (by rw [hs]; decide))
    rw [releaseInRundown_other]; simp [enterEngaged_eq]
  · exact .refl r.pto

theorem holding_expireWindDown : Holding e r.pto (expireWindDown d r).pto := by
  unfold expireWindDown
  dsimp only
  split
  · exact .put_same rfl rfl rfl
  · exact .refl r.pto

theorem holding_expireRelease : Holding e r.pto (expireRelease e d r).pto := by
  unfold expireRelease
  split
  · exact holding_enterFault nofun
  · exact .refl r.pto

theorem holding_expireUncommanded : Holding e r.pto (expireUncommanded e d r).pto := by
  unfold expireUncommanded
  split
  · exact holding_enterFault nofun
  · exact holding_enterFault nofun
  · exact .refl r.pto

end

end Sys2Proof.Machine
end

section
/-! SUPPORT. The sequencer's turn within an event: what it finds, what the power controller has done to the drives before it, and
that nothing moves a drive after it (R58, R70, R190, R191). -/

namespace Sys2Proof.Machine

/-! ### What the sequencer reads -/

/-- Two states that agree in all that the sequencer reads but for the drives and the power state. -/
structure Sees (u t : State) : Prop where
  settings : t.settings = u.settings
  uptime : t.time.uptime = u.time.uptime
  slots : t.chassis.rx = u.chassis.rx
  discrete : t.inputs.discrete = u.inputs.discrete
  pulse : t.inputs.pulse = u.inputs.pulse

/-- The reactions leave what the sequencer reads. -/
theorem ReactedBy.sees {n : Nat} {u t : State} (h : ReactedBy n u t) : Sees u t :=
  ⟨h.settings, by rw [h.clock], by rw [h.port], by rw [h.channels], by rw [h.channels]⟩

section
variable {u t : State} (h : Sees u t)
include h

theorem Sees.symm : Sees t u := ⟨h.1.symm, h.2.symm, h.3.symm, h.4.symm, h.5.symm⟩

theorem Sees.trans {v : State} (g : Sees t v) : Sees u v :=
  ⟨g.1.trans h.1, g.2.trans h.2, g.3.trans h.3, g.4.trans h.4, g.5.trans h.5⟩

theorem Sees.quantity (q : Fin 6) : t.quantity q = u.quantity q := by
  unfold State.quantity usableQuantity
  rw [h.settings, h.slots]

theorem Sees.vehicle : t.vehicle = u.vehicle := by
  unfold State.vehicle vehicleOf usableQuantity
  rw [h.settings, h.slots]

theorem Sees.stationary : t.stationary = u.stationary := by
  unfold State.stationary
  rw [h.vehicle]

theorem Sees.level (i : Fin 10) : t.level i = u.level i := by
  unfold State.level
  rw [h.discrete]

theorem Sees.feedback (d : DriveId) : t.feedback d = u.feedback d := by cases d <;> exact h.level _

theorem Sees.ignitionKnown : ignitionKnown t = ignitionKnown u := by
  unfold Machine.ignitionKnown
  rw [h.discrete]

/-- The sequencer's view of two such states, but for the power state. -/
theorem Sees.env : ptoEnv t = { ptoEnv u with power := t.power.state } := by
  unfold ptoEnv
  rw [h.settings, h.uptime, h.stationary, h.quantity, h.quantity, h.quantity, h.quantity, h.quantity, h.level, h.level,
    h.level, h.pulse]

/-- The sequencer's view of two such states in one power state. -/
theorem Sees.env_eq (hp : t.power.state = u.power.state) : ptoEnv t = ptoEnv u := by
  rw [h.env, hp]
  rfl

/-- Whether the engine and the gear let a drive go. -/
theorem Sees.slowEnough (d : DriveId) : SlowEnough (ptoEnv t) d ↔ SlowEnough (ptoEnv u) d := by
  rw [h.env]
  rfl

end

/-- The model's eligibility says that every condition of R60 and R61 but the last is met. -/
theorem eligible_conditions {s : State} {d : DriveId} (h : Eligible (ptoEnv s) d) :
    ∀ c ∈ (engageConditions s d).dropLast, c.2 := by
  have all (cs : List (Reason × Prop)) (hc : FirstUnmet cs none) : ∀ c ∈ cs, c.2 := by
    induction cs with
    | nil => simp
    | cons c cs ih =>
      obtain ⟨h1, h2⟩ := hc
      have hc : c.2 := Classical.byContradiction fun hn => absurd (h1 hn) nofun
      exact List.forall_mem_cons.mpr ⟨hc, ih (h2 hc)⟩
  obtain ⟨p, hp⟩ := h
  have hf := engageReason_firstUnmet { s with pto := p } d
  have hn : engageReason (ptoEnv { s with pto := p }) p d = none := hp
  rw [show ({ s with pto := p } : State).pto = p from rfl, hn] at hf
  have hall := all _ hf
  intro c hc
  refine hall c (List.dropLast_subset _ ?_)
  cases d <;> exact hc

/-! ### Releases for the power controller -/

/-- A drive after the release that R69 and R70 ask for is in none of the four driving states of before (R57). -/
theorem dropDrive_state (e : PtoEnv) (d : DriveId) (reason : Reason) (r : PtoRun) :
    ((dropDrive e d reason r).pto.drive d).state ∈ [DriveState.disengaged, .releasing, .windingDown, .fault] := by
  have releasing (r : PtoRun) : ((enterReleasing e d r).pto.drive d).state ∈
      [DriveState.disengaged, .releasing, .windingDown, .fault] := by
    rw [enterReleasing_eq]
    split <;> simp [releasingDrive, disengagedDrive, enter]
  have released : ((releaseDrive e d r).pto.drive d).state ∈
      [DriveState.disengaged, .releasing, .windingDown, .fault] := by
    unfold releaseDrive
    split
    · simp [enterWindingDown_eq, windingDrive, enter]
    · exact releasing r
  unfold dropDrive
  dsimp only
  split
  · exact released
  · exact released
  · next hs =>
    unfold waiveRelease setReason
    dsimp only
    split
    · exact releasing _
    · simp [hs]
  · exact releasing r
  · simp [enterDisengaged_eq, disengagedDrive, enter]
  · next h1 h2 h3 h4 h5 =>
    cases hs : (r.pto.drive d).state <;> simp_all

/-- No drive is left driving by the rundown release (R70). -/
theorem rundownRelease_state (e : PtoEnv) (r : PtoRun) (d : DriveId) :
    ((rundownRelease e r).pto.drive d).state ∈ [DriveState.disengaged, .releasing, .windingDown, .fault] := by
  unfold rundownRelease
  cases d
  · have h := dropDrive_other e .main .powerState (dropDrive e .main .powerState r)
    rw [show otherDrive .main = DriveId.aux from rfl] at h
    rw [h]
    exact dropDrive_state e .main .powerState r
  · exact dropDrive_state e .aux .powerState _

/-- The rundown release is lawful in every view, as it starts no drive. -/
theorem lawful_rundownRelease_any (e e' : PtoEnv) (r : PtoRun) : Lawful e' r.pto (rundownRelease e r).pto where
  oneShift := (lawful_rundownRelease (e := e)).oneShift
  starts d _ h := by
    have hs := rundownRelease_state e r d
    simp only [List.mem_cons, List.not_mem_nil, or_false] at hs h
    rcases h with h | h <;> simp [h] at hs
  shifts d _ h := by
    have hs := rundownRelease_state e r d
    simp [h] at hs

/-! ### The power controller's two turns -/

/-- The power controller has nothing to do that moves a drive or the power state (R190, R191). -/
structure PowerCalm (s : State) : Prop where
  awake : ignitionKnown s = true → s.power.state = .awake → s.level 8 = false → s.drivesReleased = true
  rundown : ignitionKnown s = true → s.power.state = .rundown → s.level 8 = false

/-- A part that the power controller has taken in hand is calm. -/
theorem powerCalm_powerReact (s : State) : PowerCalm (powerReact s) := by
  unfold powerReact
  split
  · split
    · next ha =>
      split
      · next hc =>
        simp only [Bool.and_eq_true, Bool.not_eq_true'] at hc
        exact ⟨fun _ h => absurd h nofun, fun _ _ => hc.1⟩
      · next hc =>
        have hr (h8 : s.level 8 = false) : s.drivesReleased = true := by simpa [h8] using hc
        split
        · exact ⟨fun _ _ h => hr h, fun _ h => absurd (ha.symm.trans h) nofun⟩
        · exact ⟨fun _ _ h => hr h, fun _ h => absurd (ha.symm.trans h) nofun⟩
    · next ha =>
      split
      · next hc => exact ⟨fun _ _ h => absurd (hc.symm.trans h) nofun, fun _ h => absurd h nofun⟩
      · next hc =>
        have h8 : s.level 8 = false := by simpa using hc
        split
        · exact ⟨fun _ h => absurd (ha.symm.trans h) nofun, fun _ _ => h8⟩
        · exact ⟨fun _ h => absurd (ha.symm.trans h) nofun, fun _ _ => h8⟩
    · next h1 h2 => exact ⟨fun _ h => absurd h h1, fun _ h => absurd h h2⟩
  · next hk => exact ⟨fun h => absurd h hk, fun h => absurd h hk⟩

/-- A released drive waits for no check and is not ENGAGED. -/
theorem ptoReact_released {b s : State} {d : DriveId} {fb : Bool} (h : driveReleased (s.pto.drive d) fb = true) :
    driveReleased ((ptoReact b s).pto.drive d) fb = true := by
  have hs : (s.pto.drive d).state = .disengaged ∨ (s.pto.drive d).state = .fault := by
    simp only [driveReleased, Bool.or_eq_true, Bool.and_eq_true, decide_eq_true_eq] at h
    exact h.imp id And.left
  have hi : inert (s.pto.drive d) := by rcases hs with hs | hs <;> simp [inert, hs]
  rw [ptoReact_inert b s d hi]
  exact h

/-- The sequencer's turn leaves a calm part calm. -/
theorem powerCalm_settlePto {b s : State} (h : PowerCalm s) : PowerCalm (settlePto b s) := by
  have hk : ignitionKnown (settlePto b s) = ignitionKnown s := by simp [ignitionKnown]
  have hl : (settlePto b s).level 8 = s.level 8 := by simp [State.level]
  refine ⟨fun h1 h2 h3 => ?_, fun h1 h2 => ?_⟩
  · rw [hk] at h1
    rw [settlePto_power] at h2
    rw [hl] at h3
    have hr := h.awake h1 h2 h3
    simp only [State.drivesReleased, State.level, settlePto_pto, settlePto_inputs, Bool.and_eq_true] at hr ⊢
    exact ⟨ptoReact_released (d := .main) hr.1, ptoReact_released (d := .aux) hr.2⟩
  · rw [hk] at h1
    rw [settlePto_power] at h2
    rw [hl]
    exact h.rundown h1 h2

/-- The power controller does nothing to a calm part, or begins its way to WATCH. -/
theorem PowerCalm.powerReact {s : State} (h : PowerCalm s) :
    powerReact s = s ∨ ∃ c, powerReact s = towardWatch c s := by
  unfold Machine.powerReact
  split
  · next hk =>
    split
    · next ha =>
      split
      · next hc =>
        simp only [Bool.and_eq_true, Bool.not_eq_true'] at hc
        rw [h.awake hk ha hc.1] at hc
        cases hc.2
      · split
        · exact .inr ⟨_, rfl⟩
        · exact .inl rfl
    · next ha =>
      split
      · next hc => rw [h.rundown hk ha] at hc; cases hc
      · split
        · exact .inr ⟨_, rfl⟩
        · exact .inl rfl
    · exact .inl rfl
  · exact .inl rfl

/-! ### The sequencer's turn -/

/-- What the power controller has made of the drives and the power state before the sequencer's turn, in `m`: nothing, a
rundown release, or a return to AWAKE. -/
inductive PowerTurn (u m : State) : Prop
  | stays (pto : m.pto = u.pto) (power : m.power.state = u.power.state)
  | enters (before : u.power.state = .awake) (after : m.power.state = .rundown) (off : u.level 8 = false) (e : PtoEnv)
      (pto : m.pto = (rundownRelease e u.ptoRun).pto)
  | leaves (before : u.power.state = .rundown) (after : m.power.state = .awake) (on : u.level 8 = true)
      (pto : m.pto = u.pto)

/-- The drives' turn within an event: `u` is what the event's own effect leaves, `m` what the sequencer finds, `t` the end. -/
structure DrivesTurn (s u m t : State) : Prop where
  finds : Sees u m
  ends : Sees u t
  before : PowerTurn u m
  pto : t.pto = (ptoReact s m).pto
  power : t.power.state = m.power.state

/-- The power controller's first turn. -/
theorem powerReact_turn (s : State) : PowerTurn s (powerReact s) := by
  have hcases : (s.power.state = .awake ∧ s.level 8 = false ∧ powerReact s = enterRundown s) ∨
      (s.power.state = .rundown ∧ s.level 8 = true ∧ powerReact s = leaveRundown s) ∨
      (powerReact s).pto = s.pto ∧ (powerReact s).power.state = s.power.state := by
    unfold powerReact
    split
    · split
      · next ha =>
        split
        · next hc =>
          simp only [Bool.and_eq_true, Bool.not_eq_true'] at hc
          exact .inl ⟨ha, hc.1, rfl⟩
        · split <;> exact .inr (.inr ⟨rfl, rfl⟩)
      · next ha =>
        split
        · next hc => exact .inr (.inl ⟨ha, hc, rfl⟩)
        · split <;> exact .inr (.inr ⟨rfl, rfl⟩)
      · exact .inr (.inr ⟨rfl, rfl⟩)
    · exact .inr (.inr ⟨rfl, rfl⟩)
  rcases hcases with ⟨ha, h8, h⟩ | ⟨ha, h8, h⟩ | ⟨hp, hs⟩
  · exact .enters ha (by rw [h]; rfl) h8 _ (by rw [h]; rfl)
  · exact .leaves ha (by rw [h]; rfl) h8 (by rw [h]; rfl)
  · exact .stays hp hs

/-- Where the sequencer's turn stands in what follows an event of a working part. -/
theorem settle_drivesTurn (s : State) {u : State} (hw : u.working = true) : ∃ m, DrivesTurn s u m (settle s u) := by
  have hr := reacted_settle s u
  rw [settle_working s hw] at hr ⊢
  let mid := settleReaders s (settleFill s (settleBrake s u))
  let late := settlePto s (powerReact mid)
  have hmid := (reacted_settleBrake s u).trans <| (reacted_settleFill s _).trans <| reacted_settleReaders s _
  have hend : (settleWorking s u).pto = (powerReact late).pto ∧
      (settleWorking s u).power.state = (powerReact late).power.state := by
    unfold settleWorking settleRest
    simp only [settleMonitors_pto, refreshOutputs_pto, settleChassis_pto, settleLockout_pto, settleProtection_pto,
      settleGovernor_pto, settleMonitors_power, refreshOutputs_power, settleChassis_power, settleLockout_power,
      settleProtection_power, settleGovernor_power]
    exact ⟨rfl, rfl⟩
  have hlate : (powerReact late).pto = late.pto ∧ (powerReact late).power.state = late.power.state := by
    rcases (powerCalm_settlePto (b := s) (powerCalm_powerReact mid)).powerReact with h | ⟨c, h⟩
    · exact ⟨congrArg State.pto h, congrArg (fun x => x.power.state) h⟩
    · exact ⟨(congrArg State.pto h).trans rfl, (congrArg (fun x => x.power.state) h).trans rfl⟩
  have hturn : PowerTurn u (powerReact mid) := by
    have hl : mid.level 8 = u.level 8 := hmid.sees.level 8
    rcases powerReact_turn mid with ⟨hp, hs⟩ | ⟨hb, ha, h8, e, hp⟩ | ⟨hb, ha, h8, hp⟩
    · exact .stays hp hs
    · exact .enters hb ha (hl ▸ h8) e hp
    · exact .leaves hb ha (hl ▸ h8) hp
  refine ⟨powerReact mid, ?_⟩
  exact
    { finds := (hmid.trans (reacted_powerReact mid)).sees
      ends := hr.sees
      before := hturn
      pto := by rw [hend.1, hlate.1, settlePto_pto]
      power := by rw [hend.2, hlate.2, settlePto_power] }

section
variable {s u m t : State} (h : DrivesTurn s u m t)
include h

/-- The sequencer finds what the end of the event shows. -/
theorem DrivesTurn.sees : Sees m t := h.finds.symm.trans h.ends

theorem DrivesTurn.env : ptoEnv t = ptoEnv m := h.sees.env_eq h.power

/-- The power controller's turn is lawful. -/
theorem DrivesTurn.lawful_before (e : PtoEnv) : Lawful e u.pto m.pto := by
  rcases h.before with ⟨hp, -⟩ | ⟨-, -, -, e', hp⟩ | ⟨-, -, -, hp⟩
  · rw [hp]; exact .refl e u.pto
  · rw [hp]; exact lawful_rundownRelease_any e' e u.ptoRun
  · rw [hp]; exact .refl e u.pto

/-- What follows an event is lawful. -/
theorem DrivesTurn.lawful : Lawful (ptoEnv t) u.pto t.pto := by
  have hreact := lawful_ptoReact s m
  rw [← h.env, ← h.pto] at hreact
  exact (h.lawful_before (ptoEnv t)).trans hreact

end

end Sys2Proof.Machine
end

section
/-! SUPPORT. What each command does of itself to the records that the blocks read of one another: the drives, the governor, the
lockout unit, the port and the power state, said once for all commands that are no starting point. -/

namespace Sys2Proof.Machine

/-! ### What the governor's and the lockout unit's own records keep -/

/-- What the governor's record keeps of itself (R79 to R85, R100): a pumping mode governs a drive and has the throttle path,
ROLL governs AUX, OFF governs none, and the stop timer runs in ROLL alone. -/
structure GovernorSound (g : Governor) : Prop where
  pumping : g.mode ∈ [GovMode.pressure, .speed, .hold] → g.governed ≠ none ∧ g.path = .available
  rolling : g.mode = .roll → g.governed = some .aux
  off : g.mode = .off → g.governed = none ∧ g.windDown = none
  idle : g.governed = none → g.mode = .off ∨ (g.mode = .idle ∧ g.windDown ≠ none)
  windDown : g.windDown ≠ none → g.governed = none
  stop : g.stop ≠ none → g.mode = .roll

/-- A record that agrees in those fields is sound with it. -/
theorem GovernorSound.congr {g g' : Governor} (h : GovernorSound g) (hm : g'.mode = g.mode)
    (hg : g'.governed = g.governed) (hw : g'.windDown = g.windDown) (hp : g'.path = g.path) (hs : g'.stop = g.stop) :
    GovernorSound g' :=
  ⟨by rw [hm, hg, hp]; exact h.pumping, by rw [hm, hg]; exact h.rolling, by rw [hm, hg, hw]; exact h.off,
    by rw [hg, hm, hw]; exact h.idle, by rw [hw, hg]; exact h.windDown, by rw [hs, hm]; exact h.stop⟩

/-- A governor that governs a drive outside ROLL goes to a pumping mode with the throttle path. -/
theorem GovernorSound.pump {g g' : Governor} (h : GovernorSound g) (hr : g.mode ≠ .roll) (hn : g.governed ≠ none)
    (hp : g.path = .available) (hm : g'.mode ∈ [GovMode.pressure, .speed, .hold]) (hg : g'.governed = g.governed)
    (hw : g'.windDown = g.windDown) (hp' : g'.path = g.path) (hs : g'.stop = g.stop) : GovernorSound g' where
  pumping _ := ⟨hg ▸ hn, hp'.trans hp⟩
  rolling hx := by rw [hx] at hm; exact absurd hm (by decide)
  off hx := by rw [hx] at hm; exact absurd hm (by decide)
  idle hx := absurd (hg ▸ hx) hn
  windDown := by rw [hw, hg]; exact h.windDown
  stop hx := absurd (h.stop (hs ▸ hx)) hr

/-- A governor that governs a drive goes to IDLE, its stop timer stopped. -/
theorem GovernorSound.toIdle {g g' : Governor} (h : GovernorSound g) (hn : g.governed ≠ none) (hm : g'.mode = .idle)
    (hg : g'.governed = g.governed) (hw : g'.windDown = g.windDown) (hs : g'.stop = none) : GovernorSound g' where
  pumping hx := by rw [hm] at hx; exact absurd hx (by decide)
  rolling hx := by rw [hm] at hx; cases hx
  off hx := by rw [hm] at hx; cases hx
  idle hx := absurd (hg ▸ hx) hn
  windDown := by rw [hw, hg]; exact h.windDown
  stop hx := absurd hs hx

/-- What the lockout unit's record keeps of itself (R151 to R153): an action with a contributor stays ASSERTED, and IDLE_CAP
alone is ever PENDING. -/
structure LockoutSound (l : Lockout) : Prop where
  deferred : l.inhibit.state ≠ .pending ∧ l.rollLimit.state ≠ .pending
  inhibit : l.inhibit.contributors ≠ [] → l.inhibit.state = .asserted
  rollLimit : l.rollLimit.contributors ≠ [] → l.rollLimit.state = .asserted
  idleCap : l.idleCap.contributors ≠ [] → l.idleCap.state = .asserted ∨ l.idleCap.state = .pending

/-- A record that agrees in the actions is sound with it. -/
theorem LockoutSound.congr {l l' : Lockout} (h : LockoutSound l) (hi : l'.inhibit = l.inhibit)
    (hr : l'.rollLimit = l.rollLimit) (hk : l'.idleCap = l.idleCap) : LockoutSound l' :=
  ⟨by rw [hi, hr]; exact h.deferred, by rw [hi]; exact h.inhibit, by rw [hr]; exact h.rollLimit,
    by rw [hk]; exact h.idleCap⟩

/-- An action that its record leaves with no contributor but in ASSERTED or PENDING, replaced by one of the same contributors
that is not PENDING and, with a contributor, in the same state. -/
theorem LockoutSound.setAction {l : Lockout} (h : LockoutSound l) (a : ActionId) {x : Action}
    (hp : x.state = (l.action a).state ∨
      (x.state ≠ .pending ∧ (l.action a).state ≠ .asserted ∧ (l.action a).state ≠ .pending))
    (hc : x.contributors = (l.action a).contributors) : LockoutSound (l.setAction a x) := by
  obtain ⟨⟨d1, d2⟩, h1, h2, h3⟩ := h
  cases a <;> simp only [Lockout.action, Lockout.setAction] at hp hc ⊢
  · refine ⟨⟨?_, d2⟩, fun hx => ?_, h2, h3⟩
    · rcases hp with hp | hp
      · exact hp ▸ d1
      · exact hp.1
    · rw [hc] at hx
      rcases hp with hp | hp
      · exact hp.trans (h1 hx)
      · exact absurd (h1 hx) hp.2.1
  · refine ⟨⟨d1, ?_⟩, h1, fun hx => ?_, h3⟩
    · rcases hp with hp | hp
      · exact hp ▸ d2
      · exact hp.1
    · rw [hc] at hx
      rcases hp with hp | hp
      · exact hp.trans (h2 hx)
      · exact absurd (h2 hx) hp.2.1
  · refine ⟨⟨d1, d2⟩, h1, h2, fun hx => ?_⟩
    rw [hc] at hx
    rcases hp with hp | hp
    · rw [hp]; exact h3 hx
    · exact absurd (h3 hx) (by simp [hp.2])

/-! ### Effects on the part -/

/-- A command's own effect on the records that the blocks read of one another. `trip` says that the command is the overspeed
timer's, which drops AUX and moves the overspeed monitor. -/
structure OwnEffect (trip : Prop) (s u : State) : Prop where
  lawful : Lawful (ptoEnv u) s.pto u.pto
  winding : u.power.state ≠ .rundown → ∀ d, d = .main ∨ ¬ trip → (s.pto.drive d).state = .windingDown →
    (s.pto.drive d).waiver = false → Held (u.pto.drive d) ∨ SlowEnough (ptoEnv u) d
  power : u.power.state = s.power.state ∨ (working s.power.state = false ∧ working u.power.state = false)
  governor : GovernorSound s.gov → GovernorSound u.gov
  path : u.gov.path = s.gov.path
  lockout : LockoutSound s.lock → LockoutSound u.lock
  overspeed : ¬ trip → u.lock.overspeed = s.lock.overspeed ∧ u.lock.overspeedTimer = s.lock.overspeedTimer
  port : u.chassis.port = .off → s.chassis.port = .off

/-- Two states that agree in those records. -/
structure Agree (s u : State) : Prop where
  pto : u.pto = s.pto
  gov : u.gov = s.gov
  lock : u.lock = s.lock
  port : u.chassis.port = s.chassis.port
  power : u.power.state = s.power.state

section
variable {trip : Prop} {s u : State}

/-- A lawful run of the sequencer that holds the drives. -/
theorem OwnEffect.of_run (hl : Lawful (ptoEnv u) s.pto u.pto) (hh : Holding (ptoEnv u) s.pto u.pto)
    (hg : u.gov = s.gov) (hk : u.lock = s.lock) (hp : u.chassis.port = s.chassis.port)
    (hw : u.power.state = s.power.state ∨ (working s.power.state = false ∧ working u.power.state = false)) :
    OwnEffect trip s u where
  lawful := hl
  winding hr d _ hs hx := hh hr d (.inl ⟨hs, hx⟩)
  power := hw
  governor := by rw [hg]; exact id
  path := by rw [hg]
  lockout := by rw [hk]; exact id
  overspeed _ := by rw [hk]; exact ⟨rfl, rfl⟩
  port := by rw [hp]; exact id

/-- An effect that leaves the drives. -/
theorem OwnEffect.of_records (hp : u.pto = s.pto) (hw : u.power.state = s.power.state)
    (hg : GovernorSound s.gov → GovernorSound u.gov) (hpath : u.gov.path = s.gov.path)
    (hk : LockoutSound s.lock → LockoutSound u.lock)
    (ho : ¬ trip → u.lock.overspeed = s.lock.overspeed ∧ u.lock.overspeedTimer = s.lock.overspeedTimer)
    (hport : u.chassis.port = .off → s.chassis.port = .off) : OwnEffect trip s u where
  lawful := by rw [hp]; exact .refl _ s.pto
  winding _ d _ hs hx := by rw [hp]; exact .inl (.inl ⟨hs, hx⟩)
  power := .inl hw
  governor := hg
  path := hpath
  lockout := hk
  overspeed := ho
  port := hport

/-- An effect that leaves those records. -/
theorem OwnEffect.of_agree (h : Agree s u) : OwnEffect trip s u :=
  .of_records h.pto h.power (by rw [h.gov]; exact id) (by rw [h.gov]) (by rw [h.lock]; exact id)
    (fun _ => by rw [h.lock]; exact ⟨rfl, rfl⟩) (by rw [h.port]; exact id)

/-- An effect on the governor's record. -/
theorem OwnEffect.of_governor (hp : u.pto = s.pto) (hk : u.lock = s.lock) (hport : u.chassis.port = s.chassis.port)
    (hw : u.power.state = s.power.state) (hg : GovernorSound s.gov → GovernorSound u.gov)
    (hpath : u.gov.path = s.gov.path) : OwnEffect trip s u :=
  .of_records hp hw hg hpath (by rw [hk]; exact id) (fun _ => by rw [hk]; exact ⟨rfl, rfl⟩)
    (by rw [hport]; exact id)

/-- An effect on the actions of the lockout unit. -/
theorem OwnEffect.of_actions (hp : u.pto = s.pto) (hg : u.gov = s.gov) (hport : u.chassis.port = s.chassis.port)
    (hw : u.power.state = s.power.state) (hk : LockoutSound s.lock → LockoutSound u.lock)
    (ho : u.lock.overspeed = s.lock.overspeed ∧ u.lock.overspeedTimer = s.lock.overspeedTimer) : OwnEffect trip s u :=
  .of_records hp hw (by rw [hg]; exact id) (by rw [hg]) hk (fun _ => ho) (by rw [hport]; exact id)

/-- An effect on the port's record. -/
theorem OwnEffect.of_port (hp : u.pto = s.pto) (hg : u.gov = s.gov) (hk : u.lock = s.lock)
    (hw : u.power.state = s.power.state) (hport : u.chassis.port = .off → s.chassis.port = .off) : OwnEffect trip s u :=
  .of_records hp hw (by rw [hg]; exact id) (by rw [hg]) (by rw [hk]; exact id)
    (fun _ => by rw [hk]; exact ⟨rfl, rfl⟩) hport

/-- An effect that starts from a state that agrees with `s`, and before a step that leaves all that the sequencer sees. -/
theorem OwnEffect.between {s' u' : State} (h : OwnEffect trip s' u') (hs : Agree s s')
    (hu : Agree u' u) (he : ptoEnv u = ptoEnv u') : OwnEffect trip s u where
  lawful := by rw [hu.pto, he, ← hs.pto]; exact h.lawful
  winding := by rw [hu.pto, he, hu.power, ← hs.pto]; exact h.winding
  power := by rw [hu.power, ← hs.power]; exact h.power
  governor := by rw [hu.gov, ← hs.gov]; exact h.governor
  path := by rw [hu.gov, ← hs.gov]; exact h.path
  lockout := by rw [hu.lock, ← hs.lock]; exact h.lockout
  overspeed := by rw [hu.lock, ← hs.lock]; exact h.overspeed
  port := by rw [hu.port, ← hs.port]; exact h.port

/-- A working part keeps its power state in a command's own effect. -/
theorem OwnEffect.keepsPower (h : OwnEffect trip s u) (hw : s.working = true) : u.power.state = s.power.state := by
  rcases h.power with h | ⟨h, -⟩
  · exact h
  · simp [State.working, h] at hw

/-- A part with supply that does not work is not set to work by a command's own effect. -/
theorem OwnEffect.working (h : OwnEffect trip s u) (hp : s.powered = true) (hw : u.working = true) : s.working = true := by
  simp only [State.working, Bool.and_eq_true] at hw ⊢
  refine ⟨hp, ?_⟩
  rcases h.power with h | ⟨-, h⟩
  · exact h ▸ hw.2
  · simp [h] at hw

/-- Every state agrees with itself. -/
theorem Agree.refl (s : State) : Agree s s := ⟨rfl, rfl, rfl, rfl, rfl⟩

/-- An effect that starts from a state that agrees with `s`. -/
theorem OwnEffect.after {s' : State} (hs : Agree s s') (h : OwnEffect trip s' u) :
    OwnEffect trip s u := h.between hs (.refl u) rfl

end

/-- An effect on the part, in every state. -/
def Effects (trip : Prop) (f : State → State) : Prop := ∀ s, OwnEffect trip s (f s)

/-- An effect that leaves the records, in every state. -/
theorem Effects.of_agree {trip : Prop} {f : State → State} (h : ∀ s, Agree s (f s)) : Effects trip f :=
  fun s => .of_agree (h s)

/-- A guarded effect. -/
theorem Effects.guard {trip : Prop} {c : State → Prop} [∀ s, Decidable (c s)] {f : State → State}
    (h : Effects trip f) : Effects trip (fun s => if c s then f s else s) := by
  intro s
  dsimp only
  split
  · exact h s
  · exact .of_agree (.refl s)

/-! ### The sequencer's commands -/

/-- A lawful run put into the state. -/
theorem OwnEffect.withPto {trip : Prop} {s : State} {r : PtoRun} (hl : Lawful (ptoEnv s) s.ptoRun.pto r.pto)
    (hh : Holding (ptoEnv s) s.ptoRun.pto r.pto) : OwnEffect trip s (s.withPto r) :=
  .of_run hl hh rfl rfl rfl (.inl rfl)

/-- FAULT_CLEAR concerns a drive in FAULT, and no drive that winds down (R74). -/
theorem clearFault_winding (e : PtoEnv) (k d : DriveId) (r : PtoRun) (h : (r.pto.drive d).state = .windingDown) :
    (clearFault e k r).1.pto.drive d = r.pto.drive d := by
  unfold clearFault
  split
  · next hf =>
    split
    · rfl
    · rcases drive_eq_or_other k d with rfl | rfl
      · rw [h] at hf; cases hf
      · simp [enterDisengaged_eq]
  · rfl

/-- What a sample of a discrete does beyond its record. -/
theorem handDiscrete_effects {trip : Prop} (ch : Fin 10) (was : Bool) (o : SampleOutcome) :
    Effects trip (handDiscrete ch was o) := by
  intro s
  unfold handDiscrete
  split
  · exact .of_agree (.refl s)
  · exact .withPto lawful_firstFeedback holding_firstFeedback
  · exact .withPto lawful_feedbackChange holding_feedbackChange
  · exact .of_agree (.refl s)
  · split
    · exact .withPto lawful_cabEngage holding_cabEngage
    · split
      · next h =>
        obtain ⟨-, -, hp⟩ := h
        exact .of_run (.refl _ _) (.refl _) rfl rfl rfl (.inr ⟨by rw [hp]; rfl, rfl⟩)
      · exact .of_agree (.refl s)

/-- A sample of a discrete. -/
theorem takeDiscrete_effects {trip : Prop} (ch : Fin 10) (b : Bool) : Effects trip (takeDiscrete ch b) := by
  intro s
  refine .after ?_ (handDiscrete_effects ch _ _ _)
  exact ⟨rfl, rfl, rfl, rfl, rfl⟩

/-- The overspeed alarm drops AUX or leaves it, and the monitor is TRIPPED (R69, R162). -/
theorem tripOverspeed_effects : Effects True tripOverspeed := by
  intro s
  have main (r : PtoRun) : (autoDrop (ptoEnv s) r).pto.drive .main = r.pto.drive .main :=
    dropDrive_other (ptoEnv s) .main .auxSpeed r
  unfold tripOverspeed
  dsimp only
  split
  · exact
      { lawful := lawful_dropDrive (r := s.ptoRun)
        winding := fun _ d hd hs hx => by
          rcases hd with rfl | hd
          · refine .inl (.inl ?_)
            have h := main (State.ptoRun s)
            exact ⟨(congrArg Drive.state h).trans hs, (congrArg Drive.waiver h).trans hx⟩
          · exact absurd trivial hd
        power := .inl rfl
        governor := id
        path := rfl
        lockout := fun h => h.congr rfl rfl rfl
        overspeed := fun h => absurd trivial h
        port := id }
  · exact .of_records rfl rfl id rfl (fun h => h.congr rfl rfl rfl) (fun h => absurd trivial h) id

/-! ### The port's commands -/

/-- A change of the port's record with its notices. -/
theorem OwnEffect.putChassis {trip : Prop} {s : State} {r : Chassis × List Notice}
    (h : r.1.port = .off → s.chassis.port = .off) : OwnEffect trip s (putChassis r s) :=
  .of_port rfl rfl rfl rfl h

/-- New counts give the port one of the two states on the bus (R41). -/
theorem withCounts_on_bus (tec rec : Nat) (ch : Chassis) : (withCounts tec rec ch).1.port ≠ .off := by
  rw [withCounts_port]
  split <;> decide

/-- A transmit error leaves the port in no state OFF (R41, R42). -/
theorem sendFailed_port (c : Settings) (i : Fin 4) (ch : Chassis) : (sendFailed c i ch).1.port ≠ .off := by
  unfold sendFailed
  dsimp only
  split
  · unfold enterBusOff startRecovery
    dsimp only
    split <;> exact nofun
  · exact withCounts_on_bus _ _ _

/-- A recessive run leaves a port OFF as it was. -/
theorem recessiveRun_port (ch : Chassis) : (recessiveRun ch).1.port = .off → ch.port = .off := by
  unfold recessiveRun
  split
  · next h =>
    split
    · exact nofun
    · exact fun hx => hx
  · exact id

/-- A frame of another node. -/
theorem receiveFrame_effects {trip : Prop} (f : BusFrame) : Effects trip (receiveFrame f) := by
  intro s
  cases f <;> exact .putChassis fun h => absurd h (withCounts_on_bus _ _ _)

/-- The end of a sending attempt. -/
theorem endAttempt_effects {trip : Prop} {f : Fin 4 → State → State} (h : ∀ i, Effects trip (f i)) :
    Effects trip (endAttempt f) := by
  intro s
  unfold endAttempt
  split
  · exact .of_agree (.refl s)
  · exact h _ s

/-- A lost arbitration. -/
theorem loseArbitration_effects {trip : Prop} (winner : Option BusFrame) (i : Fin 4) :
    Effects trip (loseArbitration winner i) := by
  intro s
  unfold loseArbitration
  split
  · exact .of_agree ⟨rfl, rfl, rfl, rfl, rfl⟩
  · split
    · refine .after ?_ (receiveFrame_effects _ _)
      exact ⟨rfl, rfl, rfl, rfl, rfl⟩
    · exact .of_agree (.refl s)

/-- The offer of a frame. -/
theorem offerFrame_agree (s : State) : Agree s (offerFrame s) := by
  unfold offerFrame
  split <;> exact ⟨rfl, rfl, rfl, rfl, rfl⟩

/-! ### The governor's commands -/

/-- A step of the governor keeps the mode, or moves it between PRESSURE and HOLD (R84). -/
theorem governorStep_sound (s : State) (h : GovernorSound s.gov) : GovernorSound (governorStep s).1 := by
  have inPressure (c : GovSettings) (now : Uptime) (k : Int) (ch : AnalogChan) (g : Governor) (hg : GovernorSound g)
      (hm : g.mode = .pressure) : GovernorSound (stepInPressure c now k ch g).1 := by
    obtain ⟨hn, hp⟩ := hg.pumping (by rw [hm]; decide)
    unfold stepInPressure
    split
    · exact hg
    · exact hg.congr rfl rfl rfl rfl rfl
    · exact hg.pump (by rw [hm]; decide) hn hp (by simp) rfl rfl rfl rfl
  unfold governorStep
  dsimp only
  split
  · exact h.congr rfl rfl rfl rfl rfl
  · exact h.congr rfl rfl rfl rfl rfl
  · exact h.congr rfl rfl rfl rfl rfl
  · exact h.congr rfl rfl rfl rfl rfl
  · next hm =>
    split
    · exact h.congr rfl rfl rfl rfl rfl
    · exact inPressure _ _ _ _ _ (h.congr rfl rfl rfl rfl rfl) hm
  · next hm =>
    split
    · exact h.congr rfl rfl rfl rfl rfl
    · unfold stepInHold
      split
      · obtain ⟨hn, hp⟩ := h.pumping (by rw [hm]; decide)
        exact inPressure _ _ _ _ _ (h.pump (by rw [hm]; decide) hn hp (by simp) rfl rfl rfl rfl) rfl
      · exact h.congr rfl rfl rfl rfl rfl

/-- A step of the governor leaves the throttle path. -/
theorem governorStep_path (s : State) : (governorStep s).1.path = s.gov.path := by
  have inPressure (c : GovSettings) (now : Uptime) (k : Int) (ch : AnalogChan) (g : Governor) :
      (stepInPressure c now k ch g).1.path = g.path := by
    unfold stepInPressure
    split <;> rfl
  unfold governorStep
  dsimp only
  split
  · rfl
  · rfl
  · rfl
  · rfl
  · split
    · rfl
    · exact inPressure _ _ _ _ _
  · split
    · rfl
    · unfold stepInHold
      split
      · exact inPressure _ _ _ _ _
      · rfl

/-- The hold timer's expiry takes HOLD to IDLE (R84). -/
theorem expireGovernorHold_sound (g : Governor) (h : GovernorSound g) : GovernorSound (expireGovernorHold g).1 := by
  unfold expireGovernorHold
  split
  · next hm => exact h.toIdle (h.pumping (by rw [hm]; decide)).1 rfl rfl rfl rfl
  · exact h.congr rfl rfl rfl rfl rfl

/-- The stop timer's expiry takes ROLL to IDLE (R83). -/
theorem expireStop_sound (c : GovSettings) (g : Governor) (h : GovernorSound g) : GovernorSound (expireStop c g) := by
  unfold expireStop
  split
  · next hm => exact h.toIdle (by rw [h.rolling hm]; exact nofun) rfl rfl rfl rfl
  · exact ⟨h.pumping, h.rolling, h.off, h.idle, h.windDown, fun hs => absurd rfl hs⟩

/-- A GOVERN would be accepted: a drive is governed, the mode is not ROLL, and the throttle path is there (R87). -/
theorem governAccepted_facts {s : State} (h : governAccepted s = true) :
    s.gov.governed ≠ none ∧ s.gov.mode ≠ .roll ∧ s.gov.path = .available := by
  simp only [governAccepted, Bool.and_eq_true, decide_eq_true_eq] at h
  obtain ⟨⟨hg, hm⟩, hp⟩ := h
  refine ⟨fun hn => ?_, hm, hp⟩
  rw [hn] at hg
  cases hg

/-- An accepted GOVERN PRESSURE (R87). -/
theorem governPressure_sound {s : State} (ha : governAccepted s = true) (h : GovernorSound s.gov) :
    GovernorSound (governPressure s.gov) := by
  obtain ⟨hn, hm, hp⟩ := governAccepted_facts ha
  unfold governPressure
  split
  · exact h
  · exact h.congr rfl rfl rfl rfl rfl
  · exact h.pump hm hn hp (by simp) rfl rfl rfl rfl

/-- An accepted GOVERN SPEED (R87). -/
theorem governSpeed_sound {s : State} (ha : governAccepted s = true) (h : GovernorSound s.gov) :
    GovernorSound (governSpeed s.gov) := by
  obtain ⟨hn, hm, hp⟩ := governAccepted_facts ha
  unfold governSpeed
  split
  · exact h
  · exact h.pump hm hn hp (by simp) rfl rfl rfl rfl

/-- The governor's part of RESUME (R90). -/
theorem resumeGovernor_sound {s : State} {g : Governor} (hr : resumeGovernor s = some g) (h : GovernorSound s.gov) :
    GovernorSound g ∧ g.path = s.gov.path := by
  unfold resumeGovernor at hr
  split at hr
  · next hc =>
    obtain ⟨hn, hm, hp⟩ := governAccepted_facts hc.2
    split at hr
    · cases hr
    · cases hr; exact ⟨h.pump hm hn hp (by simp) rfl rfl rfl rfl, rfl⟩
    · cases hr; exact ⟨h.pump hm hn hp (by simp) rfl rfl rfl rfl, rfl⟩
  · cases hr

end Sys2Proof.Machine
end

section
/-! SUPPORT. The own effect of every command that is no starting point, by the command. -/

namespace Sys2Proof.Machine

/-! ### Requests -/

theorem handleEngage_effect {trip : Prop} (d : Byte) (s : State) : OwnEffect trip s (handleEngage d s).state := by
  unfold handleEngage
  split
  · exact .of_agree (.refl s)
  · exact .withPto lawful_engageDrive (holding_engageDrive (r := s.ptoRun))

theorem handleDisengage_effect {trip : Prop} (d : Byte) (s : State) :
    OwnEffect trip s (handleDisengage d s).state := by
  unfold handleDisengage
  split
  · exact .of_agree (.refl s)
  · exact .withPto lawful_disengageDrive (holding_disengageDrive (r := s.ptoRun))

theorem handleFaultClear_effect {trip : Prop} (b : Byte) (s : State) :
    OwnEffect trip s (handleFaultClear b s).state := by
  unfold handleFaultClear
  split
  · exact .of_agree (.refl s)
  · next k _ =>
    exact
      { lawful := lawful_clearFault (r := s.ptoRun)
        winding := fun _ d _ hs hx => by
          have hk : (clearFault (ptoEnv s) k s.ptoRun).1.pto.drive d = s.pto.drive d :=
            clearFault_winding (ptoEnv s) k d s.ptoRun hs
          exact .inl (.inl ⟨(congrArg Drive.state hk).trans hs, (congrArg Drive.waiver hk).trans hx⟩)
        power := .inl rfl
        governor := id
        path := rfl
        lockout := id
        overspeed := fun _ => ⟨rfl, rfl⟩
        port := id }

theorem handleGovern_effect {trip : Prop} (mode : Byte) (v : BitVec 16) (s : State) :
    OwnEffect trip s (handleGovern mode v s).state := by
  unfold handleGovern handleGovernPressure handleGovernSpeed
  split
  · split
    · next ha =>
      refine .of_governor rfl rfl rfl rfl (governPressure_sound ha) ?_
      show (governPressure s.gov).path = _
      unfold governPressure
      split <;> rfl
    · exact .of_agree (.refl s)
  · split
    · split
      · next ha =>
        refine .of_governor rfl rfl rfl rfl (governSpeed_sound ha) ?_
        show (governSpeed s.gov).path = _
        unfold governSpeed
        split <;> rfl
      · exact .of_agree (.refl s)
    · exact .of_agree (.refl s)

theorem handlePumpIdle_effect {trip : Prop} (s : State) : OwnEffect trip s (handlePumpIdle s).state := by
  have idle (hm : s.gov.mode ∈ [GovMode.pressure, .speed, .hold]) :
      OwnEffect trip s { s with gov := enterIdle s.gov } :=
    .of_governor rfl rfl rfl rfl (fun h => h.toIdle (h.pumping hm).1 rfl rfl rfl rfl) rfl
  unfold handlePumpIdle
  split
  · next hm => exact idle (by rw [hm]; decide)
  · next hm => exact idle (by rw [hm]; decide)
  · next hm => exact idle (by rw [hm]; decide)
  · exact .of_agree (.refl s)
  · exact .of_agree (.refl s)
  · exact .of_agree (.refl s)

theorem handleResume_effect {trip : Prop} (s : State) : OwnEffect trip s (handleResume s).state := by
  have hg : (GovernorSound s.gov → GovernorSound ((resumeGovernor s).getD s.gov)) ∧
      (GovernorSound s.gov → ((resumeGovernor s).getD s.gov).path = s.gov.path) := by
    cases hr : resumeGovernor s with
    | none => exact ⟨id, fun _ => rfl⟩
    | some g => exact ⟨fun h => (resumeGovernor_sound hr h).1, fun h => (resumeGovernor_sound hr h).2⟩
  have hpath : ((resumeGovernor s).getD s.gov).path = s.gov.path := by
    unfold resumeGovernor
    split
    · split <;> rfl
    · rfl
  exact .of_governor rfl rfl rfl rfl hg.1 hpath

theorem handleRelease_effect {trip : Prop} (b : Byte) (s : State) : OwnEffect trip s (handleRelease b s).state := by
  unfold handleRelease
  split
  · exact .of_agree (.refl s)
  · next a _ =>
    have hk : (LockoutSound s.lock → LockoutSound (releaseAction s.time.uptime a s.lock).1) ∧
        (releaseAction s.time.uptime a s.lock).1.overspeed = s.lock.overspeed ∧
        (releaseAction s.time.uptime a s.lock).1.overspeedTimer = s.lock.overspeedTimer := by
      unfold releaseAction
      dsimp only
      split
      · next hs =>
        refine ⟨fun h => h.setAction a (.inr ?_) rfl, by cases a <;> rfl, by cases a <;> rfl⟩
        simp [actionTo, hs]
      · next hs =>
        refine ⟨fun h => h.setAction a (.inr ?_) rfl, by cases a <;> rfl, by cases a <;> rfl⟩
        simp [actionTo, hs]
      · exact ⟨id, rfl, rfl⟩
      · exact ⟨id, rfl, rfl⟩
      · exact ⟨id, rfl, rfl⟩
    exact .of_actions rfl rfl rfl rfl hk.1 hk.2

theorem handleForce_effect {trip : Prop} (b : Byte) (s : State) : OwnEffect trip s (handleForce b s).state := by
  unfold handleForce
  split
  · exact .of_actions rfl rfl rfl rfl (fun h => h.congr rfl rfl rfl) ⟨rfl, rfl⟩
  · split
    · exact .of_actions rfl rfl rfl rfl (fun h => h.congr rfl rfl rfl) ⟨rfl, rfl⟩
    · exact .of_agree (.refl s)

theorem handleRecover_effect {trip : Prop} (s : State) : OwnEffect trip s (handleRecover s).state := by
  unfold handleRecover
  split
  · exact .of_port rfl rfl rfl rfl nofun
  · exact .of_agree (.refl s)

/-! ### Changes of settings -/

section
variable {e : PtoEnv} {r : PtoRun}

/-- A guarded run of the sequencer. -/
theorem Lawful.guard {r' : PtoRun} (c : Bool) (h : Lawful e r.pto r'.pto) :
    Lawful e r.pto (if c then r' else r).pto := by
  split
  · exact h
  · exact .refl e r.pto

theorem Holding.guard {r' : PtoRun} (c : Bool) (h : Holding e r.pto r'.pto) :
    Holding e r.pto (if c then r' else r).pto := by
  split
  · exact h
  · exact .refl r.pto

end

theorem lawful_retunePto (old new : Settings) (s : State) : Lawful (ptoEnv s) s.pto (retunePto old new s).pto := by
  unfold retunePto
  exact ((Lawful.guard (r := s.ptoRun) _ lawful_feedbackChange).trans (.guard _ lawful_feedbackChange)).trans
    (.guard _ lawful_cabEngage)

theorem holding_retunePto (old new : Settings) (s : State) : Holding (ptoEnv s) s.pto (retunePto old new s).pto := by
  unfold retunePto
  exact ((Holding.guard (r := s.ptoRun) _ holding_feedbackChange).trans (.guard _ holding_feedbackChange)).trans
    (.guard _ holding_cabEngage)

/-- A change of settings leaves a port OFF as it was (R25, R43). -/
theorem retuneChassis_port (old new : Settings) (ch : Chassis) :
    (retuneChassis old new ch).1.port = .off → ch.port = .off := by
  unfold retuneChassis retuneRecovery retuneBitRate
  dsimp only
  split
  · split
    · exact nofun
    · exact nofun
  · split
    · exact nofun
    · exact id

/-- New working settings. -/
theorem applySettings_effects {trip : Prop} (new : Settings) : Effects trip (applySettings new) := by
  intro s
  let s1 : State := { s with
    settings := new, inputs := retuneInputs s.settings new s.inputs, chassis := (retuneChassis s.settings new s.chassis).1
    gov := retuneGovernor s.settings.gov new.gov s.gov
    link := retuneLink s.time.uptime s.settings.link new.link s.link }
  have hg : (GovernorSound s.gov → GovernorSound s1.gov) ∧ s1.gov.path = s.gov.path := by
    show (_ → GovernorSound (retuneGovernor _ _ _)) ∧ (retuneGovernor _ _ _).path = _
    unfold retuneGovernor
    split
    · exact ⟨fun h => h.congr rfl rfl rfl rfl rfl, rfl⟩
    · exact ⟨id, rfl⟩
  exact
    { lawful := lawful_retunePto s.settings new s1
      winding := fun hr d _ hs hx => holding_retunePto s.settings new s1 hr d (.inl ⟨hs, hx⟩)
      power := .inl rfl
      governor := hg.1
      path := hg.2
      lockout := id
      overspeed := fun _ => ⟨rfl, rfl⟩
      port := retuneChassis_port s.settings new s.chassis }

theorem handleSet_effect {trip : Prop} (o i : Byte) (es : List FieldEntry) (s : State) :
    OwnEffect trip s (handleSet o i es s).state := by
  unfold handleSet
  split
  · exact .of_agree (.refl s)
  · split
    · exact .of_agree (.refl s)
    · split
      · exact .of_agree (.refl s)
      · split
        · exact .of_agree (.refl s)
        · split
          · exact .of_agree (.refl s)
          · exact applySettings_effects _ s

theorem handleRecall_effect {trip : Prop} (s : State) : OwnEffect trip s (handleRecall s).state := by
  unfold handleRecall
  split
  · exact .of_agree (.refl s)
  · split
    · exact .of_agree (.refl s)
    · split
      · exact .of_agree (.refl s)
      · exact applySettings_effects _ s

/-- The requests of the tank gauge, of the objects, of the monitor list and of the stored copy leave the records that the
effects are about. -/
theorem Handled.agree_or {s : State} {a : Answer} (h : Handled s a) :
    Agree s a.state ∨ (∃ d, a = handleEngage d s) ∨ (∃ d, a = handleDisengage d s) ∨ (∃ d, a = handleFaultClear d s) ∨
    (∃ m v, a = handleGovern m v s) ∨ a = handlePumpIdle s ∨ a = handleResume s ∨ (∃ b, a = handleRelease b s) ∨
    (∃ b, a = handleForce b s) ∨ a = handleRecover s ∨ (∃ o i es, a = handleSet o i es s) ∨ a = handleRecall s := by
  cases h with
  | engage d => exact .inr (.inl ⟨d, rfl⟩)
  | disengage d => exact .inr (.inr (.inl ⟨d, rfl⟩))
  | faultClear d => exact .inr (.inr (.inr (.inl ⟨d, rfl⟩)))
  | govern m v => exact .inr (.inr (.inr (.inr (.inl ⟨m, v, rfl⟩))))
  | pumpIdle => exact .inr (.inr (.inr (.inr (.inr (.inl rfl)))))
  | resume => exact .inr (.inr (.inr (.inr (.inr (.inr (.inl rfl))))))
  | release b => exact .inr (.inr (.inr (.inr (.inr (.inr (.inr (.inl ⟨b, rfl⟩)))))))
  | force b => exact .inr (.inr (.inr (.inr (.inr (.inr (.inr (.inr (.inl ⟨b, rfl⟩))))))))
  | recover => exact .inr (.inr (.inr (.inr (.inr (.inr (.inr (.inr (.inr (.inl rfl)))))))))
  | set o i es => exact .inr (.inr (.inr (.inr (.inr (.inr (.inr (.inr (.inr (.inr (.inl ⟨o, i, es, rfl⟩))))))))))
  | recallStored => exact .inr (.inr (.inr (.inr (.inr (.inr (.inr (.inr (.inr (.inr (.inr rfl))))))))))
  | plain | identify | snapshot | fillStop | reportRate => exact .inl ⟨rfl, rfl, rfl, rfl, rfl⟩
  | read o i => refine .inl ?_; unfold handleRead; split <;> exact ⟨rfl, rfl, rfl, rfl, rfl⟩
  | store tag => refine .inl ?_; unfold handleStore takeStore; dsimp only; split <;> exact ⟨rfl, rfl, rfl, rfl, rfl⟩
  | fillStart v => refine .inl ?_; unfold handleFillStart; split <;> exact ⟨rfl, rfl, rfl, rfl, rfl⟩
  | foam sel ratio =>
    refine .inl ?_
    unfold handleFoam selectFoam
    split
    · exact .refl s
    · split
      · exact ⟨rfl, rfl, rfl, rfl, rfl⟩
      · split
        · exact .refl s
        · split <;> exact ⟨rfl, rfl, rfl, rfl, rfl⟩
  | monitor add o i =>
    refine .inl ?_
    unfold handleMonitor addMonitor
    split
    · exact .refl s
    · exact .refl s
    · split
      · split
        · exact .refl s
        · split <;> exact ⟨rfl, rfl, rfl, rfl, rfl⟩
      · exact ⟨rfl, rfl, rfl, rfl, rfl⟩
  | restart => refine .inl ?_; unfold handleRestart; split <;> exact ⟨rfl, rfl, rfl, rfl, rfl⟩

/-- The own effect of every request. -/
theorem Handled.effect {trip : Prop} {s : State} {a : Answer} (h : Handled s a) : OwnEffect trip s a.state := by
  rcases h.agree_or with h | ⟨d, rfl⟩ | ⟨d, rfl⟩ | ⟨d, rfl⟩ | ⟨m, v, rfl⟩ | rfl | rfl | ⟨b, rfl⟩ | ⟨b, rfl⟩ | rfl |
    ⟨o, i, es, rfl⟩ | rfl
  · exact .of_agree h
  · exact handleEngage_effect d s
  · exact handleDisengage_effect d s
  · exact handleFaultClear_effect d s
  · exact handleGovern_effect m v s
  · exact handlePumpIdle_effect s
  · exact handleResume_effect s
  · exact handleRelease_effect b s
  · exact handleForce_effect b s
  · exact handleRecover_effect s
  · exact handleSet_effect o i es s
  · exact handleRecall_effect s

/-- A frame taken for execution leaves the records. -/
theorem takeRequest_agree (s : State) : Agree s (takeRequest s) := by
  unfold takeRequest
  split <;> exact ⟨rfl, rfl, rfl, rfl, rfl⟩

/-- A reply delivered leaves the records, and what the sequencer sees. -/
theorem deliver_agree (tag : Byte) (a : Answer) :
    Agree a.state (deliver tag a) ∧ ptoEnv (deliver tag a) = ptoEnv a.state := by
  unfold deliver
  split <;> exact ⟨⟨rfl, rfl, rfl, rfl, rfl⟩, rfl⟩

/-- The execution of the awaiting frame. -/
theorem executeAwaiting_effects {trip : Prop} : Effects trip executeAwaiting := by
  intro s
  unfold executeAwaiting
  split
  · exact .of_agree (.refl s)
  · next f _ =>
    split
    · let taken : State := { s with link := { s.link with awaiting := none } }
      obtain ⟨hd, he⟩ := deliver_agree f.tag (judgeFrame f taken)
      exact (judgeFrame_handled f taken).effect.between ⟨rfl, rfl, rfl, rfl, rfl⟩ hd he
    · exact .of_agree (.refl s)

/-! ### The commands -/

section
variable {trip : Prop} {c : Instr} {s t : State}

/-- A command's own effect in a part with supply. -/
def Effective (trip : Prop) (s u : State) : Prop := s.powered = true ∧ OwnEffect trip s u

/-- An event has its effect in a part with supply. -/
theorem event_effective {f : State → State} (h : OwnEffect trip s (f s)) :
    EventOf (Effective trip) s (event f s) := by
  unfold event
  split
  · next hp => exact .inr ⟨f s, ⟨hp, h⟩, rfl⟩
  · exact .inl rfl

/-- An event of a working part has its effect in a part with supply. -/
theorem workingEvent_effective {f : State → State} (h : OwnEffect trip s (f s)) :
    EventOf (Effective trip) s (workingEvent f s) := by
  refine event_effective (f := fun s => if s.working then f s else s) ?_
  split
  · exact h
  · exact .of_agree (.refl s)

/-- An event with its own effect. -/
theorem event_effect {f : State → State} (h : exec c s = .next t) (hc : exec c s = .next (event f s))
    (hf : Effects trip f) : EventOf (Effective trip) s t := by
  cases Host.Outcome.next.inj (h.symm.trans hc)
  exact event_effective (hf s)

/-- An event of a working part with its own effect. -/
theorem workingEvent_effect {f : State → State} (h : exec c s = .next t) (hc : exec c s = .next (workingEvent f s))
    (hf : Effects trip f) : EventOf (Effective trip) s t := by
  cases Host.Outcome.next.inj (h.symm.trans hc)
  exact workingEvent_effective (hf s)

/-- A request's row with the own effect of its handling. -/
theorem request_effect {f : HostFrame} {g : State → Answer} (hg : ∀ s, Handled s (g s)) :
    EventOf (Effective trip) s (request f g s) := by
  refine workingEvent_effective ?_
  split
  · obtain ⟨hd, he⟩ := deliver_agree f.tag (g (takeRequest s))
    exact (hg (takeRequest s)).effect.between (takeRequest_agree s) hd he
  · exact .of_agree (.refl s)

end

/-- What receiving a byte leaves. -/
theorem receiveByte_agree (b : Byte) (s : State) : Agree s (receiveByte b s) := by
  have complete (f : List Byte) : Agree s (completeFrame f s) := by
    unfold completeFrame
    split <;> exact ⟨rfl, rfl, rfl, rfl, rfl⟩
  unfold receiveByte
  dsimp only
  split
  · split <;> exact ⟨rfl, rfl, rfl, rfl, rfl⟩
  · split
    · exact ⟨rfl, rfl, rfl, rfl, rfl⟩
    · split
      · exact complete _
      · exact ⟨rfl, rfl, rfl, rfl, rfl⟩

/-- The end of a STORE leaves the records. -/
theorem finishStore_agree (s : State) : Agree s (finishStore s) := by
  unfold finishStore answerStore
  split
  · dsimp only
    split <;> exact ⟨rfl, rfl, rfl, rfl, rfl⟩
  · exact ⟨rfl, rfl, rfl, rfl, rfl⟩

/-- The end of a frame on the line leaves the records. -/
theorem endFrame_agree (s : State) : Agree s (endFrame s) := by
  unfold endFrame
  split
  · exact .refl s
  · dsimp only
    split
    · split <;> exact ⟨rfl, rfl, rfl, rfl, rfl⟩
    · exact ⟨rfl, rfl, rfl, rfl, rfl⟩
    · exact ⟨rfl, rfl, rfl, rfl, rfl⟩

/-- The expiry of an action's hold-off timer (R154). -/
theorem holdOff_effects {trip : Prop} (a : ActionId) :
    Effects trip fun s => putLockout (expireHoldOff s.time.uptime a s.lock) s := by
  intro s
  have hk : (LockoutSound s.lock → LockoutSound (expireHoldOff s.time.uptime a s.lock).1) ∧
      (expireHoldOff s.time.uptime a s.lock).1.overspeed = s.lock.overspeed ∧
      (expireHoldOff s.time.uptime a s.lock).1.overspeedTimer = s.lock.overspeedTimer := by
    unfold expireHoldOff
    dsimp only
    split
    · next hs =>
      refine ⟨fun h => h.setAction a (.inr ?_) rfl, by cases a <;> rfl, by cases a <;> rfl⟩
      simp [actionTo, hs]
    · exact ⟨fun h => h.setAction a (.inl rfl) rfl, by cases a <;> rfl, by cases a <;> rfl⟩
  exact .of_actions rfl rfl rfl rfl hk.1 hk.2

/-- A port's slot that falls due. -/
theorem OwnEffect.fallDue {trip : Prop} {s : State} (c : Settings) (i : Fin 4) {ch : Chassis}
    (hp : ch.port = s.chassis.port) : OwnEffect trip s { s with chassis := Machine.fallDue c i ch } :=
  .of_port rfl rfl rfl rfl (by rw [fallDue_port, hp]; exact id)

/-- Every command that is no starting point and leaves the supply is an event with such an own effect, or nothing. -/
theorem exec_ownEffect (c : Instr) (s t : State) (hc : mayStart c = false) (h : exec c s = .next t) :
    EventOf (Effective (c = .overspeedExpiry)) s t := by
  have same {trip : Prop} {f : State → State} (hf : ∀ s, Agree s (f s)) : Effects trip f := .of_agree hf
  have row {trip : Prop} {u : State} {f : HostFrame} {g : State → Answer} (hu : exec c s = .next u)
      (he : u = request f g s) (hg : ∀ s, Handled s (g s)) : EventOf (Effective trip) s t := by
    cases Host.Outcome.next.inj (h.symm.trans (hu.trans (congrArg _ he)))
    exact request_effect hg
  match c with
  | .powerOn | .meterWriteComplete | .settlingEnd | .lossOfSupply => cases hc
  | .millisecondEnd => exact event_effect h rfl (same fun _ => ⟨rfl, rfl, rfl, rfl, rfl⟩)
  | .meterWriteStart => exact event_effect h rfl (.guard (same fun _ => ⟨rfl, rfl, rfl, rfl, rfl⟩))
  | .analogSample ch raw => exact event_effect h rfl (.guard (same fun _ => ⟨rfl, rfl, rfl, rfl, rfl⟩))
  | .holdExpiry ch => exact event_effect h rfl (.guard (same fun _ => ⟨rfl, rfl, rfl, rfl, rfl⟩))
  | .pulseInterval ch n => exact workingEvent_effect h rfl (.guard (same fun _ => ⟨rfl, rfl, rfl, rfl, rfl⟩))
  | .discreteSample ch b => exact event_effect h rfl (.guard (takeDiscrete_effects ch b))
  | .agreementExpiry => exact workingEvent_effect h rfl (.guard (same fun _ => ⟨rfl, rfl, rfl, rfl, rfl⟩))
  | .rxDataFrame id bytes => exact workingEvent_effect h rfl (.guard (receiveFrame_effects _))
  | .rxRemoteFrame id => exact workingEvent_effect h rfl (.guard (receiveFrame_effects _))
  | .receiveError =>
    exact workingEvent_effect h rfl (.guard fun _ => .putChassis fun hx => absurd hx (withCounts_on_bus _ _ _))
  | .ageExpiry slot => exact workingEvent_effect h rfl (.guard (same fun _ => ⟨rfl, rfl, rfl, rfl, rfl⟩))
  | .transmitOffer => exact workingEvent_effect h rfl (.guard (same offerFrame_agree))
  | .frameSent =>
    exact workingEvent_effect h rfl (.guard (endAttempt_effects fun _ _ => .putChassis fun hx =>
      absurd hx (withCounts_on_bus _ _ _)))
  | .lostArbitration winner =>
    exact workingEvent_effect h rfl (.guard (endAttempt_effects (loseArbitration_effects winner)))
  | .transmitError =>
    exact workingEvent_effect h rfl (.guard (endAttempt_effects fun _ _ => .putChassis fun hx =>
      absurd hx (sendFailed_port _ _ _)))
  | .recoveryComplete => exact workingEvent_effect h rfl (.guard fun _ => .putChassis nofun)
  | .recessiveRun => exact workingEvent_effect h rfl fun s => .putChassis (recessiveRun_port s.chassis)
  | .busJoin => exact workingEvent_effect h rfl (.guard fun _ => .fallDue _ 1 rfl)
  | .t0Period => exact workingEvent_effect h rfl (.guard fun _ => .fallDue _ 0 rfl)
  | .t1Period => exact workingEvent_effect h rfl (.guard fun _ => .fallDue _ 1 rfl)
  | .t2Period => exact workingEvent_effect h rfl (.guard fun _ => .fallDue _ 2 rfl)
  | .chassisRecover tag => exact row rfl rfl fun _ => .recover
  | .ptoEngage tag d => exact row rfl rfl fun _ => .engage d
  | .ptoDisengage tag d => exact row rfl rfl fun _ => .disengage d
  | .faultClear tag d => exact row rfl rfl fun _ => .faultClear d
  | .govern tag m v => exact row rfl rfl fun _ => .govern m v
  | .pumpIdle tag => exact row rfl rfl fun _ => .pumpIdle
  | .resume tag => exact row rfl rfl fun _ => .resume
  | .fillStart tag v => exact row rfl rfl fun _ => .fillStart v
  | .fillStop tag => exact row rfl rfl fun _ => .fillStop
  | .foam tag sel ratio => exact row rfl rfl fun _ => .foam sel ratio
  | .release tag a => exact row rfl rfl fun _ => .release a
  | .force tag v => exact row rfl rfl fun _ => .force v
  | .identify tag => exact row rfl rfl fun _ => .identify
  | .read tag o i => exact row rfl rfl fun _ => .read o i
  | .snapshot tag => exact row rfl rfl fun _ => .snapshot
  | .store tag => exact row rfl rfl fun _ => .store tag
  | .recall tag => exact row rfl rfl fun _ => .recallStored
  | .monitorAdd tag o i => exact row rfl rfl fun _ => .monitor true o i
  | .monitorRemove tag o i => exact row rfl rfl fun _ => .monitor false o i
  | .reportRate tag v => exact row rfl rfl fun _ => .reportRate v
  | .restart tag => exact row rfl rfl fun _ => .restart
  | .unknownKind tag kind =>
    cases h
    split
    · exact .inl rfl
    · exact request_effect fun _ => .plain _
  | .set tag o i es =>
    cases h
    split
    · refine request_effect fun s => ?_
      split
      · exact .plain _
      · exact .set o i es
    · exact .inl rfl
  | .requestRecheck d =>
    exact workingEvent_effect h rfl (.guard fun s => .withPto lawful_recheckDrive (holding_recheckDrive (r := s.ptoRun)))
  | .requestWindowExpiry d =>
    exact workingEvent_effect h rfl (.guard fun s => .withPto lawful_expireWindow (holding_expireWindow (r := s.ptoRun)))
  | .shiftTimeout d =>
    exact workingEvent_effect h rfl (.guard fun s => .withPto lawful_expireShift (holding_expireShift (r := s.ptoRun)))
  | .settleExpiry d =>
    exact workingEvent_effect h rfl (.guard fun s => .withPto lawful_expireSettle (holding_expireSettle (r := s.ptoRun)))
  | .windDownRecheck d =>
    exact workingEvent_effect h rfl (.guard fun s => .withPto lawful_recheckDrive (holding_recheckDrive (r := s.ptoRun)))
  | .windDownNoticeExpiry d =>
    exact workingEvent_effect h rfl
      (.guard fun s => .withPto lawful_expireWindDown (holding_expireWindDown (r := s.ptoRun)))
  | .releaseTimeout d =>
    exact workingEvent_effect h rfl
      (.guard fun s => .withPto lawful_expireRelease (holding_expireRelease (r := s.ptoRun)))
  | .uncommandedExpiry d =>
    exact workingEvent_effect h rfl
      (.guard fun s => .withPto lawful_expireUncommanded (holding_expireUncommanded (r := s.ptoRun)))
  | .governorStep =>
    exact workingEvent_effect h rfl (.guard fun s =>
      .of_governor rfl rfl rfl rfl (governorStep_sound s) (governorStep_path s))
  | .governorHoldExpiry =>
    refine workingEvent_effect h rfl (.guard fun s => .of_governor rfl rfl rfl rfl (expireGovernorHold_sound s.gov) ?_)
    show (expireGovernorHold s.gov).1.path = _
    unfold expireGovernorHold
    split <;> rfl
  | .stopTimerExpiry =>
    refine workingEvent_effect h rfl (.guard fun s => .of_governor rfl rfl rfl rfl (expireStop_sound _ s.gov) ?_)
    show (expireStop _ s.gov).path = _
    unfold expireStop
    split <;> rfl
  | .protectionStep => exact workingEvent_effect h rfl (.guard (same fun _ => ⟨rfl, rfl, rfl, rfl, rfl⟩))
  | .qualificationExpiry => exact workingEvent_effect h rfl (.guard (same fun _ => ⟨rfl, rfl, rfl, rfl, rfl⟩))
  | .resumeTimerExpiry => exact workingEvent_effect h rfl (.guard (same fun _ => ⟨rfl, rfl, rfl, rfl, rfl⟩))
  | .gaugeEvent => exact workingEvent_effect h rfl (.guard (same fun _ => ⟨rfl, rfl, rfl, rfl, rfl⟩))
  | .fillTimeout => exact workingEvent_effect h rfl (.guard (same fun _ => ⟨rfl, rfl, rfl, rfl, rfl⟩))
  | .burstTimerExpiry => exact event_effect h rfl (.guard (same fun _ => ⟨rfl, rfl, rfl, rfl, rfl⟩))
  | .burstEvent => exact event_effect h rfl (.guard (same fun _ => ⟨rfl, rfl, rfl, rfl, rfl⟩))
  | .holdOffExpiry a => exact workingEvent_effect h rfl (.guard (holdOff_effects a))
  | .overspeedExpiry =>
    rw [eq_self]
    exact workingEvent_effect h rfl (.guard tripOverspeed_effects)
  | .frameReceived f =>
    refine workingEvent_effect h rfl (.guard (same fun s => ?_))
    unfold completeFrame
    split <;> exact ⟨rfl, rfl, rfl, rfl, rfl⟩
  | .characterError e => exact workingEvent_effect h rfl (.guard (same fun _ => ⟨rfl, rfl, rfl, rfl, rfl⟩))
  | .interByteTimeout => exact workingEvent_effect h rfl (.guard (same fun _ => ⟨rfl, rfl, rfl, rfl, rfl⟩))
  | .executionStart => exact workingEvent_effect h rfl executeAwaiting_effects
  | .lineBreak =>
    refine event_effect h rfl fun s => ?_
    split
    · exact .of_agree ⟨rfl, rfl, rfl, rfl, rfl⟩
    · exact .of_agree ⟨rfl, rfl, rfl, rfl, rfl⟩
    · next hp =>
      exact .of_run (.refl _ _) (.refl _) rfl rfl rfl (.inr ⟨by rw [hp]; rfl, rfl⟩)
    · exact .of_agree (.refl s)
  | .storeComplete => exact event_effect h rfl (.guard (same finishStore_agree))
  | .spacingExpiry i => exact workingEvent_effect h rfl (.guard (same fun _ => ⟨rfl, rfl, rfl, rfl, rfl⟩))
  | .statusPeriod => exact workingEvent_effect h rfl (.guard (same fun _ => ⟨rfl, rfl, rfl, rfl, rfl⟩))
  | .txFrameStart =>
    refine workingEvent_effect h rfl (.guard (same fun s => ?_))
    split
    · exact .refl s
    · next c _ => cases c <;> exact ⟨rfl, rfl, rfl, rfl, rfl⟩
  | .txFrameEnd => exact event_effect h rfl (same endFrame_agree)
  | .restartProceed => exact event_effect h rfl (.guard (same fun _ => ⟨rfl, rfl, rfl, rfl, rfl⟩))
  | .silenceExpiry => exact workingEvent_effect h rfl (.guard (same fun _ => ⟨rfl, rfl, rfl, rfl, rfl⟩))
  | .rundownTimeout => exact workingEvent_effect h rfl (.guard (same fun _ => ⟨rfl, rfl, rfl, rfl, rfl⟩))
  | .receivedByte b => exact workingEvent_effect h rfl (same (receiveByte_agree b))

end Sys2Proof.Machine
end

section
/-! SUPPORT. One shift at a time (R58), and O6. -/

namespace Sys2Proof.Machine

/-- What follows an event keeps one shift. -/
theorem settle_oneShift (s : State) {u : State} (h : OneShift u) : OneShift (settle s u) := by
  by_cases hw : u.working = true
  · obtain ⟨m, hm⟩ := settle_drivesTurn s hw
    exact (oneShift_iff _).mpr (hm.lawful.oneShift ((oneShift_iff u).mp h))
  · have hs : settle s u = refreshOutputs u := if_neg hw
    rw [hs]
    exact h

/-- An event keeps one shift if its own effect does. -/
theorem event_oneShift {f : State → State} {s : State} (hs : OneShift s) (hf : OneShift (f s)) :
    OneShift (event f s) := by
  unfold event
  split
  · exact settle_oneShift s hf
  · exact hs

/-- The end of a meter write leaves the drives. -/
theorem finishMeterWrite_pto (m a r : Nat) (s : State) : (finishMeterWrite m a r s).pto = s.pto := by
  unfold finishMeterWrite
  dsimp only
  split <;> rfl

/-- The entry to WATCH keeps one shift (R76). -/
theorem enterWatch_oneShift (cause : PowerCause) {s s' : State} (hp : s'.pto = s.pto) (h : OneShift s) :
    OneShift (enterWatch cause s') := by
  rw [oneShift_iff, ← hp] at h
  exact (oneShift_iff _).mpr ((lawful_ptoToWatch (e := ptoEnv s') (r := s'.ptoRun)).oneShift h)

/-- The completion of a meter write leaves the drives, or takes them to WATCH. -/
theorem completeWrite_oneShift (m a r : Nat) (w : Bool) {s : State} (h : OneShift s) :
    OneShift (completeWrite m a r w s) := by
  have hf := finishMeterWrite_pto m a r s
  have hsame {v : State} (hv : v.pto = s.pto) : OneShift v := by
    rw [oneShift_iff, hv]
    exact (oneShift_iff s).mp h
  unfold completeWrite watchWriteDone
  dsimp only
  split
  · split
    · split
      · exact enterWatch_oneShift _ hf h
      · exact hsame hf
    · exact enterWatch_oneShift _ hf h
    · exact hsame hf
  · exact hsame hf

/-- Drives at a starting point hold no shift. -/
theorem oneShift_driveStart {s : State} {now : Uptime}
    (h : s.pto = { main := driveStart now, aux := driveStart now }) : OneShift s := by
  unfold OneShift
  rw [h]
  simp [driveStart]

/-- Every command keeps one shift. -/
theorem exec_oneShift (c : Instr) (s t : State) (hs : OneShift s) (h : exec c s = .next t) : OneShift t := by
  cases hc : mayStart c
  · rcases exec_ownEffect c s t hc h with rfl | ⟨u, ⟨-, hu⟩, rfl⟩
    · exact hs
    · exact settle_oneShift s ((oneShift_iff u).mpr (hu.lawful.oneShift ((oneShift_iff s).mp hs)))
  · match c with
    | .powerOn => cases h; exact oneShift_driveStart rfl
    | .lossOfSupply => cases h; exact hs
    | .settlingEnd =>
      cases h
      split
      · rcases settled_cases s with ⟨-, hst⟩ | ⟨-, hst⟩ <;> rw [hst] <;> exact oneShift_driveStart rfl
      · exact hs
    | .meterWriteComplete =>
      cases h
      split
      · next m a r w _ _ =>
        split
        · split
          · refine event_oneShift hs ?_
            show OneShift (awaitSettling (finishMeterWrite m a r s))
            rw [oneShift_iff, awaitSettling_pto, finishMeterWrite_pto]
            exact (oneShift_iff s).mp hs
          · exact oneShift_driveStart rfl
        · exact event_oneShift hs (completeWrite_oneShift m a r w hs)
      · exact hs

/-- Settles O6, by the command that the step takes from the queue. -/
theorem stepKeepsOneShift : Obligations.StepKeepsOneShift := by
  intro s t hs h
  unfold step at h
  split at h
  · cases h; exact hs
  · exact exec_oneShift _ _ t (by exact hs) h

end Sys2Proof.Machine
end

section
/-! SUPPORT. Events in a part whose power controller lets the drives be: the ignition is on, or it is off in RUNDOWN. There the
sequencer's turn alone decides on the drives, and what the event posts is known notice by notice (R70, R181, R184, R190). -/

namespace Sys2Proof.Machine

/-! ### The power controller at rest -/

/-- The power controller neither starts nor ends a RUNDOWN (R190, R191). -/
def Undisturbed (s : State) : Prop := IgnitionOn s ∨ InRundown s

section
variable {s : State} (h : Undisturbed s)
include h

theorem Undisturbed.working : s.working = true := by
  rcases h with ⟨hp, hs, -⟩ | ⟨hp, hs, -⟩ <;> simp [State.working, Machine.working, hp, hs]

theorem Undisturbed.powerCalm : PowerCalm s := by
  rcases h with ⟨-, hs, h8⟩ | ⟨-, hs, h8⟩
  · exact ⟨fun _ _ h0 => (Bool.noConfusion (h8.symm.trans h0)), fun _ hr => absurd (hs.symm.trans hr) nofun⟩
  · exact ⟨fun _ ha => absurd (hs.symm.trans ha) nofun, fun _ _ => h8⟩

/-- The power controller's turns leave the drives, the power state and the notices. -/
theorem Undisturbed.powerReact :
    (powerReact s).pto = s.pto ∧ (powerReact s).power.state = s.power.state ∧ (powerReact s).notices = s.notices ∧
    (powerReact s).time.uptime = s.time.uptime := by
  rcases h.powerCalm.powerReact with e | ⟨c, e⟩ <;> rw [e] <;> exact ⟨rfl, rfl, rfl, rfl⟩

/-- A state that agrees in the ignition and the power state. -/
theorem Undisturbed.of_sees {t : State} (hs : Sees s t) (hp : t.powered = s.powered)
    (hw : t.power.state = s.power.state) : Undisturbed t := by
  unfold Undisturbed IgnitionOn InRundown
  rw [hp, hw, hs.level]
  exact h

end

/-! ### The sequencer's turn on two states that it cannot tell apart -/

/-- Whether a drive is to be checked, on two states that agree in what the sequencer reads. -/
theorem sourcesChanged_sees {b s t : State} (h : Sees s t) (hp : t.pto = s.pto) (hw : t.power.state = s.power.state)
    (d : DriveId) : sourcesChanged b t d = sourcesChanged b s d := by
  unfold sourcesChanged sharedSourceChanged requestSourceChanged acceptedChange
  rw [h.quantity, h.quantity, h.quantity, h.quantity, h.quantity, h.level, h.discrete, hp, hw]

/-- The sequencer's turn on two such states. -/
theorem ptoReact_sees {b s t : State} (h : Sees s t) (hp : t.pto = s.pto) (hw : t.power.state = s.power.state) :
    ptoReact b t = ptoReact b s := by
  unfold ptoReact
  rw [h.env_eq hw, sourcesChanged_sees h hp hw, sourcesChanged_sees h hp hw, hp]

/-- What follows an event in an undisturbed part: the drives are what the sequencer makes of them, and the power state stays. -/
theorem Undisturbed.settle {b u : State} (h : Undisturbed u) :
    (Machine.settle b u).pto = (ptoReact b u).pto ∧ (Machine.settle b u).power.state = u.power.state := by
  obtain ⟨m, hm⟩ := settle_drivesTurn b h.working
  have hstay : m.pto = u.pto ∧ m.power.state = u.power.state := by
    rcases hm.before with ⟨hp, hs⟩ | ⟨hb, -, h8, -, -⟩ | ⟨hb, -, h8, -⟩
    · exact ⟨hp, hs⟩
    · rcases h with ⟨-, -, h8'⟩ | ⟨-, hs, -⟩
      · rw [h8] at h8'; cases h8'
      · rw [hb] at hs; cases hs
    · rcases h with ⟨-, hs, -⟩ | ⟨-, -, h8'⟩
      · rw [hb] at hs; cases hs
      · rw [h8] at h8'; cases h8'
  exact ⟨by rw [hm.pto, ptoReact_sees hm.finds hstay.1 hstay.2], hm.power.trans hstay.2⟩

/-! ### What an event posts -/

/-- From `u` to `t` the notices `ns` are posted, at one moment. -/
def Posts (u t : State) (ns : List Notice) : Prop :=
  t.time.uptime = u.time.uptime ∧ t.notices = postAll u.time.uptime u.notices ns

/-- Posting one after the other. -/
theorem Posts.trans {u v t : State} {ns ms : List Notice} (h : Posts u v ns) (g : Posts v t ms) : Posts u t (ns ++ ms) := by
  refine ⟨g.1.trans h.1, ?_⟩
  rw [g.2, h.1, h.2]
  simp [postAll]

/-- Nothing posted. -/
theorem Posts.none {u t : State} (ht : t.time.uptime = u.time.uptime) (hn : t.notices = u.notices) : Posts u t [] :=
  ⟨ht, hn⟩

/-- The kinds of notice that the fill, the governor and the lockout unit post in their turns. -/
def blockKinds : List NoticeKind := [.fillDone, .throttlePathLost, .lockout, .drivingWithCondition]

/-- Everything that is posted after an event's own effect in an undisturbed part: the sequencer's notices, and before and after
them those of the other blocks. -/
theorem Undisturbed.settle_posts {b u : State} (h : Undisturbed u) : ∃ early late,
    Posts u (Machine.settle b u) (early ++ (ptoReact b u).posts ++ late) ∧ early.length ≤ 5 ∧ late.length ≤ 5 ∧
    ∀ x ∈ early ++ late, x.kind ∈ blockKinds := by
  let filled := settleFill b (settleBrake b u)
  let mid := settleReaders b filled
  have hr : ReactedBy 5 u mid :=
    (reacted_settleBrake b u).trans <| (reacted_settleFill b _).trans <| reacted_settleReaders b _
  have hsees : Sees u mid := hr.sees
  have hpto : mid.pto = u.pto := by simp [mid, filled]
  have hpow : mid.power = u.power := by simp [mid, filled]
  have hcalm : Undisturbed mid := h.of_sees hsees hr.powered (by rw [hpow])
  have hlock (v : State) : ((lockoutReact v).2.length ≤ 4 ∧ ∀ x ∈ (lockoutReact v).2, x.kind ∈ blockKinds) :=
    ⟨(lockoutReact_posts v).1, fun x hx => by
      rcases (lockoutReact_posts v).2 x hx with e | e <;> rw [e] <;> decide⟩
  let late0 := settlePto b (Machine.powerReact mid)
  have hp1 := hcalm.powerReact
  have hreact : ptoReact b (Machine.powerReact mid) = ptoReact b u :=
    ptoReact_sees (hsees.trans (reacted_powerReact mid).sees) (hp1.1.trans hpto) (hp1.2.1.trans (by rw [hpow]))
  have hcalm0 : Undisturbed late0 :=
    hcalm.of_sees (((reacted_powerReact mid).trans (reacted_settlePto b _)).sees)
      (((reacted_powerReact mid).trans (reacted_settlePto b _)).powered) hp1.2.1
  have hp2 := hcalm0.powerReact
  let late1 := settleGovernor (Machine.powerReact late0)
  refine ⟨(fillReact b (settleBrake b u)).2 ++ (lockoutReact filled).2,
    (governorReact (Machine.powerReact late0)).2 ++ (lockoutReact (settleProtection b late1)).2, ?_, ?_, ?_, ?_⟩
  · rw [settle_working b h.working]
    have hearly : Posts u mid ((fillReact b (settleBrake b u)).2 ++ (lockoutReact filled).2) :=
      Posts.trans (v := filled) ⟨rfl, rfl⟩ ⟨rfl, rfl⟩
    have hmid : Posts mid (Machine.powerReact mid) [] := .none hp1.2.2.2 hp1.2.2.1
    have hseq : Posts (Machine.powerReact mid) late0 (ptoReact b u).posts := by
      rw [← hreact]
      exact ⟨rfl, rfl⟩
    have hmid2 : Posts late0 (Machine.powerReact late0) [] := .none hp2.2.2.2 hp2.2.2.1
    have hlate : Posts (Machine.powerReact late0) (settleWorking b u)
        ((governorReact (Machine.powerReact late0)).2 ++ (lockoutReact (settleProtection b late1)).2) :=
      Posts.trans (v := late1) ⟨rfl, rfl⟩ ⟨rfl, rfl⟩
    have hall := (((hearly.trans hmid).trans hseq).trans hmid2).trans hlate
    simpa only [List.append_nil] using hall
  · have h1 := (fillReact_posts b (settleBrake b u)).1
    have h2 := (hlock filled).1
    rw [List.length_append]
    omega
  · have h1 := (governorReact_posts (Machine.powerReact late0)).1
    have h2 := (hlock (settleProtection b late1)).1
    rw [List.length_append]
    omega
  · intro x hx
    simp only [List.mem_append] at hx
    rcases hx with (hx | hx) | (hx | hx)
    · rw [(fillReact_posts _ _).2 x hx]; decide
    · exact (hlock _).2 x hx
    · rw [(governorReact_posts _).2 x hx]; decide
    · exact (hlock _).2 x hx

/-! ### Notices that wait -/

/-- An entry with what a notice tells waits in the queue, at no lower a class than a WARNING if the notice is one (R181). -/
def Tells (n : Notice) (q : NoticeQueue) : Prop :=
  ∃ e ∈ q.entries, e.sending = false ∧ e.kind = n.kind ∧ e.subject = n.subject ∧ e.detail = n.detail ∧
    (n.cls ≠ .info → e.cls ≠ .info)

/-- The class of a coalesced entry is no lower than either. -/
theorem higherClass_ne_info {a b : NoticeClass} (h : a ≠ .info ∨ b ≠ .info) : higherClass a b ≠ .info := by
  revert h
  cases a <;> cases b <;> decide

/-- A notice posted while the queue has room waits in it. -/
theorem tells_postNotice (now : Uptime) (q : NoticeQueue) (n : Notice) (hl : q.entries.length < queueCapacity) :
    Tells n (postNotice now q n) := by
  rcases postNotice_cases now q n with ⟨a, x, b, -, hx, hp⟩ | ⟨-, ⟨-, hp⟩ | ⟨h, -⟩ | ⟨h, -⟩⟩
  · simp only [entryMatches, Bool.and_eq_true, Bool.not_eq_true', decide_eq_true_eq] at hx
    obtain ⟨⟨hs, hk⟩, hj⟩ := hx
    exact ⟨coalesced now n x, by rw [hp]; simp, hs, hk, hj, rfl, fun hc => higherClass_ne_info (by tauto)⟩
  · exact ⟨newEntry now n, by rw [hp]; simp, rfl, rfl, rfl, rfl, id⟩
  · omega
  · omega

/-- It goes on waiting at notices that tell the same of its subject or are of another. -/
theorem Tells.postNotice {n : Notice} {q : NoticeQueue} (h : Tells n q) (now : Uptime) (x : Notice)
    (hx : x.kind = n.kind → x.subject = n.subject → x.detail = n.detail) (hl : q.entries.length < queueCapacity) :
    Tells n (postNotice now q x) := by
  obtain ⟨e, he, hs, hk, hj, hd, hc⟩ := h
  rcases postNotice_cases now q x with ⟨a, y, b, hq, hy, hp⟩ | ⟨-, ⟨-, hp⟩ | ⟨h, -⟩ | ⟨h, -⟩⟩
  · rw [hq] at he
    simp only [List.mem_append, List.mem_cons] at he
    rcases he with he | rfl | he
    · exact ⟨e, by rw [hp]; simp [he], hs, hk, hj, hd, hc⟩
    · simp only [entryMatches, Bool.and_eq_true, Bool.not_eq_true', decide_eq_true_eq] at hy
      obtain ⟨⟨-, hk'⟩, hj'⟩ := hy
      exact ⟨coalesced now x e, by rw [hp]; simp, hs, hk, hj, hx (hk'.symm.trans hk) (hj'.symm.trans hj),
        fun hn => higherClass_ne_info (by have := hc hn; tauto)⟩
    · exact ⟨e, by rw [hp]; simp [he], hs, hk, hj, hd, hc⟩
  · exact ⟨e, by rw [hp]; simp [he], hs, hk, hj, hd, hc⟩
  · omega
  · omega

/-- A notice posted among others that do not tell otherwise of its subject waits, where the queue has room for them all. -/
theorem tells_postAll (now : Uptime) {n : Notice} (ns : List Notice) (q : NoticeQueue) (hn : n ∈ ns ∨ Tells n q)
    (hs : ∀ x ∈ ns, x.kind = n.kind → x.subject = n.subject → x.detail = n.detail)
    (hl : q.entries.length + ns.length ≤ queueCapacity) : Tells n (postAll now q ns) := by
  induction ns generalizing q with
  | nil => exact hn.resolve_left List.not_mem_nil
  | cons x xs ih =>
    simp only [List.length_cons] at hl
    have hlt : q.entries.length < queueCapacity := by omega
    have hlen := postNotice_length now q x
    refine ih (postNotice now q x) ?_ (fun y hy => hs y (List.mem_cons_of_mem x hy)) (by omega)
    rcases hn with hn | hn
    · rcases List.mem_cons.mp hn with rfl | hn
      · exact .inr (tells_postNotice now q n hlt)
      · exact .inl hn
    · exact .inr (hn.postNotice now x (hs x List.mem_cons_self) hlt)

/-- A notice posted among others in an event for which the queue has room waits after it. -/
theorem Posts.tells {s t : State} {ns : List Notice} (h : Posts s t ns) {n : Notice} (hn : n ∈ ns)
    (hs : ∀ x ∈ ns, x.kind = n.kind → x.subject = n.subject → x.detail = n.detail) (hl : s.notices.entries.length + ns.length ≤ 32) : Tells n t.notices := by
  rw [h.2]
  exact tells_postAll _ ns s.notices (.inl hn) hs hl

/-! ### The sequencer's notices -/

/-- PTO_DISENGAGED carries no detail among these notices (R184). -/
def Bare (ns : List Notice) : Prop := ∀ x ∈ ns, x.kind = .ptoDisengaged → x.detail = []

theorem Bare.append {ns ms : List Notice} (h : Bare ns) (g : Bare ms) : Bare (ns ++ ms) := fun x hx hk =>
  (List.mem_append.mp hx).elim (fun h' => h x h' hk) fun h' => g x h' hk

section
variable {e : PtoEnv} {d : DriveId} {r : PtoRun} (h : Bare r.posts)
include h

theorem bare_enterReleasing : Bare (enterReleasing e d r).posts := by
  unfold enterReleasing
  split
  · exact h
  · exact h.append (by simp [Bare, noticePtoDisengaged])

theorem bare_releaseDrive : Bare (releaseDrive e d r).posts := by
  unfold releaseDrive
  split
  · exact h
  · exact bare_enterReleasing h

theorem bare_releaseInRundown : Bare (releaseInRundown e d r).posts := by
  unfold releaseInRundown
  split
  · exact bare_releaseDrive h
  · exact h

theorem bare_enterSettling : Bare (enterSettling e d r).posts := by
  rw [enterSettling_eq]
  exact bare_releaseInRundown (by exact h)

theorem bare_enterShifting : Bare (enterShifting e d r).posts := by
  unfold enterShifting
  dsimp only
  split
  · exact bare_enterSettling (by exact h)
  · exact h

theorem bare_checkDrives (n : Nat) (m a : Bool) : Bare (checkDrives e n m a r).posts := by
  induction n generalizing m a r with
  | zero => exact h
  | succ n ih =>
    unfold checkDrives
    split
    · next r' hr =>
      refine ih ?_ true true
      unfold arbitrate at hr
      split at hr
      · cases hr; exact bare_enterReleasing h
      · split at hr
        · cases hr; exact bare_enterReleasing h
        · split at hr
          · cases hr; exact bare_enterShifting h
          · split at hr
            · cases hr; exact bare_enterShifting h
            · cases hr
    · dsimp only
      split <;> split <;> simpa only [setReason_posts] using h

end

theorem bare_ptoReact (b s : State) : Bare (ptoReact b s).posts :=
  bare_checkDrives (r := { pto := s.pto, posts := [] }) (by simp [Bare]) 4 _ _

/-! ### A run of the sequencer as an event of its own -/

/-- What an event posts whose own effect is a run of the sequencer: the run's notices, those of the sequencer's turn after it, and
those of the other blocks. -/
theorem Undisturbed.withPto_posts {b s : State} {r : PtoRun} (h : Undisturbed s) : ∃ ns,
    Posts s (Machine.settle b (s.withPto r)) ns ∧ ns.length ≤ r.posts.length + 14 ∧
    (∀ x ∈ ns, x ∈ r.posts ∨ x ∈ (ptoReact b (s.withPto r)).posts ∨ x.kind ∈ blockKinds) ∧
    ∀ x, x ∈ r.posts ∨ x ∈ (ptoReact b (s.withPto r)).posts → x ∈ ns := by
  have hu : Undisturbed (s.withPto r) := h
  obtain ⟨early, late, hp, h1, h2, hk⟩ := hu.settle_posts (b := b)
  have hown : Posts s (s.withPto r) r.posts := ⟨rfl, rfl⟩
  have h3 := (ptoReact_posts b (s.withPto r)).1
  refine ⟨_, hown.trans hp, ?_, fun x hx => ?_, fun x hx => ?_⟩
  · simp only [List.length_append]; omega
  · simp only [List.mem_append] at hx hk
    rcases hx with hx | (hx | hx) | hx
    · exact .inl hx
    · exact .inr (.inr (hk x (.inl hx)))
    · exact .inr (.inl hx)
    · exact .inr (.inr (hk x (.inr hx)))
  · simp only [List.mem_append]
    tauto

/-- The kinds that the blocks post are not the sequencer's. -/
theorem blockKinds_reaction {k : NoticeKind} (h : k ∈ blockKinds) :
    k ∈ reactionKinds ∧ k ≠ .ptoRefused ∧ k ≠ .powerState ∧ k ≠ .ptoDisengaged := by
  revert h
  cases k <;> decide

/-- An event of an undisturbed part whose own effect is on the drives and the lockout record, and posts no more than PTO_DISENGAGED,
is a reaction as a whole. -/
theorem Undisturbed.absorb {b s u : State} {ns : List Notice} (h : Undisturbed u)
    (hu : u = { s with pto := u.pto, lock := u.lock, notices := u.notices }) (hf : u.lock.forced = s.lock.forced)
    (hn : u.notices = postAll s.time.uptime s.notices ns) (hl : ns.length ≤ 8)
    (hk : ∀ x ∈ ns, x.kind = .ptoDisengaged) : Reacted s (Machine.settle b u) := by
  have hr := reacted_settle b u
  obtain ⟨early, late, hp, h1, h2, hb⟩ := h.settle_posts (b := b)
  have hown : Posts s u ns := ⟨by rw [hu], hn⟩
  have hall := hown.trans hp
  have hseq := ptoReact_posts b u
  have hkind : ∀ x ∈ ns ++ (early ++ (ptoReact b u).posts ++ late), x.kind = .ptoDisengaged ∨ x.kind ∈ blockKinds := by
    intro x hx
    simp only [List.mem_append] at hx hb
    rcases hx with hx | (hx | hx) | hx
    · exact .inl (hk x hx)
    · exact .inr (hb x (.inl hx))
    · exact .inl (by simpa using hseq.2 x hx)
    · exact .inr (hb x (.inr hx))
  generalize Machine.settle b u = t at hr hall
  rw [hu] at hr
  exact
    { pending := hr.pending, powered := hr.powered, working := hr.working, settings := hr.settings, store := hr.store
      memory := hr.memory, writing := hr.writing, clock := hr.clock, stillDue := hr.stillDue, channels := hr.channels
      port := hr.port, slot2 := hr.slot2, slot3 := hr.slot3, slots := hr.slots, govCeiling := hr.govCeiling
      govStep := hr.govStep, monitor := hr.monitor, tanks := hr.tanks, noFill := hr.noFill
      forced := hr.forced.trans hf
      link := hr.link, monitored := hr.monitored, reports := hr.reports, power := hr.power
      lost := fun x => by rw [hall.2]; exact postAll_lost _ _ _ x
      alarms := by rw [hall.2]; exact postAll_keeps _ _ _
      posted := ⟨_, by simp only [List.length_append]; omega, hall.2, fun x hx => by
          rcases hkind x hx with e | e
          · rw [e]; decide
          · exact (blockKinds_reaction e).1,
        fun _ x hx => by
          rcases hkind x hx with e | e
          · rw [e]; decide
          · exact ⟨(blockKinds_reaction e).2.1, (blockKinds_reaction e).2.2.1⟩⟩
      ignited := hr.ignited }

/-- A run of the sequencer that posts no more than PTO_DISENGAGED. -/
theorem Undisturbed.run_reacted {b s : State} {r : PtoRun} (h : Undisturbed s) (hl : r.posts.length ≤ 8)
    (hk : ∀ x ∈ r.posts, x.kind = .ptoDisengaged) : Reacted s (Machine.settle b (s.withPto r)) :=
  Undisturbed.absorb (u := s.withPto r) (ns := r.posts) h rfl rfl rfl hl hk

/-- A drive's PTO_DISENGAGED, posted by the run or in the sequencer's turn after it, waits (R68, R181). -/
theorem Undisturbed.run_disengaged {b s : State} {r : PtoRun} {d : DriveId} (h : Undisturbed s) (hl : r.posts.length ≤ 8)
    (hb : Bare r.posts)
    (hn : noticePtoDisengaged d ∈ r.posts ∨ noticePtoDisengaged d ∈ (ptoReact b (s.withPto r)).posts)
    (hr : s.notices.entries.length ≤ 9) :
    NoticeWaits .ptoDisengaged (driveIndex d) [] (Machine.settle b (s.withPto r)).notices := by
  obtain ⟨ns, hp, hlen, hfrom, hin⟩ := h.withPto_posts (b := b) (r := r)
  obtain ⟨e, he, hs, hk, hj, hd, -⟩ := hp.tells (hin _ hn) (fun x hx hk _ => by
    rcases hfrom x hx with hx | hx | hx
    · exact hb x hx hk
    · exact bare_ptoReact _ _ x hx hk
    · exact absurd hk (blockKinds_reaction hx).2.2.2) (by omega)
  exact ⟨e, he, hs, hk, hj, hd⟩

/-- A drive's PTO_REFUSED, the only one that the run posts, waits (R59, R62, R181). -/
theorem Undisturbed.run_refused {b s : State} {r : PtoRun} {d : DriveId} {reason : Option Reason} (h : Undisturbed s)
    (hl : r.posts.length ≤ 8) (hn : noticePtoRefused d reason ∈ r.posts)
    (ho : ∀ x ∈ r.posts, x.kind = .ptoRefused → x = noticePtoRefused d reason)
    (hr : s.notices.entries.length ≤ 9) :
    WarningWaits .ptoRefused (driveIndex d) (noticePtoRefused d reason).detail
      (Machine.settle b (s.withPto r)).notices := by
  obtain ⟨ns, hp, hlen, hfrom, hin⟩ := h.withPto_posts (b := b) (r := r)
  obtain ⟨e, he, hs, hk, hj, hd, hc⟩ := hp.tells (hin _ (.inl hn)) (fun x hx hk _ => by
    rcases hfrom x hx with hx | hx | hx
    · exact congrArg Notice.detail (ho x hx hk)
    · have hx' := (ptoReact_posts _ _).2 x hx
      simp only [List.mem_singleton] at hx'
      exact absurd (hx'.symm.trans hk) nofun
    · exact absurd hk (blockKinds_reaction hx).2.1) (by omega)
  exact ⟨e, he, hs, hk, hj, hd, hc (by simp [noticePtoRefused])⟩

/-- An ALARM among what an event's own effect posts waits after it, while the queue has room for that (R181, R182). -/
theorem reacted_alarmWaits {n : Nat} {s u t : State} {x : Notice} (h : ReactedBy n u t)
    (hu : u.notices = postAll s.time.uptime s.notices [x]) (hc : x.cls = .alarm) (hl : s.notices.entries.length < 32) :
    AlarmWaits x.kind x.subject t.notices := by
  obtain ⟨ns, -, hp, -⟩ := h.posted
  rw [hp, hu]
  exact postAll_alarmWaits _ _ ns _ _ (postNotice_alarm s.time.uptime s.notices x hc hl)

/-! ### The solenoids and the unchecked drives -/

/-- The solenoids after an event of a working part follow the drives (R57). -/
theorem solenoid_settle {b u : State} (h : u.working = true) (d : DriveId) :
    solenoid (settle b u) d = solenoidOn ((settle b u).pto.drive d).state := by
  have hw : (settle b u).working = true := (reacted_settle b u).working.trans h
  unfold solenoid
  rw [settle_outputs, outputsOf, if_pos hw]
  cases d <;> rfl

/-- The ready flags recomputed (R65). -/
theorem refreshReady_drive (e : PtoEnv) (p : Pto) (d : DriveId) : (refreshReady e p).drive d =
    { p.drive d with ready := decide ((p.drive d).state = .engaged) && turning e d } := by
  cases d <;> rfl

/-- Two states that agree in the sources of the drives' checks but for the drives. -/
structure SameSources (s u : State) : Prop where
  settings : u.settings = s.settings
  slots : u.chassis.rx = s.chassis.rx
  brake : u.inputs.discrete[(0 : Fin 10)] = s.inputs.discrete[(0 : Fin 10)]
  power : u.power.state = s.power.state

theorem Sees.sameSources {s u : State} (h : Sees s u) (hp : u.power.state = s.power.state) : SameSources s u :=
  ⟨h.settings, h.slots, by rw [h.discrete], hp⟩

/-- A drive whose state and waiver stay, beside another whose state stays, is not checked where no source changes. -/
theorem SameSources.unchanged {s u : State} (h : SameSources s u)
    (hs : ∀ d, (u.pto.drive d).state = (s.pto.drive d).state) (hw : ∀ d, (u.pto.drive d).waiver = (s.pto.drive d).waiver)
    (d : DriveId) : sourcesChanged s u d = false := by
  have hq (q : Fin 6) : s.quantity q = u.quantity q := by
    unfold State.quantity usableQuantity
    rw [h.settings, h.slots]
  have hl : s.level 0 = u.level 0 := by
    show (s.inputs.discrete[(0 : Fin 10)]).level = (u.inputs.discrete[(0 : Fin 10)]).level
    rw [h.brake]
  have hp := h.power
  simp only [sourcesChanged, sharedSourceChanged, requestSourceChanged, acceptedChange, hq, hl, hp, hs, hw]
  cases d <;> simp <;> split <;> rfl

/-- Where no drive is to be checked the sequencer's turn recomputes the ready flags alone. -/
theorem ptoReact_unchanged {b s : State} (h : ∀ d, sourcesChanged b s d = false) :
    ptoReact b s = { pto := refreshReady (ptoEnv s) s.pto, posts := [] } := by
  unfold ptoReact
  rw [h .main, h .aux]
  rfl

end Sys2Proof.Machine
end

section
/-! SUPPORT. The rows of the sequencer's commands: what a drive's timer event and a request for a drive come to, and the checks of a
drive beside another that waits for none (R58, R67). -/

namespace Sys2Proof.Machine

/-! ### Rows -/

/-- The drives' part of a working part's own effect leaves what a reaction is about. -/
theorem ReactedBy.of_pto {n : Nat} {v t : State} {p : Pto} (h : ReactedBy n { v with pto := p } t) : ReactedBy n v t :=
  { h with }

/-- A drive's timer event whose timer has expired. -/
theorem driveEvent_run {timer : Drive → Timer} {d : DriveId} {f : PtoEnv → PtoRun → PtoRun} {s : State}
    (hw : s.working = true) (hd : due s.time.uptime (timer (s.pto.drive d)) = true) :
    driveEvent timer d f s = settle s (s.withPto (f (ptoEnv s) s.ptoRun)) := by
  unfold driveEvent workingEvent event
  rw [if_pos (working_powered s hw)]
  dsimp only
  rw [if_pos hw, if_pos hd]

/-- A request that may execute finds the part working. -/
theorem mayExecute_working {f : HostFrame} {s : State} (h : mayExecute f s = true) : s.working = true := by
  simp only [mayExecute, linkFree, Bool.and_eq_true] at h
  exact h.1.1.1.1

/-- A request that may execute is its handler's answer delivered, and what follows. -/
theorem request_run {f : HostFrame} {g : State → Answer} {s : State} (h : mayExecute f s = true) :
    request f g s = settle s (deliver f.tag (g (takeRequest s))) := by
  have hw := mayExecute_working h
  unfold request workingEvent event
  rw [if_pos (working_powered s hw)]
  dsimp only
  rw [if_pos hw, if_pos h]

/-- A frame taken for execution leaves what the sequencer sees, the drives, the supply, the power state and the queue. -/
theorem takeRequest_sees (s : State) : Sees s (takeRequest s) ∧ (takeRequest s).pto = s.pto ∧
    (takeRequest s).powered = s.powered ∧ (takeRequest s).power.state = s.power.state ∧
    (takeRequest s).notices = s.notices := by
  unfold takeRequest heard
  split <;> exact ⟨⟨rfl, rfl, rfl, rfl, rfl⟩, rfl, rfl, rfl, rfl⟩

/-- The byte of a drive names it. -/
theorem driveOf_index {b : Byte} {d : DriveId} (h : b.toNat = driveIndex d) : driveOf b = some d := by
  have hb : b = BitVec.ofNat 8 (driveIndex d) := BitVec.eq_of_toNat_eq (by rw [h]; cases d <;> rfl)
  rw [hb]
  cases d <;> rfl

/-- Another byte names no drive. -/
theorem driveOf_none {b : Byte} (h : 2 ≤ b.toNat) : driveOf b = none := by
  unfold driveOf
  rw [if_neg (by rintro rfl; exact absurd h (by decide)), if_neg (by rintro rfl; exact absurd h (by decide))]

/-! ### Checks beside a drive that waits for none -/

section
variable {e : PtoEnv} {d : DriveId} {r : PtoRun}

/-- A drive that waits for no check has no reason set. -/
theorem setReason_of_inert (h : inert (r.pto.drive d)) : setReason e d r = r := by
  unfold setReason
  dsimp only
  split
  · next hs => exact absurd hs h.1
  · next hs => exact absurd hs h.2
  · rfl

/-- A drive that waits for no check is not taken by the arbitration. -/
theorem mayRelease_inert {p : Pto} (h : inert (p.drive d)) : mayRelease e p d = false := by
  simp [mayRelease, h.2]

theorem mayShift_inert {p : Pto} (h : inert (p.drive d)) : mayShift e p d = false := by
  simp [mayShift, h.1]

/-- Two drives that wait for no check are left by the checks. -/
theorem checkDrives_idle (h : ∀ k, inert (r.pto.drive k)) (n : Nat) (m a : Bool) : checkDrives e n m a r = r := by
  cases n with
  | zero => rfl
  | succ n =>
    have ha : arbitrate e m a r = none := by
      simp [arbitrate, mayRelease_inert (h _), mayShift_inert (h _)]
    simp only [checkDrives, ha, setReason_of_inert (h .main), setReason_of_inert (h .aux), ite_self]

/-- A drive released is in RELEASING or DISENGAGED, as its feedback says (R68). -/
theorem enterReleasing_drive : (enterReleasing e d r).pto.drive d =
    if e.fb d then releasingDrive e (r.pto.drive d) else disengagedDrive e d (r.pto.drive d) := by
  rw [enterReleasing_eq]
  split <;> simp

theorem enterReleasing_inert : inert ((enterReleasing e d r).pto.drive d) := by
  rw [enterReleasing_drive]
  split <;> simp [inert, releasingDrive, disengagedDrive, enter]

/-- Entry to RELEASING leaves the other drive. -/
theorem enterReleasing_other' : (enterReleasing e d r).pto.drive (otherDrive d) = r.pto.drive (otherDrive d) := by
  have h := enterReleasing_other e (otherDrive d) r
  rwa [otherDrive_otherDrive] at h

/-- With the feedback off a release tells that the drive is DISENGAGED. -/
theorem enterReleasing_says (h : e.fb d = false) : (enterReleasing e d r).posts = r.posts ++ [noticePtoDisengaged d] := by
  rw [enterReleasing_eq, if_neg (by simp [h])]
  rfl

section
variable {m a : Bool} (hd : (r.pto.drive d).state = .windingDown) (ho : inert (r.pto.drive (otherDrive d)))
  (hf : (if d = .main then m else a) = true) (n : Nat)
include hd ho hf

/-- The check of a drive in WINDING_DOWN beside one that waits for no check: with every condition met it is released (R67). -/
theorem checkDrives_releases (hn : releaseReason e r.pto d = none) :
    checkDrives e (n + 1) m a r = enterReleasing e d r := by
  have hmr : mayRelease e r.pto d = true := by simp [mayRelease, hd, hn]
  have ha : arbitrate e m a r = some (enterReleasing e d r) := by
    unfold arbitrate
    cases d
    · rw [if_pos rfl] at hf
      rw [hf, hmr]
      rfl
    · rw [if_neg nofun] at hf
      rw [hf, hmr, mayRelease_inert (d := .main) ho, Bool.and_false]
      rfl
  simp only [checkDrives, ha]
  refine checkDrives_idle (fun k => ?_) n true true
  rcases drive_eq_or_other d k with rfl | rfl
  · exact enterReleasing_inert
  · rw [enterReleasing_other']; exact ho

/-- With a condition not met it waits, the first of them its reason (R67). -/
theorem checkDrives_waits (hn : releaseReason e r.pto d ≠ none) :
    checkDrives e (n + 1) m a r = r.put d { r.pto.drive d with reason := releaseReason e r.pto d } := by
  have hmr : mayRelease e r.pto d = false := by simp [mayRelease, hn]
  have hms : mayShift e r.pto d = false := by simp [mayShift, hd]
  have hset : setReason e d r = r.put d { r.pto.drive d with reason := releaseReason e r.pto d } := by
    unfold setReason
    dsimp only
    rw [hd]
  have ha : arbitrate e m a r = none := by
    unfold arbitrate
    cases d
    · rw [hmr, hms, mayRelease_inert (d := .aux) ho, mayShift_inert (d := .aux) ho]
      simp
    · rw [hmr, hms, mayRelease_inert (d := .main) ho, mayShift_inert (d := .main) ho]
      simp
  simp only [checkDrives, ha]
  cases d
  · rw [if_pos rfl] at hf
    rw [hf, if_pos rfl, hset]
    split
    · exact setReason_of_inert (d := .aux) (r := r.put .main _) ho
    · rfl
  · rw [if_neg nofun] at hf
    rw [hf, if_pos rfl, setReason_of_inert (d := .main) ho, ite_self, hset]

end

end

/-- The sequencer's turn in terms of its checks. -/
theorem ptoReact_of_checks {b s : State} {r : PtoRun}
    (h : checkDrives (ptoEnv s) 4 (sourcesChanged b s .main) (sourcesChanged b s .aux) s.ptoRun = r) :
    ptoReact b s = { pto := refreshReady (ptoEnv s) r.pto, posts := r.posts } := by
  subst h
  rfl

section
variable {b s : State} {d : DriveId} (hd : (s.pto.drive d).state = .windingDown)
  (ho : inert (s.pto.drive (otherDrive d))) (hc : sourcesChanged b s d = true)
include hd ho hc

/-- A drive in WINDING_DOWN that is to be checked, beside one that waits for no check, keeps waiting with the reason. -/
theorem ptoReact_waits (hn : releaseReason (ptoEnv s) s.pto d ≠ none) : (ptoReact b s).pto.drive d =
    { s.pto.drive d with reason := releaseReason (ptoEnv s) s.pto d, ready := false } := by
  have h := checkDrives_waits (e := ptoEnv s) (r := s.ptoRun) (m := sourcesChanged b s .main)
    (a := sourcesChanged b s .aux) hd ho (by cases d <;> simpa using hc) 3 hn
  rw [ptoReact_of_checks h, refreshReady_drive, PtoRun.put_pto, drive_setDrive]
  simp [State.ptoRun, hd]

/-- A drive in WINDING_DOWN that is to be checked, beside one that waits for no check, is released. -/
theorem ptoReact_releases (hn : releaseReason (ptoEnv s) s.pto d = none) :
    (ptoReact b s).pto.drive d = (if s.feedback d then releasingDrive (ptoEnv s) (s.pto.drive d)
      else disengagedDrive (ptoEnv s) d (s.pto.drive d)) ∧
    (s.feedback d = false → noticePtoDisengaged d ∈ (ptoReact b s).posts) := by
  have h := checkDrives_releases (e := ptoEnv s) (r := s.ptoRun) (m := sourcesChanged b s .main)
    (a := sourcesChanged b s .aux) hd ho (by cases d <;> simpa using hc) 3 hn
  have hfb : (ptoEnv s).fb d = s.feedback d := by cases d <;> rfl
  rw [ptoReact_of_checks h]
  refine ⟨?_, fun hf => ?_⟩
  · rw [refreshReady_drive, enterReleasing_drive, hfb]
    split <;> rfl
  · rw [enterReleasing_says (hfb.trans hf)]
    simp

end

/-- The model finds a drive's pump turning as R65 says. -/
theorem turning_iff (s : State) (d : DriveId) : turning (ptoEnv s) d = true ↔ PumpTurns s d := by
  cases d <;> simp [turning, PumpTurns, ptoEnv, readyRpm]

/-- The sequencer's view of a drive's feedback. -/
theorem ptoEnv_fb (s : State) (d : DriveId) : (ptoEnv s).fb d = s.feedback d := by cases d <;> rfl

/-- A drive entered into RELEASING, as the statements say it. -/
theorem releasingFrom_releasingDrive (s : State) (x : Drive) : ReleasingFrom s (releasingDrive (ptoEnv s) x) :=
  ⟨rfl, rfl, rfl, rfl, rfl⟩

/-- The first condition not met is one. -/
theorem FirstUnmet.unique {cs : List (Reason × Prop)} {r r' : Option Reason} (h : FirstUnmet cs r) (h' : FirstUnmet cs r') :
    r = r' := by
  induction cs with
  | nil => exact Eq.trans (show r = none from h) (show r' = none from h').symm
  | cons c cs ih =>
    by_cases hc : c.2
    · exact ih (h.2 hc) (h'.2 hc)
    · rw [h.1 hc, h'.1 hc]

end Sys2Proof.Machine
end

section
/-! SUPPORT. The drives' timers (R63 to R65, R68, R72), and O28. -/

namespace Sys2Proof.Machine

/-- The record of a drive that enters FAULT is at rest, and its ready flag is clear (R73). -/
theorem atRest_faulted (now : Uptime) (c : DriveCause) (x : Drive) : atRest (faultedDrive now c x) := .inr (.inr rfl)

/-- An event whose own effect takes a drive to FAULT: the record stays, the solenoid is off, the ALARM waits (R73). -/
theorem settle_enterFault {b s : State} (hw : s.working = true) (d : DriveId) (cause : DriveCause) :
    ∀ u, u = s.withPto (enterFault (ptoEnv s) d cause s.ptoRun) →
    Reacted (s.post [noticePtoFault d cause (s.pto.drive d).state]) (settle b u) ∧
    (settle b u).pto.drive d = faultedDrive s.time.uptime cause (s.pto.drive d) ∧ solenoid (settle b u) d = false ∧
    (s.notices.entries.length < 32 → AlarmWaits .ptoFault (driveIndex d) (settle b u).notices) := by
  rintro u rfl
  have hx : (s.withPto (enterFault (ptoEnv s) d cause s.ptoRun)).pto.drive d =
      faultedDrive s.time.uptime cause (s.pto.drive d) := by
    rw [enterFault_eq]
    exact drive_setDrive _ _ _
  have hd : (settle b (s.withPto (enterFault (ptoEnv s) d cause s.ptoRun))).pto.drive d =
      faultedDrive s.time.uptime cause (s.pto.drive d) := by
    rw [settle_drive_rest b _ (by exact hw) d (by rw [hx]; exact atRest_faulted _ _ _), hx]
    rfl
  have hr := reacted_settle b (s.withPto (enterFault (ptoEnv s) d cause s.ptoRun))
  refine ⟨ReactedBy.of_pto (v := s.post [_]) hr, hd, ?_, fun hl => ?_⟩
  · rw [solenoid_settle (by exact hw), hd]
    rfl
  · exact reacted_alarmWaits (s := s) (x := noticePtoFault d cause (s.pto.drive d).state) hr rfl rfl hl

/-- Settles O28: an expiry enters FAULT, where a drive rests, or ENGAGED, where the ready flag is recomputed. -/
theorem driveTimersEndTheirStates : Obligations.DriveTimersEndTheirStates := by
  rintro d s x hw rfl
  refine ⟨fun c cause h => ?_, fun hi hs hdue => ?_⟩
  · have row {timer : Drive → Timer} {f : PtoEnv → PtoRun → PtoRun} (hc : exec c s = .next (driveEvent timer d f s))
        (hd : due s.time.uptime (timer (s.pto.drive d)) = true)
        (hf : f (ptoEnv s) s.ptoRun = enterFault (ptoEnv s) d cause s.ptoRun) : exec c s =
        .next (settle s (s.withPto (enterFault (ptoEnv s) d cause s.ptoRun))) := by
      rw [hc, driveEvent_run hw hd, hf]
    have hstate : (s.ptoRun.pto.drive d).state = (s.pto.drive d).state := rfl
    refine ⟨_, ?_, settle_enterFault (b := s) hw d cause _ rfl⟩
    rcases h with ⟨rfl, rfl, hs, hd⟩ | ⟨rfl, rfl, hs, hd⟩ | ⟨rfl, rfl, hs, hd⟩
    · exact row rfl hd (by simp [expireShift, hstate, hs])
    · exact row rfl hd (by simp [expireRelease, hstate, hs])
    · refine row rfl hd ?_
      simp only [List.mem_cons, List.not_mem_nil, or_false] at hs
      rcases hs with hs | hs <;> simp [expireUncommanded, hstate, hs]
  · let r := (enterEngaged (ptoEnv s) d s.ptoRun).say (noticePtoEngaged d (s.time.uptime - (s.pto.drive d).shiftStart).toNat)
    have hf : expireSettle (ptoEnv s) d s.ptoRun = r := by
      have hstate : (s.ptoRun.pto.drive d).state = .settling := hs
      simp only [expireSettle, hstate]
      exact releaseInRundown_off (by rw [show (ptoEnv s).power = s.power.state from rfl, hi.2.1]; decide)
    have hu : Undisturbed (s.withPto r) := .inl hi
    have hx : (s.withPto r).pto.drive d = engagedDrive (ptoEnv s) d (s.pto.drive d) := drive_setDrive _ _ _
    have hd : (settle s (s.withPto r)).pto.drive d = engagedDrive (ptoEnv s) d (s.pto.drive d) := by
      rw [hu.settle.1, ptoReact_inert s _ d (by rw [hx]; exact ⟨nofun, nofun⟩), hx]
      rfl
    refine ⟨_, congrArg Host.Outcome.next (driveEvent_run (f := fun e r => expireSettle e d r) hw hdue), ?_⟩
    rw [hf, solenoid_settle (by exact hw), hd]
    exact ⟨ReactedBy.of_pto (v := s.post [_]) (reacted_settle s _), rfl, turning_iff s d, rfl, rfl, rfl⟩

end Sys2Proof.Machine
end

section
/-! SUPPORT. Releases, waits and rests of a drive as an event leaves them (R58, R67, R68), and O29 and O30. -/

namespace Sys2Proof.Machine

/-! ### What an event leaves of a drive that its own effect has moved -/

/-- A drive whose state has changed is to be checked (R62, R67). -/
theorem sourcesChanged_of_state {b s : State} {d : DriveId} (h : (b.pto.drive d).state ≠ (s.pto.drive d).state) :
    sourcesChanged b s d = true := by
  simp [sourcesChanged, h]

section
variable {b v : State} {e : PtoEnv} {d : DriveId} {r : PtoRun}

/-- A drive whose own run ends it in WINDING_DOWN with the waiver, while the other has the shift, waits for that (R58). -/
theorem Undisturbed.settle_waived (h : Undisturbed v) (hd : (r.pto.drive d).state = .windingDown)
    (hw : (r.pto.drive d).waiver = true) (ho : holdsShift (r.pto.drive (otherDrive d)) = true)
    (hc : sourcesChanged b (v.withPto r) d = true) :
    (Machine.settle b (v.withPto r)).pto.drive d = { r.pto.drive d with reason := some .otherShift, ready := false } := by
  have hu : Undisturbed (v.withPto r) := h
  have hreason : releaseReason (ptoEnv (v.withPto r)) (v.withPto r).pto d = some .otherShift := by
    simp [releaseReason, hw, ho]
  have hi : inert ((v.withPto r).pto.drive (otherDrive d)) := by
    have ho' : holdsShift ((v.withPto r).pto.drive (otherDrive d)) = true := ho
    simp only [holdsShift, Bool.or_eq_true, decide_eq_true_eq] at ho'
    rcases ho' with ho' | ho' <;> rw [inert, ho'] <;> decide
  rw [hu.settle.1, ptoReact_waits hd hi hc (by rw [hreason]; exact nofun), hreason]
  rfl

/-- A drive that its own run takes to WINDING_DOWN with the waiver, while the other has the shift, waits for that with its solenoid
energised. -/
theorem Undisturbed.settle_windDown (h : Undisturbed v) (hr : r.posts = []) (hb : (b.pto.drive d).state ≠ .windingDown)
    (ho : holdsShift (r.pto.drive (otherDrive d)) = true) :
    Reacted v (Machine.settle b (v.withPto (enterWindingDown e d true r))) ∧
    (Machine.settle b (v.withPto (enterWindingDown e d true r))).pto.drive d =
      { windingDrive e true (r.pto.drive d) with reason := some .otherShift } ∧
    solenoid (Machine.settle b (v.withPto (enterWindingDown e d true r))) d = true := by
  have hx : (enterWindingDown e d true r).pto.drive d = windingDrive e true (r.pto.drive d) := drive_setDrive _ _ _
  have hc : sourcesChanged b (v.withPto (enterWindingDown e d true r)) d = true := by
    refine sourcesChanged_of_state ?_
    rw [show (v.withPto (enterWindingDown e d true r)).pto.drive d = _ from hx]
    exact hb
  have hd := h.settle_waived (b := b) (r := enterWindingDown e d true r) (by rw [hx]; rfl) (by rw [hx]; rfl)
    (by rw [enterWindingDown_eq]; simpa using ho) hc
  rw [hx] at hd
  have hposts : (enterWindingDown e d true r).posts = [] := hr
  refine ⟨h.run_reacted (by simp [hposts]) (by simp [hposts]), hd, ?_⟩
  rw [solenoid_settle (by exact h.working), hd]
  rfl

/-- A drive that its own run releases: RELEASING, or DISENGAGED with its notice when the feedback is off (R68). -/
theorem Undisturbed.settle_release (h : Undisturbed v) (hr : r.posts = []) :
    Reacted v (Machine.settle b (v.withPto (enterReleasing e d r))) ∧
    (Machine.settle b (v.withPto (enterReleasing e d r))).pto.drive d =
      (if e.fb d then releasingDrive e (r.pto.drive d) else disengagedDrive e d (r.pto.drive d)) ∧
    (e.fb d = false → v.notices.entries.length ≤ 9 → NoticeWaits .ptoDisengaged (driveIndex d) []
      (Machine.settle b (v.withPto (enterReleasing e d r))).notices) ∧
    solenoid (Machine.settle b (v.withPto (enterReleasing e d r))) d = false := by
  have hposts : (enterReleasing e d r).posts = if e.fb d then [] else [noticePtoDisengaged d] := by
    rw [enterReleasing_eq]
    split
    · exact hr
    · show r.posts ++ _ = _
      rw [hr]
      rfl
  have hlen : (enterReleasing e d r).posts.length ≤ 8 := by rw [hposts]; split <;> simp
  have hkind : ∀ x ∈ (enterReleasing e d r).posts, x.kind = .ptoDisengaged := by
    rw [hposts]
    split
    · simp
    · simp [noticePtoDisengaged]
  have hrest : atRest ((v.withPto (enterReleasing e d r)).pto.drive d) := by
    show atRest ((enterReleasing e d r).pto.drive d)
    rw [enterReleasing_drive]
    split
    · exact .inr (.inl rfl)
    · exact .inl rfl
  have hd : (Machine.settle b (v.withPto (enterReleasing e d r))).pto.drive d =
      (if e.fb d then releasingDrive e (r.pto.drive d) else disengagedDrive e d (r.pto.drive d)) := by
    rw [settle_drive_rest b (v.withPto (enterReleasing e d r)) h.working d hrest]
    show { (enterReleasing e d r).pto.drive d with ready := false } = _
    rw [enterReleasing_drive]
    split <;> rfl
  refine ⟨h.run_reacted hlen hkind, hd, fun hf hroom => ?_, ?_⟩
  · exact h.run_disengaged hlen (bare_enterReleasing (by simp [Bare, hr])) (.inl (by simp [hposts, hf])) hroom
  · rw [solenoid_settle (by exact h.working), hd]
    split <;> rfl

/-- A run that takes a drive to DISENGAGED. -/
theorem settle_disengaged (hw : v.working = true) {r' : PtoRun} (hr : r'.pto = (enterDisengaged e d r).pto) :
    (settle b (v.withPto r')).pto.drive d = disengagedDrive e d (r.pto.drive d) := by
  have hx : (v.withPto r').pto.drive d = disengagedDrive e d (r.pto.drive d) := by
    show r'.pto.drive d = _
    rw [hr]
    exact drive_setDrive _ _ _
  rw [settle_drive_rest b (v.withPto r') hw d (by rw [hx]; exact .inl rfl), hx]
  rfl

/-- Where the drives' states and waivers stay and no source changes, the drives keep their records but for the ready flags. -/
theorem Undisturbed.settle_unchanged (h : Undisturbed v) (hs : SameSources b v)
    (hst : ∀ k, (r.pto.drive k).state = (b.pto.drive k).state)
    (hwv : ∀ k, (r.pto.drive k).waiver = (b.pto.drive k).waiver) :
    (Machine.settle b (v.withPto r)).pto = refreshReady (ptoEnv v) r.pto := by
  have hu : Undisturbed (v.withPto r) := h
  have hsame : SameSources b (v.withPto r) := ⟨hs.settings, hs.slots, hs.brake, hs.power⟩
  rw [hu.settle.1, ptoReact_unchanged (hsame.unchanged hst hwv)]
  rfl

end

/-- The reason of a check of WINDING_DOWN by the statement's conditions (R67). -/
theorem releaseReason_eq {s : State} {p : Pto} {d : DriveId} {w : Bool} {r : Option Reason} (hw : (p.drive d).waiver = w)
    (ho : (p.drive (otherDrive d)).state = (s.pto.drive (otherDrive d)).state)
    (h : FirstUnmet (releaseConditions s d w) r) : releaseReason (ptoEnv s) p d = r := by
  have hf := releaseReason_firstUnmet { s with pto := p } d
  have hc : releaseConditions { s with pto := p } d ((({ s with pto := p } : State).pto.drive d).waiver) =
      releaseConditions s d w := by
    have hother : OtherShifts { s with pto := p } d = OtherShifts s d := by
      unfold OtherShifts
      dsimp only
      rw [ho]
    unfold releaseConditions
    rw [hother, show (({ s with pto := p } : State).pto.drive d).waiver = w from hw]
    rfl
  rw [hc] at hf
  exact hf.unique h

/-! ### DISENGAGE and FAULT_CLEAR -/

/-- The state in which a request's reply stands, before its effect on the drives. -/
theorem replied_sees (tag : Byte) (code : ResultCode) (body : List Byte) (s : State) :
    Sees s (putReply tag code body (takeRequest s)) ∧ (putReply tag code body (takeRequest s)).pto = s.pto ∧
    (putReply tag code body (takeRequest s)).powered = s.powered ∧
    (putReply tag code body (takeRequest s)).power.state = s.power.state ∧
    (putReply tag code body (takeRequest s)).notices = s.notices := by
  obtain ⟨⟨h1, h2, h3, h4, h5⟩, hp, hw, hst, hn⟩ := takeRequest_sees s
  exact ⟨⟨h1, h2, h3, h4, h5⟩, hp, hw, hst, hn⟩

theorem Undisturbed.replied {s : State} (h : Undisturbed s) (tag : Byte) (code : ResultCode) (body : List Byte) :
    Undisturbed (putReply tag code body (takeRequest s)) := by
  obtain ⟨hs, -, hp, hw, -⟩ := replied_sees tag code body s
  exact h.of_sees hs hp hw

theorem replied_working {s : State} (h : s.working = true) (tag : Byte) (code : ResultCode) (body : List Byte) :
    (putReply tag code body (takeRequest s)).working = true := by
  obtain ⟨-, -, hp, hw, -⟩ := replied_sees tag code body s
  rw [State.working, hp, hw]
  exact h

section
variable {tag byte : Byte} {s : State} {d : DriveId} {r : PtoRun} {code : ResultCode}

/-- The row of DISENGAGE. -/
theorem disengage_row (h : mayExecute { kind := 0x07#8, tag, payload := [byte, 1#8] } s = true)
    (hb : byte.toNat = driveIndex d) (hr : disengageDrive (ptoEnv s) d s.ptoRun = (r, code)) :
    exec (.ptoDisengage tag byte) s = .next (settle s ((putReply tag code [] (takeRequest s)).withPto r)) := by
  obtain ⟨hs, hp, -, hw, -⟩ := takeRequest_sees s
  have he : ptoEnv (takeRequest s) = ptoEnv s := hs.env_eq hw
  have hr' : (takeRequest s).ptoRun = s.ptoRun := by unfold State.ptoRun; rw [hp]
  refine congrArg Host.Outcome.next ((request_run h).trans ?_)
  unfold handleDisengage
  rw [driveOf_index hb]
  dsimp only
  rw [he, hr', hr]
  rfl

/-- The row of FAULT_CLEAR. -/
theorem faultClear_row {body : List Byte} (h : mayExecute { kind := 0x0F#8, tag, payload := [byte] } s = true)
    (hb : byte.toNat = driveIndex d) (hr : clearFault (ptoEnv s) d s.ptoRun = (r, code))
    (hbody : body = if code = .refusedCondition then [0xFF#8] else []) :
    exec (.faultClear tag byte) s = .next (settle s ((putReply tag code body (takeRequest s)).withPto r)) := by
  obtain ⟨hs, hp, -, hw, -⟩ := takeRequest_sees s
  have he : ptoEnv (takeRequest s) = ptoEnv s := hs.env_eq hw
  have hr' : (takeRequest s).ptoRun = s.ptoRun := by unfold State.ptoRun; rw [hp]
  refine congrArg Host.Outcome.next ((request_run h).trans ?_)
  unfold handleFaultClear
  rw [driveOf_index hb]
  dsimp only
  rw [he, hr', hr, hbody]
  rfl

end

/-- A release row of DISENGAGE (R66, R68). -/
theorem disengage_released {tag byte : Byte} {s : State} {d : DriveId}
    (h : mayExecute { kind := 0x07#8, tag, payload := [byte, 1#8] } s = true) (hb : byte.toNat = driveIndex d)
    (hu : Undisturbed s) (hr : disengageDrive (ptoEnv s) d s.ptoRun = (enterReleasing (ptoEnv s) d s.ptoRun, .accepted)) :
    ∃ t, exec (.ptoDisengage tag byte) s = .next t ∧ Reacted (putReply tag .accepted [] (takeRequest s)) t ∧
      (s.feedback d = true → ReleasingFrom s (t.pto.drive d)) ∧
      (s.feedback d = false → (t.pto.drive d).state = .disengaged ∧
        (RoomLeft s.notices → NoticeWaits .ptoDisengaged (driveIndex d) [] t.notices)) ∧ solenoid t d = false := by
  obtain ⟨hreact, hd, hn, hsol⟩ := (hu.replied tag .accepted []).settle_release (b := s) (e := ptoEnv s) (d := d)
    (r := s.ptoRun) rfl
  rw [ptoEnv_fb] at hd hn
  refine ⟨_, disengage_row h hb hr, hreact, fun hf => ?_, fun hf => ⟨?_, fun hroom => hn hf ?_⟩, hsol⟩
  · rw [hd, if_pos hf]
    exact releasingFrom_releasingDrive s _
  · rw [hd, if_neg (by simp [hf])]
    rfl
  · obtain ⟨-, -, -, -, hnotices⟩ := replied_sees tag .accepted [] s
    rw [hnotices]
    exact Nat.le_succ_of_le hroom

/-- DISENGAGE of an engaged drive beside one that waits for no check: it winds down, or is released at once (R66, R67). -/
theorem disengage_engaged {tag byte : Byte} {s : State} {d : DriveId}
    (hex : mayExecute { kind := 0x07#8, tag, payload := [byte, 1#8] } s = true) (hb : byte.toNat = driveIndex d)
    (hu : Undisturbed s) (ho : (s.pto.drive (otherDrive d)).state ∉ [.requested, .windingDown])
    (hs : (s.pto.drive d).state = .engaged) {c : Option Reason} (hc : FirstUnmet (releaseConditions s d false) c) :
    ∃ t, exec (.ptoDisengage tag byte) s = .next t ∧ Reacted (putReply tag .accepted [] (takeRequest s)) t ∧
      (c ≠ none → (t.pto.drive d).state = .windingDown ∧ (t.pto.drive d).reason = c ∧
        (t.pto.drive d).waiver = false ∧ (t.pto.drive d).windDown = some (s.time.uptime + 5000#32) ∧
        solenoid t d = true) ∧
      (c = none → s.feedback d = true → ReleasingFrom s (t.pto.drive d) ∧ solenoid t d = false) ∧
      (c = none → s.feedback d = false → (t.pto.drive d).state = .disengaged ∧ solenoid t d = false ∧
        (RoomLeft s.notices → NoticeWaits .ptoDisengaged (driveIndex d) [] t.notices)) := by
  obtain ⟨hsees, -, -, hpower, hnotices⟩ := replied_sees tag .accepted [] s
  have hr : disengageDrive (ptoEnv s) d s.ptoRun = (enterWindingDown (ptoEnv s) d false s.ptoRun, .accepted) := by
    simp [disengageDrive, State.ptoRun, hs]
  let v := (putReply tag .accepted [] (takeRequest s)).withPto (enterWindingDown (ptoEnv s) d false s.ptoRun)
  have hv : Undisturbed v := Undisturbed.replied hu tag .accepted []
  have henv : ptoEnv v = ptoEnv s := hsees.env_eq hpower
  have hx : v.pto.drive d = windingDrive (ptoEnv s) false (s.pto.drive d) := drive_setDrive _ _ _
  have hother : v.pto.drive (otherDrive d) = s.pto.drive (otherDrive d) := by
    show (enterWindingDown (ptoEnv s) d false s.ptoRun).pto.drive (otherDrive d) = _
    rw [enterWindingDown_eq, PtoRun.put_pto, drive_setDrive_other']
    rfl
  have hinert : inert (v.pto.drive (otherDrive d)) := by
    rw [hother]
    simpa [inert] using ho
  have hchg : sourcesChanged s v d = true := by simp [sourcesChanged, hx, windingDrive, enter, hs]
  have hreason : releaseReason (ptoEnv v) v.pto d = c := by
    rw [henv]
    exact releaseReason_eq (by rw [hx]; rfl) (by rw [hother]) hc
  have hfb : v.feedback d = s.feedback d := hsees.feedback d
  have hreact : Reacted (putReply tag .accepted [] (takeRequest s)) (settle s v) :=
    (Undisturbed.replied hu tag .accepted []).run_reacted (by simp [enterWindingDown_eq, State.ptoRun, PtoRun.put])
      (by simp [enterWindingDown_eq, State.ptoRun, PtoRun.put])
  have hsol := solenoid_settle (b := s) hv.working d
  refine ⟨_, disengage_row hex hb hr, hreact, fun hn => ?_, fun hn hf => ?_, fun hn hf => ?_⟩
  · have hd : (settle s v).pto.drive d = _ :=
      hv.settle.1 ▸ ptoReact_waits (b := s) (by rw [hx]; rfl) hinert hchg (by rwa [hreason])
    rw [hreason, hx] at hd
    rw [hd] at hsol
    refine ⟨?_, ?_, ?_, ?_, hsol⟩ <;> rw [show (settle s v).pto.drive d = _ from hd] <;> rfl
  · obtain ⟨hd, -⟩ := ptoReact_releases (b := s) (by rw [hx]; rfl) hinert hchg (by rwa [hreason])
    rw [← hv.settle.1, hfb, if_pos hf, henv] at hd
    rw [hd] at hsol
    refine ⟨?_, hsol⟩
    rw [show (settle s v).pto.drive d = _ from hd]
    exact releasingFrom_releasingDrive s _
  · obtain ⟨hd, hn⟩ := ptoReact_releases (b := s) (by rw [hx]; rfl) hinert hchg (by rwa [hreason])
    rw [← hv.settle.1, hfb, if_neg (by simp [hf])] at hd
    rw [hd] at hsol
    refine ⟨?_, hsol, fun hroom => ?_⟩
    · rw [show (settle s v).pto.drive d = _ from hd]
      rfl
    · exact (Undisturbed.replied hu tag .accepted []).run_disengaged
        (by simp [enterWindingDown_eq, State.ptoRun, PtoRun.put])
        (by simp [Bare, enterWindingDown_eq, State.ptoRun, PtoRun.put]) (.inr (hn (hfb.trans hf)))
        (by rw [hnotices]; exact Nat.le_succ_of_le hroom)

/-- Settles O29, by the state of the drive. -/
theorem disengageIsAnsweredByTheDriveState : Obligations.DisengageIsAnsweredByTheDriveState := by
  rintro tag byte s u hex rfl
  refine ⟨fun hb => ?_, ?_⟩
  · have hr := request_reacted _ (handleDisengage byte) s hex
    have hh : handleDisengage byte (takeRequest s) = plain .badValue (takeRequest s) := by
      unfold handleDisengage
      rw [driveOf_none hb]
    rw [hh] at hr
    exact ⟨_, rfl, hr⟩
  rintro d x hb rfl hu
  have hstate : (s.ptoRun.pto.drive d).state = (s.pto.drive d).state := rfl
  refine ⟨fun hs => ?_, fun hs => ?_, fun hrun hs => ?_, fun hi ho => ⟨fun hs c hc => ?_, fun hs => ?_, fun hs hos => ?_⟩⟩
  · have hr : disengageDrive (ptoEnv s) d s.ptoRun = (s.ptoRun, .ok) := by
      simp only [List.mem_cons, List.not_mem_nil, or_false] at hs
      rcases hs with hs | hs | hs | hs <;> simp [disengageDrive, hstate, hs]
    obtain ⟨hsees, -, -, hpower, -⟩ := replied_sees tag .ok [] s
    have hpto := (Undisturbed.replied hu tag .ok []).settle_unchanged (b := s) (r := s.ptoRun)
      (hsees.sameSources hpower) (fun _ => rfl) (fun _ => rfl)
    rw [hsees.env_eq hpower] at hpto
    refine ⟨_, disengage_row hex hb hr, ?_, ?_, fun hst => ?_⟩
    · exact (Undisturbed.replied hu tag .ok []).run_reacted (by simp [State.ptoRun]) (by simp [State.ptoRun])
    · rw [hpto, refreshReady_drive]
      rfl
    · rw [hpto]
      exact congrArg (fun p => Pto.drive p d) hst.drives
  · have hr : disengageDrive (ptoEnv s) d s.ptoRun = (enterDisengaged (ptoEnv s) d s.ptoRun, .ok) := by
      simp [disengageDrive, hstate, hs]
    have hd := settle_disengaged (b := s) (e := ptoEnv s) (d := d) (r := s.ptoRun)
      (replied_working (mayExecute_working hex) tag .ok []) rfl
    refine ⟨_, disengage_row hex hb hr, ?_, ?_, ?_⟩
    · exact (Undisturbed.replied hu tag .ok []).run_reacted (by simp [enterDisengaged_eq, State.ptoRun, PtoRun.put])
        (by simp [enterDisengaged_eq, State.ptoRun, PtoRun.put])
    · rw [hd]; rfl
    · rw [hd]; rfl
  · exact disengage_released hex hb hu (by simp [disengageDrive, hstate, hs])
  · exact disengage_engaged hex hb hu ho hs hc
  · refine disengage_released hex hb hu ?_
    rcases hs with hs | ⟨hs, hos⟩
    · simp [disengageDrive, hstate, hs]
    · rw [← holdsShift_iff] at hos
      simp only [disengageDrive, hstate, hs, releaseDrive]
      exact congrArg (·, ResultCode.accepted) (if_neg hos)
  · rw [← holdsShift_iff] at hos
    have hr : disengageDrive (ptoEnv s) d s.ptoRun = (enterWindingDown (ptoEnv s) d true s.ptoRun, .accepted) := by
      simp only [disengageDrive, hstate, hs, releaseDrive]
      exact congrArg (·, ResultCode.accepted) (if_pos hos)
    obtain ⟨hreact, hd, hsol⟩ := (Undisturbed.replied hu tag .accepted []).settle_windDown (b := s) (e := ptoEnv s) (d := d)
      (r := s.ptoRun) rfl (by rw [hs]; exact nofun) hos
    refine ⟨_, disengage_row hex hb hr, hreact, ?_, ?_, ?_, hsol⟩ <;> rw [hd] <;> rfl

/-- Settles O30, by the state of the drive and its feedback. -/
theorem faultClearNeedsTheFeedbackOff : Obligations.FaultClearNeedsTheFeedbackOff := by
  rintro tag byte s u hex rfl
  refine ⟨fun hb => ?_, ?_⟩
  · have hr := request_reacted _ (handleFaultClear byte) s hex
    have hh : handleFaultClear byte (takeRequest s) = plain .badValue (takeRequest s) := by
      unfold handleFaultClear
      rw [driveOf_none hb]
    rw [hh] at hr
    exact ⟨_, rfl, hr⟩
  rintro d x hb rfl
  have hw := mayExecute_working hex
  have hfb := ptoEnv_fb s d
  have hstate : (s.ptoRun.pto.drive d).state = (s.pto.drive d).state := rfl
  have react {code : ResultCode} {body : List Byte} {p : Pto} :
      Reacted (putReply tag code body (takeRequest s)) (settle s ((putReply tag code body (takeRequest s)).withPto
        { pto := p, posts := [] })) := ReactedBy.of_pto (reacted_settle s _)
  refine ⟨fun hs hf => ?_, fun hs hf => ?_, fun hs => ?_⟩
  · have hr : clearFault (ptoEnv s) d s.ptoRun = (enterDisengaged (ptoEnv s) d s.ptoRun, .ok) := by
      simp [clearFault, hstate, hs, hfb, hf]
    have hd := settle_disengaged (b := s) (e := ptoEnv s) (d := d) (r := s.ptoRun) (replied_working hw tag .ok []) rfl
    refine ⟨_, faultClear_row hex hb hr (by simp), react, ?_, ?_, ?_⟩ <;> rw [hd] <;> rfl
  · have hr : clearFault (ptoEnv s) d s.ptoRun = (s.ptoRun, .refusedCondition) := by
      simp [clearFault, hstate, hs, hfb, hf]
    have hd := settle_drive_rest s ((putReply tag .refusedCondition [0xFF#8] (takeRequest s)).withPto s.ptoRun)
      (replied_working hw tag .refusedCondition [0xFF#8]) d (.inr (.inr hs))
    refine ⟨_, faultClear_row hex hb hr (by simp), react, ?_, ?_⟩
    · rw [hd]; exact hs
    · rw [hd]; rfl
  · have hr : clearFault (ptoEnv s) d s.ptoRun = (s.ptoRun, .refusedState) := by
      unfold clearFault
      split
      · next hf => exact absurd hf hs
      · rfl
    exact ⟨_, faultClear_row hex hb hr (by simp), react⟩

end Sys2Proof.Machine
end

section
/-! SUPPORT. A sample of a drive's feedback (R17, R63, R64, R68, R71, R72, R75), and O31. -/

namespace Sys2Proof.Machine

/-! ### Samples of a discrete -/

/-- The part with a discrete's record replaced. -/
def withDiscrete (ch : Fin 10) (x : DiscreteChan) (s : State) : State :=
  { s with inputs := { s.inputs with discrete := s.inputs.discrete.set ch x } }

section
variable {ch : Fin 10} {x : DiscreteChan} {s : State}

theorem withDiscrete_at : (withDiscrete ch x s).inputs.discrete[ch] = x := by simp [withDiscrete]

/-- Another discrete keeps its record. -/
theorem withDiscrete_other {i : Fin 10} (h : i ≠ ch) :
    (withDiscrete ch x s).inputs.discrete[i] = s.inputs.discrete[i] := by
  have hne : ch.val ≠ i.val := fun he => h (Fin.ext he.symm)
  simp [withDiscrete, hne]

theorem withDiscrete_level_other {i : Fin 10} (h : i ≠ ch) : (withDiscrete ch x s).level i = s.level i :=
  congrArg DiscreteChan.level (withDiscrete_other h)

end

/-- A drive's feedback is the discrete after its index (R55). -/
theorem feedbackOf_index {ch : Fin 10} {d : DriveId} (h : ch.val = driveIndex d + 1) : feedbackOf ch = some d := by
  cases d
  · rw [show ch = 1 from Fin.ext h]; rfl
  · rw [show ch = 2 from Fin.ext h]; rfl

/-- A first sample and an accepted change of a drive's feedback are the sequencer's. -/
theorem handDiscrete_first {ch : Fin 10} {d : DriveId} (h : feedbackOf ch = some d) (was : Bool) (s : State) :
    handDiscrete ch was .first s = s.withPto (firstFeedback (ptoEnv s) d was s.ptoRun) := by
  simp [handDiscrete, h]

theorem handDiscrete_accepted {ch : Fin 10} {d : DriveId} (h : feedbackOf ch = some d) (was : Bool) (s : State) :
    handDiscrete ch was .accepted s = s.withPto (feedbackChange (ptoEnv s) d s.ptoRun) := by
  simp [handDiscrete, h]

section
variable {ch : Fin 10} {d : DriveId} {level electrical : Bool} {s : State} {x : DiscreteChan}

/-- A sample of a drive's feedback leaves the other discretes that the sequencer and the power controller read. -/
theorem withDiscrete_undisturbed (hch : ch.val = driveIndex d + 1) (h : Undisturbed s) :
    Undisturbed (withDiscrete ch x s) := by
  have h8 : (withDiscrete ch x s).level 8 = s.level 8 :=
    withDiscrete_level_other (fun he => by rw [← he] at hch; cases d <;> cases hch)
  unfold Undisturbed IgnitionOn InRundown
  rw [h8]
  exact h

theorem withDiscrete_sources (hch : ch.val = driveIndex d + 1) : SameSources s (withDiscrete ch x s) :=
  ⟨rfl, rfl, withDiscrete_other (fun he => by rw [← he] at hch; cases d <;> cases hch), rfl⟩

theorem withDiscrete_feedback (hch : ch.val = driveIndex d + 1) : (withDiscrete ch x s).feedback d = x.level := by
  have h : (withDiscrete ch x s).level ch = x.level := congrArg DiscreteChan.level withDiscrete_at
  cases d
  · obtain rfl : ch = 1 := Fin.ext hch
    exact h
  · obtain rfl : ch = 2 := Fin.ext hch
    exact h

/-- The electrical level by which a discrete has a logical one (R17). -/
theorem logicalLevel_of {p : Polarity} (h : electrical = if p = .activeHigh then level else !level) :
    logicalLevel p electrical = level := by
  subst h
  cases p <;> simp [logicalLevel]

/-- The first sample of a discrete is taken as its level, and a fourth differing sample changes it (R17, R22). -/
theorem sampleDiscrete_first {p : Polarity} {y : DiscreteChan} (h : y.awaitFirst = true) :
    (sampleDiscrete p electrical y).1.level = logicalLevel p electrical ∧
    (sampleDiscrete p electrical y).2 = .first := by
  unfold sampleDiscrete
  rw [if_pos h]
  exact ⟨rfl, rfl⟩

theorem sampleDiscrete_accepted {p : Polarity} {y : DiscreteChan} (h : y.awaitFirst = false)
    (hl : logicalLevel p electrical ≠ y.level) (hc : y.count = 3) :
    (sampleDiscrete p electrical y).1.level = logicalLevel p electrical ∧
    (sampleDiscrete p electrical y).2 = .accepted := by
  unfold sampleDiscrete
  rw [if_neg (by simp [h])]
  rw [if_neg hl, if_pos (by rw [hc])]
  exact ⟨rfl, rfl⟩

/-- A sample of a drive's feedback that is due. -/
theorem sample_row (h : Undisturbed s) (hdue : sampleDue s.time.uptime (s.inputs.discrete[ch]).next = true) :
    exec (.discreteSample ch electrical) s = .next (settle s (takeDiscrete ch electrical s)) := by
  have hw := h.working
  refine congrArg Host.Outcome.next ?_
  unfold event
  rw [if_pos (working_powered s hw)]
  dsimp only
  rw [if_pos (by rw [hw, hdue]; rfl)]

/-- The level after a sample of a drive's feedback, and after the reactions to it. -/
theorem settle_sampled {b : State} {r : PtoRun} :
    ((settle b ((withDiscrete ch x s).withPto r)).inputs.discrete[ch]).level = x.level := by
  have h := (reacted_settle b ((withDiscrete ch x s).withPto r)).channels
  rw [h]
  exact congrArg DiscreteChan.level withDiscrete_at

section
variable (hch : ch.val = driveIndex d + 1)
  (hel : electrical = if s.settings.polarity[ch] = .activeHigh then level else !level)
include hch hel

/-- The first sample of a drive's feedback after a starting point (R75). -/
theorem takeDiscrete_first (hf : (s.inputs.discrete[ch]).awaitFirst = true) : ∃ x : DiscreteChan, x.level = level ∧
    takeDiscrete ch electrical s = (withDiscrete ch x s).withPto (firstFeedback (ptoEnv (withDiscrete ch x s)) d
      (s.inputs.discrete[ch]).level (withDiscrete ch x s).ptoRun) := by
  let y : DiscreteChan := { s.inputs.discrete[ch] with next := nextPeriod s.time.uptime 5 (s.inputs.discrete[ch]).next }
  obtain ⟨hlevel, hout⟩ := sampleDiscrete_first (p := s.settings.polarity[ch]) (electrical := electrical) (y := y) hf
  refine ⟨(sampleDiscrete (s.settings.polarity[ch]) electrical y).1, hlevel.trans (logicalLevel_of hel), ?_⟩
  show handDiscrete ch _ (sampleDiscrete (s.settings.polarity[ch]) electrical y).2 _ = _
  rw [hout, handDiscrete_first (feedbackOf_index hch)]
  rfl

/-- An accepted change of a drive's feedback (R63, R64, R71, R72). -/
theorem takeDiscrete_accepted (hf : (s.inputs.discrete[ch]).awaitFirst = false)
    (hl : (s.inputs.discrete[ch]).level = !level) (hc : (s.inputs.discrete[ch]).count = 3) :
    ∃ x : DiscreteChan, x.level = level ∧ takeDiscrete ch electrical s =
      (withDiscrete ch x s).withPto (feedbackChange (ptoEnv (withDiscrete ch x s)) d (withDiscrete ch x s).ptoRun) := by
  have hlog := logicalLevel_of hel
  let y : DiscreteChan := { s.inputs.discrete[ch] with next := nextPeriod s.time.uptime 5 (s.inputs.discrete[ch]).next }
  have hne : logicalLevel (s.settings.polarity[ch]) electrical ≠ y.level := by
    rw [hlog, show y.level = !level from hl]
    cases level <;> decide
  obtain ⟨hlevel, hout⟩ := sampleDiscrete_accepted (y := y) hf hne hc
  refine ⟨(sampleDiscrete (s.settings.polarity[ch]) electrical y).1, hlevel.trans hlog, ?_⟩
  show handDiscrete ch _ (sampleDiscrete (s.settings.polarity[ch]) electrical y).2 _ = _
  rw [hout, handDiscrete_accepted (feedbackOf_index hch)]
  rfl

end
end

/-! ### What a change of feedback leaves of the drive -/

section
variable {b v : State} {d : DriveId} (hu : Undisturbed v)
include hu

/-- The event of an accepted change of a drive's feedback. -/
theorem settle_feedbackOn_rundown (hfb : v.feedback d = true) (hs : (v.pto.drive d).state = .shifting)
    (hb : (b.pto.drive d).state = .shifting) (hrun : InRundown v) :
    let t := settle b (v.withPto (feedbackOn (ptoEnv v) d v.ptoRun))
    (¬ OtherShifts v d → ReleasingFrom v (t.pto.drive d) ∧ solenoid t d = false) ∧
    (OtherShifts v d → (t.pto.drive d).state = .windingDown ∧ (t.pto.drive d).waiver = true ∧
      (t.pto.drive d).reason = some .otherShift ∧ solenoid t d = true) := by
  let r0 := v.ptoRun.put d (settlingDrive (ptoEnv v) (v.pto.drive d))
  have hother : r0.pto.drive (otherDrive d) = v.pto.drive (otherDrive d) := drive_setDrive_other' _ _ _
  have hpow : (ptoEnv v).power = .rundown := hrun.2.1
  have hr : feedbackOn (ptoEnv v) d v.ptoRun = releaseDrive (ptoEnv v) d r0 := by
    have hstate : (v.ptoRun.pto.drive d).state = .shifting := hs
    simp only [feedbackOn, hstate]
    rw [enterSettling_eq, releaseInRundown, if_pos hpow]
    rfl
  dsimp only
  rw [hr, releaseDrive, hother, ← holdsShift_iff]
  refine ⟨fun ho => ?_, fun ho => ?_⟩
  · rw [if_neg ho]
    obtain ⟨-, hd, -, hsol⟩ := hu.settle_release (b := b) (e := ptoEnv v) (d := d) (r := r0) rfl
    rw [ptoEnv_fb, if_pos hfb] at hd
    rw [hd]
    exact ⟨releasingFrom_releasingDrive v _, hsol⟩
  · rw [if_pos ho]
    obtain ⟨-, hd, hsol⟩ := hu.settle_windDown (b := b) (e := ptoEnv v) (d := d) (r := r0) rfl
      (by rw [hb]; exact nofun) (by rw [hother]; exact ho)
    rw [hd]
    exact ⟨rfl, rfl, rfl, hsol⟩

/-- With the ignition on a drive whose feedback comes on in SHIFTING settles (R63, R64). -/
theorem settle_feedbackOn_awake (hs : (v.pto.drive d).state = .shifting) (hi : IgnitionOn v) :
    (settle b (v.withPto (feedbackOn (ptoEnv v) d v.ptoRun))).pto.drive d =
      settlingDrive (ptoEnv v) (v.pto.drive d) := by
  have hr : feedbackOn (ptoEnv v) d v.ptoRun = v.ptoRun.put d (settlingDrive (ptoEnv v) (v.pto.drive d)) := by
    have hstate : (v.ptoRun.pto.drive d).state = .shifting := hs
    simp only [feedbackOn, hstate]
    rw [enterSettling_eq, releaseInRundown_off (by rw [show (ptoEnv v).power = _ from hi.2.1]; decide)]
    rfl
  have hx : (v.withPto (feedbackOn (ptoEnv v) d v.ptoRun)).pto.drive d =
      settlingDrive (ptoEnv v) (v.pto.drive d) := by
    rw [hr]
    exact drive_setDrive _ _ _
  have hu' : Undisturbed (v.withPto (feedbackOn (ptoEnv v) d v.ptoRun)) := hu
  rw [hu'.settle.1, ptoReact_inert b _ d (by rw [hx]; exact ⟨nofun, nofun⟩), hx]
  rfl

/-- A change of the uncommanded-feedback timer alone stays (R72). -/
theorem settle_uncommanded (hs : SameSources b v) (hp : v.pto = b.pto) (timer : Timer) :
    let x : Drive := { v.pto.drive d with uncommanded := timer }
    ((settle b (v.withPto (v.ptoRun.put d x))).pto.drive d).state = (v.pto.drive d).state ∧
    ((settle b (v.withPto (v.ptoRun.put d x))).pto.drive d).uncommanded = timer := by
  dsimp only
  have hkeep {β : Type} (f : Drive → β) (hf : f { v.pto.drive d with uncommanded := timer } = f (v.pto.drive d))
      (k : DriveId) :
      f ((v.ptoRun.put d { v.pto.drive d with uncommanded := timer }).pto.drive k) = f (b.pto.drive k) := by
    rw [← hp, PtoRun.put_pto]
    rcases drive_eq_or_other d k with rfl | rfl
    · rw [drive_setDrive]; exact hf
    · rw [drive_setDrive_other']; rfl
  rw [hu.settle_unchanged hs (hkeep Drive.state rfl) (hkeep Drive.waiver rfl), refreshReady_drive, PtoRun.put_pto,
    drive_setDrive]
  exact ⟨rfl, rfl⟩

/-- A drive that a loss of its feedback takes to DISENGAGED with PTO_DISENGAGED (R68, R75). -/
theorem settle_lost_feedback {r : PtoRun} (hr : r = (enterDisengaged (ptoEnv v) d v.ptoRun).say (noticePtoDisengaged d)) :
    (settle b (v.withPto r)).pto.drive d = disengagedDrive (ptoEnv v) d (v.pto.drive d) ∧
    (RoomLeft v.notices → NoticeWaits .ptoDisengaged (driveIndex d) [] (settle b (v.withPto r)).notices) := by
  have hposts : r.posts = [noticePtoDisengaged d] := by rw [hr]; rfl
  refine ⟨settle_disengaged (r := v.ptoRun) hu.working (by rw [hr]; rfl), fun hroom => ?_⟩
  exact hu.run_disengaged (by rw [hposts]; exact Nat.le_add_left 1 7) (by rw [hposts]; simp [Bare, noticePtoDisengaged])
    (.inl (by rw [hposts]; exact List.mem_singleton_self _)) (Nat.le_succ_of_le hroom)

end

/-- An accepted change of a drive's feedback to on, with what becomes of the drive. -/
theorem feedback_on {d : DriveId} {s v : State} (hu : Undisturbed v) (hsrc : SameSources s v) (hp : v.pto = s.pto)
    (hn : v.time.uptime = s.time.uptime) (hfb : v.feedback d = true) (hrun : InRundown s ↔ InRundown v)
    (hi : IgnitionOn s ↔ IgnitionOn v) {t : State}
    (ht : t = settle s (v.withPto (feedbackChange (ptoEnv v) d v.ptoRun))) :
    ((s.pto.drive d).state = .shifting → InRundown s →
      (¬ OtherShifts s d → ReleasingFrom s (t.pto.drive d) ∧ solenoid t d = false) ∧
      (OtherShifts s d → (t.pto.drive d).state = .windingDown ∧ (t.pto.drive d).waiver = true ∧
        (t.pto.drive d).reason = some .otherShift ∧ solenoid t d = true)) ∧
    ((s.pto.drive d).state = .shifting → IgnitionOn s → (t.pto.drive d).state = .settling ∧
      (t.pto.drive d).shift = none ∧
      (s.settings.pto.settleTime ≠ 0 →
        (t.pto.drive d).settle = some (s.time.uptime + BitVec.ofNat 32 s.settings.pto.settleTime)) ∧
      (s.settings.pto.settleTime = 0 → (t.pto.drive d).settle = some (s.time.uptime + 10#32))) ∧
    ((s.pto.drive d).state = .disengaged ∨ (s.pto.drive d).state = .requested →
      (t.pto.drive d).state = (s.pto.drive d).state ∧ (t.pto.drive d).uncommanded = some (s.time.uptime + 500#32)) := by
  have hchange : feedbackChange (ptoEnv v) d v.ptoRun = feedbackOn (ptoEnv v) d v.ptoRun := by
    rw [feedbackChange, ptoEnv_fb, if_pos hfb]
  rw [hchange] at ht
  subst ht
  rw [hrun, hi, ← hp, ← hn, ← hsrc.settings]
  refine ⟨fun hs hrun' => ?_, fun hs hi' => ?_, fun hs => ?_⟩
  · have h := settle_feedbackOn_rundown (b := s) hu hfb hs (hp ▸ hs) hrun'
    have ho : OtherShifts s d ↔ OtherShifts v d := by unfold OtherShifts; rw [hp]
    have hrel (x : Drive) : ReleasingFrom s x ↔ ReleasingFrom v x := by
      unfold ReleasingFrom
      rw [hn, hsrc.settings]
    rw [ho, hrel]
    exact h
  · have h := settle_feedbackOn_awake (b := s) hu hs hi'
    rw [h]
    refine ⟨rfl, rfl, fun h0 => ?_, fun h0 => ?_⟩
    · show startTimer v.time.uptime (orShortest 10 v.settings.pto.settleTime) = _
      rw [orShortest, if_neg h0]
      rfl
    · show startTimer v.time.uptime (orShortest 10 v.settings.pto.settleTime) = _
      rw [orShortest, if_pos h0]
      rfl
  · have hr : feedbackOn (ptoEnv v) d v.ptoRun = v.ptoRun.put d
        { v.pto.drive d with uncommanded := startTimer v.time.uptime uncommandedMs } := by
      have hstate : (v.ptoRun.pto.drive d).state = (v.pto.drive d).state := rfl
      rcases hs with hs | hs <;> simp only [feedbackOn, hstate, hs] <;> rfl
    rw [hr]
    exact settle_uncommanded hu hsrc hp _

/-- An accepted change of a drive's feedback to off, with what becomes of the drive. -/
theorem feedback_off {d : DriveId} {s v : State} (hu : Undisturbed v) (hsrc : SameSources s v) (hp : v.pto = s.pto)
    (hn : v.time.uptime = s.time.uptime) (hq : v.notices = s.notices) (hfb : v.feedback d = false) {t : State}
    (ht : t = settle s (v.withPto (feedbackChange (ptoEnv v) d v.ptoRun))) :
    ((s.pto.drive d).state = .settling → t.pto.drive d = faultedDrive s.time.uptime .settleLost (s.pto.drive d)) ∧
    ((s.pto.drive d).state = .engaged ∨ (s.pto.drive d).state = .windingDown →
      t.pto.drive d = faultedDrive s.time.uptime .dropped (s.pto.drive d)) ∧
    ((s.pto.drive d).state = .releasing → (t.pto.drive d).state = .disengaged ∧ (t.pto.drive d).release = none ∧
      (RoomLeft s.notices → NoticeWaits .ptoDisengaged (driveIndex d) [] t.notices)) ∧
    ((s.pto.drive d).state = .disengaged ∨ (s.pto.drive d).state = .requested →
      (t.pto.drive d).state = (s.pto.drive d).state ∧ (t.pto.drive d).uncommanded = none) ∧
    ((s.pto.drive d).state = .fault → (s.pto.drive d).cause = some .foundEngaged →
      (t.pto.drive d).state = .disengaged ∧ (t.pto.drive d).cause = none ∧
      (RoomLeft s.notices → NoticeWaits .ptoDisengaged (driveIndex d) [] t.notices)) ∧
    ((s.pto.drive d).state = .fault → (s.pto.drive d).cause ≠ some .foundEngaged →
      (t.pto.drive d).state = .fault ∧ (t.pto.drive d).cause = (s.pto.drive d).cause) := by
  have hchange : feedbackChange (ptoEnv v) d v.ptoRun = feedbackOff (ptoEnv v) d v.ptoRun := by
    rw [feedbackChange, ptoEnv_fb, if_neg (by simp [hfb])]
  have hstate : (v.ptoRun.pto.drive d).state = (v.pto.drive d).state := rfl
  rw [hchange] at ht
  subst ht
  rw [← hp, ← hn, ← hq]
  have faulted {cause : DriveCause} (hr : feedbackOff (ptoEnv v) d v.ptoRun = enterFault (ptoEnv v) d cause v.ptoRun) :
      (settle s (v.withPto (feedbackOff (ptoEnv v) d v.ptoRun))).pto.drive d =
        faultedDrive v.time.uptime cause (v.pto.drive d) := by
    obtain ⟨-, hd, -, -⟩ := settle_enterFault (b := s) hu.working d cause _ (congrArg v.withPto hr)
    exact hd
  refine ⟨fun hs => faulted ?_, fun hs => faulted ?_, fun hs => ?_, fun hs => ?_, fun hs hc => ?_, fun hs hc => ?_⟩
  · simp only [feedbackOff, hstate, hs]
  · rcases hs with hs | hs <;> simp only [feedbackOff, hstate, hs]
  · obtain ⟨hd, hnote⟩ := settle_lost_feedback (b := s) (d := d) hu (r := feedbackOff (ptoEnv v) d v.ptoRun)
      (by simp only [feedbackOff, hstate, hs])
    refine ⟨?_, ?_, hnote⟩ <;> rw [hd] <;> rfl
  · have hr : feedbackOff (ptoEnv v) d v.ptoRun = v.ptoRun.put d { v.pto.drive d with uncommanded := none } := by
      rcases hs with hs | hs <;> simp only [feedbackOff, hstate, hs] <;> rfl
    rw [hr]
    exact settle_uncommanded hu hsrc hp none
  · have hcause : (v.ptoRun.pto.drive d).cause = some .foundEngaged := hc
    obtain ⟨hd, hnote⟩ := settle_lost_feedback (b := s) (d := d) hu (r := feedbackOff (ptoEnv v) d v.ptoRun)
      (by simp only [feedbackOff, hstate, hs, hcause, if_true])
    refine ⟨?_, ?_, hnote⟩ <;> rw [hd] <;> rfl
  · have hcause : (v.ptoRun.pto.drive d).cause ≠ some .foundEngaged := hc
    have hr : feedbackOff (ptoEnv v) d v.ptoRun = v.ptoRun := by
      simp only [feedbackOff, hstate, hs, hcause, if_false]
    rw [hr, settle_drive_rest s (v.withPto v.ptoRun) hu.working d (.inr (.inr hs))]
    exact ⟨hs, rfl⟩

/-- Settles O31, by the level that the sample brings. -/
theorem feedbackMovesTheDrive : Obligations.FeedbackMovesTheDrive := by
  rintro d ch level electrical s x c hu hch rfl rfl hdue hel
  have hrow := sample_row (electrical := electrical) hu hdue
  refine ⟨fun hf hl hs => ⟨_, hrow, ?_⟩, fun hf hl hc => ⟨_, hrow, ?_⟩⟩
  · obtain ⟨x, hx, htake⟩ := takeDiscrete_first hch hel hf
    let v := withDiscrete ch x s
    have hv : Undisturbed v := withDiscrete_undisturbed hch hu
    have hfb : v.feedback d = level := (withDiscrete_feedback hch).trans hx
    rw [htake]
    refine ⟨settle_sampled.trans hx, ?_, ?_⟩
    · rintro rfl
      have hr : firstFeedback (ptoEnv v) d (s.inputs.discrete[ch]).level v.ptoRun =
          enterFault (ptoEnv v) d .foundEngaged v.ptoRun :=
        if_pos ⟨(ptoEnv_fb v d).trans hfb, hs⟩
      obtain ⟨-, hd, -, ha⟩ := settle_enterFault (b := s) hv.working d .foundEngaged _ (congrArg v.withPto hr)
      exact ⟨hd, ha⟩
    · rintro rfl
      have hr : firstFeedback (ptoEnv v) d (s.inputs.discrete[ch]).level v.ptoRun = v.ptoRun := by
        rw [firstFeedback, ptoEnv_fb, hfb, hl]
        simp
      rw [hr, settle_drive_rest s (v.withPto v.ptoRun) hv.working d (.inl hs)]
      exact ⟨hs, rfl⟩
  · obtain ⟨x, hx, htake⟩ := takeDiscrete_accepted hch hel hf hl hc
    let v := withDiscrete ch x s
    have hv : Undisturbed v := withDiscrete_undisturbed hch hu
    have hfb : v.feedback d = level := (withDiscrete_feedback hch).trans hx
    have h8 : v.level 8 = s.level 8 :=
      withDiscrete_level_other (fun he => by rw [← he] at hch; cases d <;> cases hch)
    rw [htake]
    refine ⟨settle_sampled.trans hx, ?_, ?_⟩
    · rintro rfl
      refine feedback_on hv (withDiscrete_sources hch) rfl rfl hfb ?_ ?_ rfl
      · unfold InRundown; rw [h8]; rfl
      · unfold IgnitionOn; rw [h8]; rfl
    · rintro rfl
      exact feedback_off hv (withDiscrete_sources hch) rfl rfl rfl hfb rfl

end Sys2Proof.Machine
end

section
/-! SUPPORT. The checks of a drive that waits, in REQUESTED or in WINDING_DOWN: where it has been checked its reason is the first
condition not met, and there is one (R58, R62, R67). -/

namespace Sys2Proof.Machine

/-! ### The reason of a drive that waits -/

/-- The first condition that keeps a waiting drive in its state, or none (R60, R61, R67). -/
def pendingReason (e : PtoEnv) (p : Pto) (d : DriveId) : Option Reason :=
  match (p.drive d).state with
  | .requested => engageReason e p d
  | .windingDown => releaseReason e p d
  | _ => none

section
variable {e : PtoEnv} {d : DriveId} {p q : Pto} {r : PtoRun}

/-- A drive that waits for a check is in REQUESTED or in WINDING_DOWN. -/
theorem not_inert {x : Drive} : ¬ inert x ↔ x.state = .requested ∨ x.state = .windingDown := by
  unfold inert
  tauto

theorem pendingReason_requested (h : (p.drive d).state = .requested) : pendingReason e p d = engageReason e p d := by
  simp [pendingReason, h]

theorem pendingReason_windingDown (h : (p.drive d).state = .windingDown) : pendingReason e p d = releaseReason e p d := by
  simp [pendingReason, h]

/-- The reason rests on the drive's own state and waiver and on the other drive's state. -/
theorem pendingReason_congr (hs : ∀ k, (q.drive k).state = (p.drive k).state)
    (hw : (q.drive d).waiver = (p.drive d).waiver) : pendingReason e q d = pendingReason e p d := by
  have ho (k : DriveId) : holdsShift (q.drive k) = holdsShift (p.drive k) := by simp only [holdsShift, hs]
  have hengage : engageReason e q d = engageReason e p d := by
    have hm : holdsShift q.main = holdsShift p.main := ho .main
    have ha : holdsShift q.aux = holdsShift p.aux := ho .aux
    unfold engageReason
    rw [hm, ha]
  have hrelease : releaseReason e q d = releaseReason e p d := by
    unfold releaseReason
    rw [hw, ho]
  unfold pendingReason
  rw [hs, hengage, hrelease]

/-- A waiting drive with no condition unmet may go. -/
theorem pendingReason_none (hd : ¬ inert (p.drive d)) (h : pendingReason e p d = none) :
    mayRelease e p d = true ∨ mayShift e p d = true := by
  rcases not_inert.mp hd with hs | hs
  · exact .inr (by simpa [mayShift, hs, pendingReason] using h)
  · exact .inl (by simpa [mayRelease, hs, pendingReason] using h)

/-- A check sets the reason of a waiting drive. -/
theorem setReason_waiting (hd : ¬ inert (r.pto.drive d)) :
    setReason e d r = r.put d { r.pto.drive d with reason := pendingReason e r.pto d } := by
  unfold setReason pendingReason
  dsimp only
  rcases not_inert.mp hd with hs | hs <;> rw [hs]

/-- A check leaves the states and the waivers. -/
theorem setReason_keeps (k : DriveId) : ((setReason e d r).pto.drive k).state = (r.pto.drive k).state ∧
    ((setReason e d r).pto.drive k).waiver = (r.pto.drive k).waiver := by
  by_cases hd : inert (r.pto.drive d)
  · rw [setReason_of_inert hd]
    exact ⟨rfl, rfl⟩
  · rw [setReason_waiting hd, PtoRun.put_pto]
    rcases drive_eq_or_other d k with rfl | rfl
    · rw [drive_setDrive]; exact ⟨rfl, rfl⟩
    · rw [drive_setDrive_other']; exact ⟨rfl, rfl⟩

end

/-! ### The arbitration takes a drive out of its waiting -/

section
variable {e : PtoEnv} {d : DriveId} {r r' : PtoRun} {m a : Bool}

/-- An eligible drive is in AWAKE. -/
theorem engageReason_awake {p : Pto} (h : engageReason e p d = none) : e.power = .awake := by
  by_contra hn
  cases d <;> simp only [engageReason, ne_eq, hn, not_false_eq_true, if_true] at h <;>
    (repeat' split at h) <;> cases h

/-- A drive that shifts by a check does so in SHIFTING, or settles with its feedback on (R63). -/
theorem enterShifting_drive (h : e.power = .awake) : (enterShifting e d r).pto.drive d =
    if e.fb d then settlingDrive e (shiftingDrive e (r.pto.drive d)) else shiftingDrive e (r.pto.drive d) := by
  rw [enterShifting_eq]
  split
  · rw [enterSettling_eq, releaseInRundown_off (by rw [h]; decide)]
    simp
  · simp

/-- Entry to SHIFTING leaves the other drive. -/
theorem enterShifting_other' : (enterShifting e d r).pto.drive (otherDrive d) = r.pto.drive (otherDrive d) := by
  have h := enterShifting_other e (otherDrive d) r
  rwa [otherDrive_otherDrive] at h

/-- A drive that may shift is inert once it has. -/
theorem enterShifting_inert (h : mayShift e r.pto d = true) : inert ((enterShifting e d r).pto.drive d) := by
  simp only [mayShift, Bool.and_eq_true, decide_eq_true_eq] at h
  rw [enterShifting_drive (engageReason_awake h.2)]
  split <;> simp [inert, settlingDrive, shiftingDrive, enter]

/-- The arbitration takes one drive that waits, and leaves the other. -/
theorem arbitrate_some (h : arbitrate e m a r = some r') : ∃ k, ¬ inert (r.pto.drive k) ∧ inert (r'.pto.drive k) ∧
    r'.pto.drive (otherDrive k) = r.pto.drive (otherDrive k) := by
  have waits {k : DriveId} (hk : mayRelease e r.pto k = true ∨ mayShift e r.pto k = true) : ¬ inert (r.pto.drive k) := by
    refine not_inert.mpr ?_
    simp only [mayRelease, mayShift, Bool.and_eq_true, decide_eq_true_eq] at hk
    exact (hk.imp And.left And.left).symm
  have released {k : DriveId} (hk : mayRelease e r.pto k = true) : ∃ k, ¬ inert (r.pto.drive k) ∧
      inert ((enterReleasing e k r).pto.drive k) ∧
      (enterReleasing e k r).pto.drive (otherDrive k) = r.pto.drive (otherDrive k) :=
    ⟨k, waits (.inl hk), enterReleasing_inert, enterReleasing_other'⟩
  unfold arbitrate at h
  split at h
  · next hc =>
    cases h
    exact ⟨_, waits (.inl (Bool.and_eq_true_iff.mp hc).2), enterReleasing_inert, enterReleasing_other'⟩
  · split at h
    · next hc =>
      cases h
      exact ⟨_, waits (.inl (Bool.and_eq_true_iff.mp hc).2), enterReleasing_inert, enterReleasing_other'⟩
    · split at h
      · next hc =>
        cases h
        have hk := (Bool.and_eq_true_iff.mp hc).2
        exact ⟨_, waits (.inr hk), enterShifting_inert hk, enterShifting_other'⟩
      · split at h
        · next hc =>
          cases h
          have hk := (Bool.and_eq_true_iff.mp hc).2
          exact ⟨_, waits (.inr hk), enterShifting_inert hk, enterShifting_other'⟩
        · cases h

/-- Whether a drive is checked, by the two marks. -/
def flagged (m a : Bool) : DriveId → Bool
  | .main => m
  | .aux => a

/-- A drive that is checked and that the arbitration leaves has a condition unmet. -/
theorem arbitrate_none (h : arbitrate e m a r = none) (hf : flagged m a d = true) (hd : ¬ inert (r.pto.drive d)) :
    pendingReason e r.pto d ≠ none := by
  intro hn
  have hgo := pendingReason_none hd hn
  have hflag : (d = .main → m = true) ∧ (d = .aux → a = true) := by
    cases d
    · exact ⟨fun _ => hf, nofun⟩
    · exact ⟨nofun, fun _ => hf⟩
  unfold arbitrate at h
  repeat' split at h
  all_goals cases h
  cases d <;> simp_all

/-- The number of drives that wait. -/
def waiters (p : Pto) : Nat := (waits p.main).toNat + (waits p.aux).toNat
where
  /-- Whether a drive waits for a check. -/
  waits (x : Drive) : Bool := decide (x.state = .requested) || decide (x.state = .windingDown)

theorem waits_iff (x : Drive) : waiters.waits x = true ↔ ¬ inert x := by simp [waiters.waits, not_inert]

/-- At most two drives wait. -/
theorem waiters_le (p : Pto) : waiters p ≤ 2 := by
  have h1 := Bool.toNat_le (waiters.waits p.main)
  have h2 := Bool.toNat_le (waiters.waits p.aux)
  unfold waiters
  omega

/-- The arbitration leaves one drive fewer waiting. -/
theorem waiters_arbitrate (h : arbitrate e m a r = some r') : waiters r'.pto < waiters r.pto := by
  obtain ⟨k, hk, hk', ho⟩ := arbitrate_some h
  have hsum (p : Pto) : waiters p = (waiters.waits (p.drive k)).toNat + (waiters.waits (p.drive (otherDrive k))).toNat := by
    cases k
    · rfl
    · exact Nat.add_comm _ _
  have h1 : waiters.waits (r.pto.drive k) = true := (waits_iff _).mpr hk
  have h0 : waiters.waits (r'.pto.drive k) = false := by
    rw [Bool.eq_false_iff, ne_eq, waits_iff, not_not]
    exact hk'
  rw [hsum, hsum, ho, h1, h0]
  simp

end

/-! ### The checks of an event -/

/-- The reasons that the last check of an event sets. -/
def setReasons (e : PtoEnv) (m a : Bool) (r : PtoRun) : PtoRun :=
  let r := if m then setReason e .main r else r
  if a then setReason e .aux r else r

section
variable {e : PtoEnv} {d : DriveId} {n : Nat} {m a : Bool} {r r' : PtoRun}

theorem checkDrives_some (h : arbitrate e m a r = some r') :
    checkDrives e (n + 1) m a r = checkDrives e n true true r' := by simp only [checkDrives, h]

theorem checkDrives_none (h : arbitrate e m a r = none) : checkDrives e (n + 1) m a r = setReasons e m a r := by
  simp only [checkDrives, h, setReasons]

/-- The last check leaves the states and the waivers. -/
theorem setReasons_keeps (k : DriveId) : ((setReasons e m a r).pto.drive k).state = (r.pto.drive k).state ∧
    ((setReasons e m a r).pto.drive k).waiver = (r.pto.drive k).waiver := by
  have hm : ((if m then setReason e .main r else r).pto.drive k).state = (r.pto.drive k).state ∧
      ((if m then setReason e .main r else r).pto.drive k).waiver = (r.pto.drive k).waiver := by
    split
    · exact setReason_keeps k
    · exact ⟨rfl, rfl⟩
  unfold setReasons
  dsimp only
  split
  · exact ⟨(setReason_keeps k).1.trans hm.1, (setReason_keeps k).2.trans hm.2⟩
  · exact hm

/-- It sets the reason of a drive that is checked and waits. -/
theorem setReasons_reason (hf : flagged m a d = true) (hd : ¬ inert (r.pto.drive d)) :
    ((setReasons e m a r).pto.drive d).reason = pendingReason e r.pto d := by
  have put {r : PtoRun} {d : DriveId} (hd : ¬ inert (r.pto.drive d)) :
      ((setReason e d r).pto.drive d).reason = pendingReason e r.pto d := by
    rw [setReason_waiting hd, PtoRun.put_pto, drive_setDrive]
  unfold setReasons
  dsimp only
  cases d
  · have hm : m = true := hf
    have hother (r : PtoRun) : (setReason e .aux r).pto.drive .main = r.pto.drive .main := setReason_other e .main r
    rw [if_pos hm]
    split
    · rw [hother]; exact put hd
    · exact put hd
  · have ha : a = true := hf
    have hkeep (k : DriveId) := setReasons_keeps (e := e) (m := m) (a := false) (r := r) k
    have hk : pendingReason e (setReasons e m false r).pto .aux = pendingReason e r.pto .aux :=
      pendingReason_congr (fun k => (hkeep k).1) (hkeep .aux).2
    have hw : ¬ inert ((setReasons e m false r).pto.drive .aux) := by
      rw [not_inert, (hkeep .aux).1]
      exact not_inert.mp hd
    rw [if_pos ha, ← hk]
    exact put hw

/-- The checks of an event bring no drive into REQUESTED or WINDING_DOWN, and leave the waiver and the state of one that waits. -/
theorem checkDrives_waiting (n : Nat) {m a : Bool} {r : PtoRun} (hd : ¬ inert ((checkDrives e n m a r).pto.drive d)) :
    ((checkDrives e n m a r).pto.drive d).state = (r.pto.drive d).state ∧
    ((checkDrives e n m a r).pto.drive d).waiver = (r.pto.drive d).waiver := by
  induction n generalizing m a r with
  | zero => exact ⟨rfl, rfl⟩
  | succ n ih =>
    cases hr : arbitrate e m a r with
    | none =>
      rw [checkDrives_none hr]
      exact setReasons_keeps d
    | some r' =>
      rw [checkDrives_some hr] at hd ⊢
      obtain ⟨hs, hw⟩ := ih hd
      obtain ⟨k, -, hk, ho⟩ := arbitrate_some hr
      rcases drive_eq_or_other k d with rfl | rfl
      · rw [not_inert, hs, ← not_inert] at hd
        exact absurd hk hd
      · rw [ho] at hs hw
        exact ⟨hs, hw⟩

/-- After the checks of an event a drive that waits and has been checked, or has seen the other move, has the reason of the first
condition not met, and there is one. -/
theorem checkDrives_reason (n : Nat) {m a : Bool} {r : PtoRun} (hn : waiters r.pto < n)
    (hd : ¬ inert ((checkDrives e n m a r).pto.drive d))
    (hf : flagged m a d = true ∨
      ((checkDrives e n m a r).pto.drive (otherDrive d)).state ≠ (r.pto.drive (otherDrive d)).state) :
    ((checkDrives e n m a r).pto.drive d).reason = pendingReason e (checkDrives e n m a r).pto d ∧
    pendingReason e (checkDrives e n m a r).pto d ≠ none := by
  induction n generalizing m a r with
  | zero => exact absurd hn (Nat.not_lt_zero _)
  | succ n ih =>
    cases hr : arbitrate e m a r with
    | none =>
      rw [checkDrives_none hr] at hd hf ⊢
      have hkeep (k : DriveId) := setReasons_keeps (e := e) (m := m) (a := a) (r := r) k
      have hw : ¬ inert (r.pto.drive d) := by
        rw [not_inert, (hkeep d).1] at hd
        exact not_inert.mpr hd
      have hf : flagged m a d = true := hf.resolve_right fun hne => hne (hkeep _).1
      rw [pendingReason_congr (fun k => (hkeep k).1) (hkeep d).2]
      exact ⟨setReasons_reason hf hw, arbitrate_none hr hf hw⟩
    | some r' =>
      rw [checkDrives_some hr] at hd ⊢
      have hlt := waiters_arbitrate hr
      exact ih (by omega) hd (.inl (by cases d <;> rfl))

end

/-- The sequencer's turn brings no drive into REQUESTED or WINDING_DOWN, and leaves the waiver of one that waits. -/
theorem ptoReact_waiting {b s : State} {d : DriveId} (hd : ¬ inert ((ptoReact b s).pto.drive d)) :
    ((ptoReact b s).pto.drive d).state = (s.pto.drive d).state ∧
    ((ptoReact b s).pto.drive d).waiver = (s.pto.drive d).waiver := by
  rw [ptoReact_of_checks rfl, refreshReady_drive] at hd ⊢
  exact checkDrives_waiting 4 hd

/-- After the sequencer's turn a drive that waits and was to be checked, or has seen the other move, has the reason of the first
condition not met, and there is one (R62, R67). -/
theorem ptoReact_reason {b s : State} {d : DriveId} (hd : ¬ inert ((ptoReact b s).pto.drive d))
    (hf : sourcesChanged b s d = true ∨
      ((ptoReact b s).pto.drive (otherDrive d)).state ≠ (s.pto.drive (otherDrive d)).state) :
    ((ptoReact b s).pto.drive d).reason = pendingReason (ptoEnv s) (ptoReact b s).pto d ∧
    pendingReason (ptoEnv s) (ptoReact b s).pto d ≠ none := by
  rw [ptoReact_of_checks rfl] at hd hf ⊢
  have hkeep (p : Pto) (k : DriveId) := refreshReady_drive (ptoEnv s) p k
  simp only [hkeep] at hd hf ⊢
  rw [pendingReason_congr (p := (checkDrives (ptoEnv s) 4 _ _ s.ptoRun).pto) (fun k => by rw [hkeep])
    (by rw [hkeep])]
  refine checkDrives_reason 4 ?_ hd (hf.imp (fun h => ?_) id)
  · have := waiters_le s.ptoRun.pto
    omega
  · cases d <;> exact h

end Sys2Proof.Machine
end

section
/-! SUPPORT. What every command that a working part survives does to a drive that waits, and O26 and O27 (R58 to R70). -/

namespace Sys2Proof.Machine

/-! ### Whatever the command -/

/-- A command in a part that goes on working does nothing, or is an effect after which the drives have their turn. -/
theorem Continues.drivesTurn {c : Instr} {s t : State} (h : Continues c s t) :
    t = s ∨ ∃ u m, OwnEffect (c = .overspeedExpiry) s u ∧ DrivesTurn s u m t ∧ t = settle s u := by
  rcases h.event_or_same with hc | rfl
  · obtain ⟨-, ht, hexec, -, -⟩ := h
    rcases exec_ownEffect c s t hc hexec with rfl | ⟨u, ⟨-, hu⟩, rfl⟩
    · exact .inl rfl
    · obtain ⟨m, hm⟩ := settle_drivesTurn s ((reacted_settle s u).working.symm.trans ht)
      exact .inr ⟨u, m, hu, hm, rfl⟩
  · exact .inl rfl

section
variable {s u m t : State} (h : DrivesTurn s u m t) {d : DriveId}
include h

/-- A drive that waits after an event and that the sequencer was to check, or beside which the other drive has moved, has the reason
of the first condition not met, and there is one. -/
theorem DrivesTurn.reason (hd : ¬ inert (t.pto.drive d)) (hf : sourcesChanged s m d = true ∨
    (s.pto.drive (otherDrive d)).state ≠ (t.pto.drive (otherDrive d)).state) :
    (t.pto.drive d).reason = pendingReason (ptoEnv t) t.pto d ∧ pendingReason (ptoEnv t) t.pto d ≠ none := by
  rw [h.env]
  rw [h.pto] at hd hf ⊢
  refine ptoReact_reason hd ?_
  by_cases ho : (s.pto.drive (otherDrive d)).state = (m.pto.drive (otherDrive d)).state
  · exact hf.imp_right fun hne heq => hne (ho.trans heq.symm)
  · exact .inl (by simp [sourcesChanged, sharedSourceChanged, ho])

/-- What the sequencer finds of the sources is what the end of the event shows. -/
theorem DrivesTurn.quantity (q : Fin 6) : m.quantity q = t.quantity q := (h.sees.quantity q).symm

/-- A drive that waits after an event has been found so by the sequencer, with that waiver. -/
theorem DrivesTurn.found (hd : ¬ inert (t.pto.drive d)) : (m.pto.drive d).state = (t.pto.drive d).state ∧
    (m.pto.drive d).waiver = (t.pto.drive d).waiver := by
  rw [h.pto] at hd ⊢
  obtain ⟨hs, hw⟩ := ptoReact_waiting hd
  exact ⟨hs.symm, hw.symm⟩

/-- A drive in REQUESTED that has entered it, or of which a source has changed, is checked, or sees the other move (R60 to R62). -/
theorem DrivesTurn.requested (hd : (t.pto.drive d).state = .requested)
    (hc : (s.pto.drive d).state ≠ .requested ∨ EngageSourceChanged s t d) : sourcesChanged s m d = true ∨
    (s.pto.drive (otherDrive d)).state ≠ (t.pto.drive (otherDrive d)).state := by
  obtain ⟨hs, -⟩ := h.found (not_inert.mpr (.inl hd))
  rw [hd] at hs
  have hl : m.level 0 = t.level 0 := (h.sees.level 0).symm
  have hdisc : m.inputs.discrete = t.inputs.discrete := h.sees.discrete.symm
  rcases hc with hc | hc
  · exact .inl (sourcesChanged_of_state (by rwa [hs]))
  · simp only [sourcesChanged, sharedSourceChanged, hs, requestSourceChanged, acceptedChange, h.quantity, hl, hdisc,
      ← h.power]
    unfold EngageSourceChanged BrakeSwitchChanged at hc
    rcases hc with hc | hc | ⟨rfl, hc⟩ | ⟨rfl, hc⟩ | hc | hc | hc
    · simp [hc]
    · simp [hc]
    · rcases hc with hc | hc <;> simp [hc]
    · simp [hc]
    · obtain ⟨hlevel, hfirst⟩ := hc
      simp at hfirst
      simp [hlevel, hfirst]
    · simp [hc]
    · exact .inr hc

/-- A drive in WINDING_DOWN that has entered it, has had its waiver set, or of which a source has changed, is checked, or sees the
other move (R67). -/
theorem DrivesTurn.windingDown (hd : (t.pto.drive d).state = .windingDown)
    (hc : (s.pto.drive d).state ≠ .windingDown ∨ (s.pto.drive d).waiver ≠ (t.pto.drive d).waiver ∨
      ReleaseSourceChanged s t d) : sourcesChanged s m d = true ∨
    (s.pto.drive (otherDrive d)).state ≠ (t.pto.drive (otherDrive d)).state := by
  obtain ⟨hs, hw⟩ := h.found (not_inert.mpr (.inr hd))
  rw [hd] at hs
  rcases hc with hc | hc | hc | ⟨rfl, hc⟩ | hc
  · exact .inl (sourcesChanged_of_state (by rwa [hs]))
  · exact .inl (by simp [sourcesChanged, hs, hw, hc])
  · exact .inl (by simp [sourcesChanged, sharedSourceChanged, h.quantity, hc])
  · exact .inl (by simp [sourcesChanged, sharedSourceChanged, h.quantity, hc])
  · exact .inr hc

end

/-- A drive comes to SHIFTING and SETTLING on its own conditions alone, whatever the command (R60, R61, R70). -/
theorem DrivesTurn.starts {trip : Prop} {s u m t : State} (h : DrivesTurn s u m t) (hu : OwnEffect trip s u) {d : DriveId}
    (hs : (s.pto.drive d).state ∉ [DriveState.shifting, .settling])
    (ht : (t.pto.drive d).state ∈ [DriveState.shifting, .settling]) : Eligible (ptoEnv t) d := by
  by_cases hm : (m.pto.drive d).state ∈ [DriveState.shifting, .settling]
  · rcases h.before with ⟨hp, hw⟩ | ⟨-, -, -, e, hp⟩ | ⟨hb, -, -, hp⟩
    · rw [(h.ends).env_eq (h.power.trans hw)]
      exact hu.lawful.starts d hs (hp ▸ hm)
    · rw [hp] at hm
      have hst := rundownRelease_state e u.ptoRun d
      simp only [List.mem_cons, List.not_mem_nil, or_false] at hst hm
      rcases hm with hm | hm <;> simp [hm] at hst
    · obtain ⟨p, hel⟩ := hu.lawful.starts d hs (hp ▸ hm)
      have hpow : u.power.state = .awake := engageReason_awake hel
      rw [hb] at hpow
      cases hpow
  · rw [h.env]
    rw [h.pto] at ht
    exact (lawful_ptoReact s m).starts d hm ht

/-- A drive comes to SHIFTING while the other has not the shift, whatever the command (R58). -/
theorem DrivesTurn.shifts {trip : Prop} {s u m t : State} (h : DrivesTurn s u m t) (hu : OwnEffect trip s u) {d : DriveId}
    (hs : (s.pto.drive d).state ≠ .shifting) (ht : (t.pto.drive d).state = .shifting) : ¬ OtherShifts t d := by
  have hfree : ShiftFree t.pto := by
    by_cases hd : (u.pto.drive d).state = .shifting
    · exact h.lawful.oneShift (hu.lawful.shifts d hs hd)
    · exact h.lawful.shifts d hd ht
  rw [← holdsShift_iff, hfree d (holdsShift_of_shifting ht)]
  exact nofun

/-- Outside RUNDOWN a drive without a waiver is released with the engine slow and, for MAIN, in neutral, whatever the command but for
the overspeed timer's (R67, R69). -/
theorem DrivesTurn.slow {trip : Prop} {s u m t : State} (h : DrivesTurn s u m t) (hu : OwnEffect trip s u) {d : DriveId}
    (hw : s.working = true) (hs : (s.pto.drive d).state = .windingDown) (hx : (s.pto.drive d).waiver = false)
    (ha : s.power.state = .awake) (ha' : t.power.state = .awake) (hd : d = .main ∨ ¬ trip)
    (ht : (t.pto.drive d).state ∈ [DriveState.releasing, .disengaged]) : SlowEnough (ptoEnv t) d := by
  have hpow : u.power.state = .awake := (hu.keepsPower hw).trans ha
  have hmp : m.power.state = .awake := h.power.symm.trans ha'
  have hstay : m.pto = u.pto := by
    rcases h.before with ⟨hp, -⟩ | ⟨-, hr, -, -, -⟩ | ⟨hr, -, -, -⟩
    · exact hp
    · rw [hmp] at hr; cases hr
    · rw [hpow] at hr; cases hr
  have hnot : ¬ Held (t.pto.drive d) := not_held (by
    simp only [List.mem_cons, List.not_mem_nil, or_false] at ht
    rcases ht with ht | ht <;> rw [ht] <;> decide)
  rcases hu.winding (by rw [hpow]; decide) d hd hs hx with hheld | hslow
  · rcases holding_ptoReact s m (by rw [show (ptoEnv m).power = m.power.state from rfl, hmp]; decide) d
      (by rw [hstay]; exact hheld) with hheld' | hslow
    · rw [← h.pto] at hheld'
      exact absurd hheld' hnot
    · rwa [h.env]
  · exact (h.ends.slowEnough d).mpr hslow

/-! ### Periodic checks -/

section
variable {e : PtoEnv} {d : DriveId} {r : PtoRun}

/-- The run of a periodic check before its check: the period goes on. -/
def rechecked (e : PtoEnv) (d : DriveId) (r : PtoRun) : PtoRun :=
  r.put d { r.pto.drive d with recheck := nextPeriod e.now recheckMs (r.pto.drive d).recheck }

theorem recheckDrive_eq : recheckDrive e d r =
    checkDrives e 4 (decide (d = .main)) (decide (d = .aux)) (rechecked e d r) := rfl

theorem rechecked_drive : (rechecked e d r).pto.drive d =
    { r.pto.drive d with recheck := nextPeriod e.now recheckMs (r.pto.drive d).recheck } := drive_setDrive _ _ _

theorem rechecked_other : (rechecked e d r).pto.drive (otherDrive d) = r.pto.drive (otherDrive d) :=
  drive_setDrive_other' _ _ _

/-- The period leaves the reason. -/
theorem pendingReason_rechecked : pendingReason e (rechecked e d r).pto d = pendingReason e r.pto d := by
  refine pendingReason_congr (fun k => ?_) (by rw [rechecked_drive])
  rcases drive_eq_or_other d k with rfl | rfl
  · rw [rechecked_drive]
  · rw [rechecked_other]

/-- A periodic check of a drive with a condition unmet sets its reason and changes nothing else (R62, R67). -/
theorem recheckDrive_waits (hd : ¬ inert (r.pto.drive d)) (hn : pendingReason e r.pto d ≠ none) :
    recheckDrive e d r = (rechecked e d r).put d
      { (rechecked e d r).pto.drive d with reason := pendingReason e r.pto d } := by
  have hd' : ¬ inert ((rechecked e d r).pto.drive d) := by rw [rechecked_drive]; exact hd
  have hnot : mayRelease e (rechecked e d r).pto d = false ∧ mayShift e (rechecked e d r).pto d = false := by
    rw [← pendingReason_rechecked] at hn
    refine ⟨Bool.eq_false_iff.mpr fun h => hn ?_, Bool.eq_false_iff.mpr fun h => hn ?_⟩
    · simp only [mayRelease, Bool.and_eq_true, decide_eq_true_eq] at h
      rw [pendingReason_windingDown h.1, h.2]
    · simp only [mayShift, Bool.and_eq_true, decide_eq_true_eq] at h
      rw [pendingReason_requested h.1, h.2]
  have harb : arbitrate e (decide (d = .main)) (decide (d = .aux)) (rechecked e d r) = none := by
    cases d <;> simp [arbitrate, hnot.1, hnot.2]
  rw [recheckDrive_eq, checkDrives_none harb, ← pendingReason_rechecked, ← setReason_waiting hd']
  cases d <;> rfl

/-- A periodic check of a drive with every condition met takes it: RELEASING before SHIFTING (R58). -/
theorem recheckDrive_goes (hd : ¬ inert (r.pto.drive d)) (hn : pendingReason e r.pto d = none) : ∃ r',
    (((r.pto.drive d).state = .windingDown ∧ r' = enterReleasing e d (rechecked e d r)) ∨
      ((r.pto.drive d).state = .requested ∧ r' = enterShifting e d (rechecked e d r) ∧ e.power = .awake)) ∧
    (recheckDrive e d r).pto.drive d = r'.pto.drive d ∧ inert (r'.pto.drive d) ∧
    ∀ x ∈ r'.posts, x ∈ (recheckDrive e d r).posts := by
  have hd' : ¬ inert ((rechecked e d r).pto.drive d) := by rw [rechecked_drive]; exact hd
  have hst : ((rechecked e d r).pto.drive d).state = (r.pto.drive d).state := by rw [rechecked_drive]
  rw [← pendingReason_rechecked] at hn
  have goes {r' : PtoRun} (harb : arbitrate e (decide (d = .main)) (decide (d = .aux)) (rechecked e d r) = some r')
      (hi : inert (r'.pto.drive d)) : (recheckDrive e d r).pto.drive d = r'.pto.drive d ∧ inert (r'.pto.drive d) ∧
      ∀ x ∈ r'.posts, x ∈ (recheckDrive e d r).posts := by
    rw [recheckDrive_eq, checkDrives_some harb]
    obtain ⟨ns, hns, -, -⟩ := checkDrives_posts e 3 true true r'
    exact ⟨checkDrives_inert e 3 true true r' d hi, hi, fun x hx => by rw [hns]; exact List.mem_append_left ns hx⟩
  rcases not_inert.mp hd' with hs | hs
  · rw [pendingReason_requested hs] at hn
    have hms : mayShift e (rechecked e d r).pto d = true := by simp [mayShift, hs, hn]
    have hmr : mayRelease e (rechecked e d r).pto d = false := by simp [mayRelease, hs]
    exact ⟨enterShifting e d (rechecked e d r), .inr ⟨hst.symm.trans hs, rfl, engageReason_awake hn⟩,
      goes (by cases d <;> simp [arbitrate, hms, hmr]) (enterShifting_inert hms)⟩
  · rw [pendingReason_windingDown hs] at hn
    have hmr : mayRelease e (rechecked e d r).pto d = true := by simp [mayRelease, hs, hn]
    exact ⟨enterReleasing e d (rechecked e d r), .inl ⟨hst.symm.trans hs, rfl⟩,
      goes (by cases d <;> simp [arbitrate, hmr]) enterReleasing_inert⟩

/-- A periodic check posts at most PTO_DISENGAGED, four times. -/
theorem recheckDrive_posts (hr : r.posts = []) : (recheckDrive e d r).posts.length ≤ 8 ∧ Bare (recheckDrive e d r).posts ∧
    ∀ x ∈ (recheckDrive e d r).posts, x.kind = .ptoDisengaged := by
  obtain ⟨ns, hns, hl, hk⟩ := checkDrives_posts e 4 (decide (d = .main)) (decide (d = .aux)) (rechecked e d r)
  have hp : (recheckDrive e d r).posts = ns := by
    rw [recheckDrive_eq, hns, show (rechecked e d r).posts = [] from hr, List.nil_append]
  refine ⟨by rw [hp]; omega, ?_, fun x hx => by simpa using hk x (hp ▸ hx)⟩
  have hnone : (rechecked e d r).posts = [] := hr
  have hbare : Bare (rechecked e d r).posts := by rw [hnone]; simp [Bare]
  exact bare_checkDrives hbare 4 _ _

end

section
variable {s : State} {d : DriveId} (hu : Undisturbed s) (hd : ¬ inert (s.pto.drive d))
include hu hd

/-- The event of a periodic check of a drive with a condition unmet: it keeps waiting, with that reason. -/
theorem settle_recheck_waits (hn : pendingReason (ptoEnv s) s.pto d ≠ none) :
    let t := settle s (s.withPto (recheckDrive (ptoEnv s) d s.ptoRun))
    t.pto.drive d = { s.pto.drive d with
      recheck := nextPeriod s.time.uptime recheckMs (s.pto.drive d).recheck
      reason := pendingReason (ptoEnv s) s.pto d, ready := false } := by
  dsimp only
  have hr := recheckDrive_waits (e := ptoEnv s) (r := s.ptoRun) hd hn
  have hx : (recheckDrive (ptoEnv s) d s.ptoRun).pto.drive d = { s.pto.drive d with
      recheck := nextPeriod s.time.uptime recheckMs (s.pto.drive d).recheck
      reason := pendingReason (ptoEnv s) s.pto d } := by
    rw [hr, PtoRun.put_pto, drive_setDrive, rechecked_drive]
    rfl
  have hother : (recheckDrive (ptoEnv s) d s.ptoRun).pto.drive (otherDrive d) = s.pto.drive (otherDrive d) := by
    rw [hr, PtoRun.put_pto, drive_setDrive_other', rechecked_other]
    rfl
  have hkeep {β : Type} (f : Drive → β) (hf : f ((recheckDrive (ptoEnv s) d s.ptoRun).pto.drive d) = f (s.pto.drive d))
      (k : DriveId) : f ((recheckDrive (ptoEnv s) d s.ptoRun).pto.drive k) = f (s.pto.drive k) := by
    rcases drive_eq_or_other d k with rfl | rfl
    · exact hf
    · rw [hother]
  rw [hu.settle_unchanged ⟨rfl, rfl, rfl, rfl⟩ (hkeep Drive.state (by rw [hx])) (hkeep Drive.waiver (by rw [hx])),
    refreshReady_drive, hx]
  have hne : (s.pto.drive d).state ≠ .engaged := by
    rcases not_inert.mp hd with hs | hs <;> rw [hs] <;> decide
  simp [hne]

/-- The event of a periodic check of a drive with every condition met: what the check makes of the drive stays. -/
theorem settle_recheck_goes (hn : pendingReason (ptoEnv s) s.pto d = none) :
    let r0 := rechecked (ptoEnv s) d s.ptoRun
    let t := settle s (s.withPto (recheckDrive (ptoEnv s) d s.ptoRun))
    ((s.pto.drive d).state = .windingDown → t.pto.drive d =
      (if s.feedback d then releasingDrive (ptoEnv s) (r0.pto.drive d) else disengagedDrive (ptoEnv s) d (r0.pto.drive d)) ∧
      (s.feedback d = false → noticePtoDisengaged d ∈ (recheckDrive (ptoEnv s) d s.ptoRun).posts)) ∧
    ((s.pto.drive d).state = .requested → t.pto.drive d =
      if s.feedback d then settlingDrive (ptoEnv s) (shiftingDrive (ptoEnv s) (r0.pto.drive d))
      else shiftingDrive (ptoEnv s) (r0.pto.drive d)) := by
  dsimp only
  obtain ⟨r', hcase, hx, hi, hposts⟩ := recheckDrive_goes (e := ptoEnv s) (r := s.ptoRun) hd hn
  have hu' : Undisturbed (s.withPto (recheckDrive (ptoEnv s) d s.ptoRun)) := hu
  have hfinal : (settle s (s.withPto (recheckDrive (ptoEnv s) d s.ptoRun))).pto.drive d =
      { r'.pto.drive d with ready := decide ((r'.pto.drive d).state = .engaged) && turning (ptoEnv s) d } := by
    have hx' : (s.withPto (recheckDrive (ptoEnv s) d s.ptoRun)).pto.drive d = r'.pto.drive d := hx
    rw [hu'.settle.1, ptoReact_inert s _ d (by rw [hx']; exact hi), hx']
    rfl
  rw [hfinal]
  refine ⟨fun hs => ?_, fun hs => ?_⟩
  · rcases hcase with ⟨-, rfl⟩ | ⟨hs', -, -⟩
    · refine ⟨?_, fun hf => hposts _ ?_⟩
      · rw [enterReleasing_drive, ptoEnv_fb]
        split <;> rfl
      · rw [enterReleasing_says ((ptoEnv_fb s d).trans hf)]
        exact List.mem_append_right _ (List.mem_singleton_self _)
    · exact absurd (hs.symm.trans hs') nofun
  · rcases hcase with ⟨hs', -⟩ | ⟨-, rfl, ha⟩
    · exact absurd (hs.symm.trans hs') nofun
    · rw [enterShifting_drive ha, ptoEnv_fb]
      split <;> rfl

end

/-! ### O26 and O27 -/

/-- What keeps a drive from shifting, as the statement has it. -/
theorem engageReason_eq {s : State} {d : DriveId} {r : Option Reason} (h : FirstUnmet (engageConditions s d) r) :
    engageReason (ptoEnv s) s.pto d = r := (engageReason_firstUnmet s d).unique h

/-- A periodic check of a drive in REQUESTED (R62, R63). -/
theorem requestRecheck_checks {d : DriveId} {s : State} (hs : (s.pto.drive d).state = .requested) (hu : Undisturbed s)
    (hdue : due s.time.uptime (s.pto.drive d).recheck = true) {r : Option Reason}
    (hr : FirstUnmet (engageConditions s d) r) : ∃ t, exec (.requestRecheck d) s = .next t ∧ Reacted s t ∧
      (t.pto.drive d).reason = r ∧
      (r ≠ none → (t.pto.drive d).state = .requested ∧ (t.pto.drive d).window = (s.pto.drive d).window ∧
        (t.pto.drive d).recheck = (s.pto.drive d).recheck.map (· + 10#32)) ∧
      (r = none → solenoid t d = true ∧ (t.pto.drive d).window = none ∧
        (t.pto.drive d).state = if s.feedback d then .settling else .shifting) := by
  have hd : ¬ inert (s.pto.drive d) := not_inert.mpr (.inl hs)
  have hrow : exec (.requestRecheck d) s = .next (settle s (s.withPto (recheckDrive (ptoEnv s) d s.ptoRun))) := by
    refine congrArg Host.Outcome.next (driveEvent_run (f := fun e r => recheckDrive e d r)
      (Undisturbed.working hu) ?_)
    rwa [if_pos hs]
  have hreason : pendingReason (ptoEnv s) s.pto d = r := (pendingReason_requested hs).trans (engageReason_eq hr)
  obtain ⟨hlen, -, hkind⟩ := recheckDrive_posts (e := ptoEnv s) (d := d) (r := s.ptoRun) rfl
  have hreact := Undisturbed.run_reacted (b := s) hu hlen hkind
  by_cases hn : r = none
  · obtain ⟨-, hx⟩ := settle_recheck_goes hu hd (hreason.trans hn)
    have hx := hx hs
    have hsol := solenoid_settle (b := s) (u := s.withPto (recheckDrive (ptoEnv s) d s.ptoRun))
      (Undisturbed.working hu) d
    refine ⟨_, hrow, hreact, ?_, fun hne => absurd hn hne, fun _ => ⟨?_, ?_, ?_⟩⟩
    · rw [hx, hn]; split <;> rfl
    · rw [hsol, hx]; split <;> rfl
    · rw [hx]; split <;> rfl
    · rw [hx]; split <;> rfl
  · have hx := settle_recheck_waits hu hd (hreason ▸ hn)
    refine ⟨_, hrow, hreact, ?_, fun _ => ⟨?_, ?_, ?_⟩, fun he => absurd he hn⟩
    · rw [hx]; exact hreason
    · rw [hx]; exact hs
    · rw [hx]
    · rw [hx]; exact nextPeriod_of_due recheckMs hdue

/-- The end of the request window (R62). -/
theorem requestWindow_ends {d : DriveId} {s : State} (hs : (s.pto.drive d).state = .requested) (hw : s.working = true)
    (hdue : due s.time.uptime (s.pto.drive d).window = true) : ∃ t, exec (.requestWindowExpiry d) s = .next t ∧
      Reacted (s.post [noticePtoRefused d (s.pto.drive d).reason]) t ∧
      (t.pto.drive d).state = .disengaged ∧ (t.pto.drive d).window = none ∧ (t.pto.drive d).reason = none ∧
      (t.pto.drive d).entered = s.time.uptime ∧
      (Undisturbed s → RoomLeft s.notices →
        ∀ b : Byte, [b] = (noticePtoRefused d (s.pto.drive d).reason).detail →
        WarningWaits .ptoRefused (driveIndex d) [b] t.notices) := by
  have hr : expireWindow (ptoEnv s) d s.ptoRun =
      (enterDisengaged (ptoEnv s) d s.ptoRun).say (noticePtoRefused d (s.pto.drive d).reason) := by
    have hstate : (s.ptoRun.pto.drive d).state = .requested := hs
    simp only [expireWindow, hstate]
    rfl
  have hrow : exec (.requestWindowExpiry d) s =
      .next (settle s (s.withPto (expireWindow (ptoEnv s) d s.ptoRun))) :=
    congrArg Host.Outcome.next (driveEvent_run (f := fun e r => expireWindow e d r) hw hdue)
  have hd := settle_disengaged (b := s) (e := ptoEnv s) (d := d) (r := s.ptoRun)
    (r' := expireWindow (ptoEnv s) d s.ptoRun) hw (by rw [hr]; rfl)
  have hposts : (expireWindow (ptoEnv s) d s.ptoRun).posts = [noticePtoRefused d (s.pto.drive d).reason] := by
    rw [hr]; rfl
  refine ⟨_, hrow, ?_, ?_, ?_, ?_, ?_, fun hu hroom b hb => ?_⟩
  · have hreact := reacted_settle s (s.withPto (expireWindow (ptoEnv s) d s.ptoRun))
    generalize settle s (s.withPto (expireWindow (ptoEnv s) d s.ptoRun)) = t at hreact ⊢
    rw [hr] at hreact
    exact ReactedBy.of_pto (v := s.post [_]) hreact
  · rw [hd]; rfl
  · rw [hd]; rfl
  · rw [hd]; rfl
  · rw [hd]; rfl
  · rw [hb]
    exact Undisturbed.run_refused hu (by rw [hposts]; exact Nat.le_add_left 1 7) (by rw [hposts]; simp)
      (by rw [hposts]; simp) (Nat.le_succ_of_le hroom)

/-- A periodic check of a drive in WINDING_DOWN (R67, R68). -/
theorem windDownRecheck_checks {d : DriveId} {s : State} (hs : (s.pto.drive d).state = .windingDown) (hu : Undisturbed s)
    (hdue : due s.time.uptime (s.pto.drive d).recheck = true) {r : Option Reason}
    (hr : FirstUnmet (releaseConditions s d (s.pto.drive d).waiver) r) :
    ∃ t, exec (.windDownRecheck d) s = .next t ∧ Reacted s t ∧
      (r ≠ none → (t.pto.drive d).state = .windingDown ∧ (t.pto.drive d).reason = r ∧
        (t.pto.drive d).waiver = (s.pto.drive d).waiver ∧ (t.pto.drive d).windDown = (s.pto.drive d).windDown ∧
        solenoid t d = true) ∧
      (r = none → s.feedback d = true → ReleasingFrom s (t.pto.drive d) ∧ solenoid t d = false) ∧
      (r = none → s.feedback d = false → (t.pto.drive d).state = .disengaged ∧ solenoid t d = false ∧
        (RoomLeft s.notices → NoticeWaits .ptoDisengaged (driveIndex d) [] t.notices)) := by
  have hd : ¬ inert (s.pto.drive d) := not_inert.mpr (.inr hs)
  have hrow : exec (.windDownRecheck d) s = .next (settle s (s.withPto (recheckDrive (ptoEnv s) d s.ptoRun))) := by
    refine congrArg Host.Outcome.next (driveEvent_run (f := fun e r => recheckDrive e d r)
      (Undisturbed.working hu) ?_)
    rwa [if_pos hs]
  have hreason : pendingReason (ptoEnv s) s.pto d = r :=
    (pendingReason_windingDown hs).trans (releaseReason_eq rfl rfl hr)
  obtain ⟨hlen, hbare, hkind⟩ := recheckDrive_posts (e := ptoEnv s) (d := d) (r := s.ptoRun) rfl
  have hreact := Undisturbed.run_reacted (b := s) hu hlen hkind
  have hsol := solenoid_settle (b := s) (u := s.withPto (recheckDrive (ptoEnv s) d s.ptoRun))
    (Undisturbed.working hu) d
  by_cases hn : r = none
  · obtain ⟨hx, -⟩ := settle_recheck_goes hu hd (hreason.trans hn)
    obtain ⟨hx, hsaid⟩ := hx hs
    refine ⟨_, hrow, hreact, fun hne => absurd hn hne, fun _ hf => ?_, fun _ hf => ?_⟩
    · rw [if_pos hf] at hx
      rw [hsol, hx]
      exact ⟨releasingFrom_releasingDrive s _, rfl⟩
    · rw [if_neg (by simp [hf])] at hx
      rw [hsol, hx]
      exact ⟨rfl, rfl, fun hroom => Undisturbed.run_disengaged hu hlen hbare (.inl (hsaid hf))
        (Nat.le_succ_of_le hroom)⟩
  · have hx := settle_recheck_waits hu hd (hreason ▸ hn)
    refine ⟨_, hrow, hreact, fun _ => ?_, fun he => absurd he hn, fun he => absurd he hn⟩
    rw [hsol, hx]
    exact ⟨hs, hreason, rfl, rfl, by rw [solenoidOn_iff, hs]; decide⟩

/-- The end of the wind-down notice time (R67). -/
theorem windDownNotice_tells {d : DriveId} {s : State} (hs : (s.pto.drive d).state = .windingDown) (hu : Undisturbed s)
    (hdue : due s.time.uptime (s.pto.drive d).windDown = true) : ∃ t, exec (.windDownNoticeExpiry d) s = .next t ∧
      Reacted (s.post [noticePtoRefused d (some .windDown)]) t ∧ (t.pto.drive d).state = .windingDown ∧
      (t.pto.drive d).windDown = none ∧ (t.pto.drive d).reason = (s.pto.drive d).reason ∧
      (t.pto.drive d).waiver = (s.pto.drive d).waiver ∧ (t.pto.drive d).recheck = (s.pto.drive d).recheck ∧
      solenoid t d = true ∧
      (RoomLeft s.notices →
        WarningWaits .ptoRefused (driveIndex d) [BitVec.ofNat 8 (reasonCode .windDown)] t.notices) := by
  have hr : expireWindDown d s.ptoRun = (s.ptoRun.put d { s.pto.drive d with windDown := none }).say
      (noticePtoRefused d (some .windDown)) := by
    unfold expireWindDown
    dsimp only
    split
    · rfl
    · next hne => exact absurd hs hne
  have hrow : exec (.windDownNoticeExpiry d) s = .next (settle s (s.withPto (expireWindDown d s.ptoRun))) :=
    congrArg Host.Outcome.next (driveEvent_run (f := fun _ r => expireWindDown d r) (Undisturbed.working hu) hdue)
  have hposts : (expireWindDown d s.ptoRun).posts = [noticePtoRefused d (some .windDown)] := by rw [hr]; rfl
  have hkeep {β : Type} (f : Drive → β) (hf : f { s.pto.drive d with windDown := none } = f (s.pto.drive d))
      (k : DriveId) : f ((expireWindDown d s.ptoRun).pto.drive k) = f (s.pto.drive k) := by
    rw [hr, PtoRun.say_pto, PtoRun.put_pto]
    rcases drive_eq_or_other d k with rfl | rfl
    · rw [drive_setDrive]; exact hf
    · rw [drive_setDrive_other']; rfl
  have hx : (settle s (s.withPto (expireWindDown d s.ptoRun))).pto.drive d =
      { s.pto.drive d with windDown := none, ready := false } := by
    rw [Undisturbed.settle_unchanged hu ⟨rfl, rfl, rfl, rfl⟩ (hkeep Drive.state rfl) (hkeep Drive.waiver rfl),
      refreshReady_drive, hr, PtoRun.say_pto, PtoRun.put_pto, drive_setDrive]
    simp [hs]
  have hreact : Reacted (s.post [noticePtoRefused d (some .windDown)])
      (settle s (s.withPto (expireWindDown d s.ptoRun))) := by
    have h := reacted_settle s (s.withPto (expireWindDown d s.ptoRun))
    generalize settle s (s.withPto (expireWindDown d s.ptoRun)) = t at h ⊢
    rw [hr] at h
    exact ReactedBy.of_pto (v := s.post [_]) h
  refine ⟨_, hrow, hreact, ?_, ?_, ?_, ?_, ?_, ?_, fun hroom => ?_⟩
  · rw [hx]; exact hs
  · rw [hx]
  · rw [hx]
  · rw [hx]
  · rw [hx]
  · rw [solenoid_settle (u := s.withPto (expireWindDown d s.ptoRun)) (Undisturbed.working hu), hx, solenoidOn_iff]
    simp [hs]
  · exact Undisturbed.run_refused (reason := some .windDown) hu (by rw [hposts]; exact Nat.le_add_left 1 7)
      (by rw [hposts]; simp) (by rw [hposts]; simp) (Nat.le_succ_of_le hroom)

/-- Settles O26: whatever the command by the drives' turn within an event, the rest by the commands. -/
theorem requestedDriveShiftsOrGivesUp : Obligations.RequestedDriveShiftsOrGivesUp := by
  refine ⟨fun c s t d h => ?_, ?_⟩
  · rcases h.drivesTurn with rfl | ⟨u, m, hu, hm, rfl⟩
    · refine ⟨fun hd hc => ?_, fun hs ht => absurd ht hs⟩
      unfold EngageSourceChanged BrakeSwitchChanged at hc
      simp [hd] at hc
    · refine ⟨fun hd hc => ?_, fun hs ht => ⟨eligible_conditions (hm.starts hu hs ht), ?_, fun hd => ?_⟩⟩
      · obtain ⟨hr, hn⟩ := hm.reason (not_inert.mpr (.inl hd)) (hm.requested hd hc)
        rw [WaitsFor, hr]
        refine ⟨?_, hn⟩
        rw [pendingReason_requested hd]
        exact engageReason_firstUnmet _ d
      · rw [solenoid_settle ((reacted_settle s u).working.symm.trans h.2.1), solenoidOn_iff]
        revert ht
        cases ((settle s u).pto.drive d).state <;> decide
      · refine hm.shifts hu (fun he => hs ?_) hd
        rw [he]
        exact List.mem_cons_self
  · rintro d s x rfl hs
    refine ⟨fun hu hdue r hr => ?_, fun hw hdue => ?_⟩
    · exact requestRecheck_checks hs hu hdue hr
    · obtain ⟨t, hrow, hreact, hst, hwin, hreason, hent, hwait⟩ := requestWindow_ends hs hw hdue
      refine ⟨t, hrow, hreact, hst, hwin, hreason, hent, fun hu hroom b hb => hwait hu hroom b ?_⟩
      rw [hb]
      cases (s.pto.drive d).reason <;> rfl

/-- Settles O27: whatever the command by the drives' turn within an event, the rest by the commands. -/
theorem windingDownDriveIsReleased : Obligations.WindingDownDriveIsReleased := by
  refine ⟨fun c s t d h => ?_, ?_⟩
  · rcases h.drivesTurn with rfl | ⟨u, m, hu, hm, rfl⟩
    · refine ⟨fun hd hc => ?_, fun hs _ _ _ ht _ => ?_⟩
      · unfold ReleaseSourceChanged at hc
        simp [hd] at hc
      · rw [hs] at ht
        exact absurd ht (by decide)
    · refine ⟨fun hd hc => ?_, fun hs hx ha ha' ht hd => ?_⟩
      · obtain ⟨hr, hn⟩ := hm.reason (not_inert.mpr (.inr hd)) (hm.windingDown hd hc)
        rw [WaitsFor, hr]
        refine ⟨?_, hn⟩
        rw [pendingReason_windingDown hd]
        exact releaseReason_firstUnmet _ d
      · obtain ⟨hslow, hgear⟩ := hm.slow hu h.1 hs hx ha ha' hd ht
        refine ⟨(engineSlow_iff _).mp hslow, hgear, ?_⟩
        rw [solenoid_settle ((reacted_settle s u).working.symm.trans h.2.1)]
        revert ht
        cases ((settle s u).pto.drive d).state <;> decide
  · rintro d s x rfl hs hu
    exact ⟨fun hdue r hr => windDownRecheck_checks hs hu hdue hr, windDownNotice_tells hs hu⟩

end Sys2Proof.Machine
end

section
/-! SUPPORT. The lockout unit's two turns within an event, and the overspeed monitor through them (R148, R161, R162). -/

namespace Sys2Proof.Machine

/-! ### The two turns -/

/-- The lockout unit's turns within an event: `u` is what the event's own effect leaves, `p` and `q` what the unit finds at its first
and at its second turn, `t` the end. -/
structure LockTurns (u p q t : State) : Prop where
  found : Sees u p
  lock : p.lock = u.lock
  pto : p.pto = u.pto
  power : p.power = u.power
  gauge : u.gauge.fill.active = false → p.gauge.fill.active = false
  again : q.lock = (lockoutReact p).1
  ends : Sees q t
  drives : t.pto = q.pto
  inputs : t.inputs = q.inputs
  port : t.chassis.port = q.chassis.port ∧ q.chassis.port = u.chassis.port ∧ p.chassis.port = u.chassis.port
  fill : t.gauge = q.gauge
  state : t.power = q.power
  result : t.lock = (lockoutReact q).1

/-- What the reactions leave of the port's state. -/
theorem ReactedBy.portState {n : Nat} {u t : State} (h : ReactedBy n u t) : t.chassis.port = u.chassis.port := by
  rw [h.port]

/-- The power controller, the sequencer and the governor leave the lockout record. -/
theorem governed_lock (b mid : State) : (governed b mid).lock = mid.lock := by
  have hpower (s : State) : (powerReact s).lock = s.lock := by
    rcases powerReact_cases s with e | ⟨-, e⟩ | ⟨-, e⟩ | ⟨-, c, e⟩ <;> rw [e] <;> rfl
  simp only [governed, settleGovernor_lock, hpower, settlePto_lock]

/-- What those three do is a reaction. -/
theorem reacted_governed (b mid : State) : ReactedBy 13 mid (governed b mid) :=
  (reacted_powerReact mid).trans <| (reacted_settlePto b _).trans <| (reacted_powerReact _).trans <|
  reacted_settleGovernor (powerReact (settlePto b (powerReact mid)))

/-- Where the lockout unit's turns stand in what follows an event of a working part. -/
theorem settle_lockTurns (b : State) {u : State} (hw : u.working = true) : ∃ p q, LockTurns u p q (settle b u) := by
  let p := settleFill b (settleBrake b u)
  let mid := settleReaders b p
  have hp : ReactedBy 1 u p := (reacted_settleBrake b u).trans (reacted_settleFill b _)
  have hl := governed_lock b mid
  have hr := (hp.trans (reacted_settleReaders b p)).trans (reacted_governed b mid)
  have ht : settleWorking b u = settleMonitors mid (refreshOutputs (settleChassis mid
      (settleLockout (settleProtection b (governed b mid))))) := rfl
  rw [settle_working b hw, ht]
  generalize governed b mid = late at hl hr ⊢
  let q := settleProtection b late
  have hq := hr.trans (reacted_settleProtection b late)
  have hend := (reacted_settleLockout q).trans <| (reacted_settleChassis mid _).trans <|
    (reacted_refreshOutputs _).trans (reacted_settleMonitors mid _)
  exact ⟨p, q,
    { found := hp.sees, lock := rfl, pto := rfl, power := rfl
      gauge := fun h => by rw [hp.noFill h]; exact h
      again := hl
      ends := hend.sees, drives := rfl, inputs := rfl
      port := ⟨hend.portState, hq.portState, hp.portState⟩
      fill := rfl, state := rfl, result := rfl }⟩

/-! ### The overspeed monitor -/

section
variable {s : State}

/-- The monitor with AUX DISENGAGED (R161). -/
theorem followOverspeed_off (h : s.pto.aux.state = .disengaged) : followOverspeed s = (.off, none) := if_pos h

/-- The monitor with the vehicle not over the threshold (R161). -/
theorem followOverspeed_slow (h : s.pto.aux.state ≠ .disengaged) (ho : overThreshold s = false) :
    followOverspeed s = (.watching, none) := by
  unfold followOverspeed
  rw [if_neg h, if_neg (by simp [ho])]

/-- The monitor with the vehicle over the threshold (R161, R162). -/
theorem followOverspeed_over (h : s.pto.aux.state ≠ .disengaged) (ho : overThreshold s = true) : followOverspeed s =
    match s.lock.overspeed with
    | .off | .watching => (.timing, startTimer s.time.uptime (s.settings.lock.overspeedTime * 1000))
    | .timing => (.timing, s.lock.overspeedTimer)
    | .tripped => (.tripped, none) := (if_neg h).trans (if_pos ho)

/-- The vehicle is over the threshold as R161 says. -/
theorem overThreshold_iff (s : State) :
    overThreshold s = true ↔ ∃ v, s.quantity 0 = some v ∧ s.settings.lock.rollSpeedLimit + 200 < v := by
  unfold overThreshold overspeedThreshold
  cases s.quantity 0 <;> simp

end

/-- Whether the vehicle is over the threshold, on two states that the sequencer cannot tell apart. -/
theorem Sees.overThreshold {u t : State} (h : Sees u t) : overThreshold t = overThreshold u := by
  unfold Machine.overThreshold
  rw [h.quantity, h.settings]

/-- The monitor after what follows an event in a working part, by AUX at its end and the monitor that the event's own effect
leaves. -/
theorem settle_overspeed (b : State) {u : State} (hw : u.working = true) :
    ((settle b u).pto.aux.state = .disengaged →
      (settle b u).lock.overspeed = .off ∧ (settle b u).lock.overspeedTimer = none) ∧
    ((settle b u).pto.aux.state ≠ .disengaged →
      (overThreshold u = false → (settle b u).lock.overspeed = .watching ∧ (settle b u).lock.overspeedTimer = none) ∧
      (overThreshold u = true →
        (u.lock.overspeed = .off ∨ u.lock.overspeed = .watching → (settle b u).lock.overspeed = .timing ∧
          (settle b u).lock.overspeedTimer = startTimer u.time.uptime (u.settings.lock.overspeedTime * 1000)) ∧
        (u.lock.overspeed = .timing → (settle b u).lock.overspeed = .timing ∧
          (settle b u).lock.overspeedTimer = u.lock.overspeedTimer) ∧
        (u.lock.overspeed = .tripped → (settle b u).lock.overspeed = .tripped ∧
          (settle b u).lock.overspeedTimer = none))) := by
  have hrest : u.pto.aux.state = .disengaged → (settle b u).pto.aux.state = .disengaged := fun h => by
    have hd := settle_drive_rest b u hw .aux (.inl h)
    exact (congrArg Drive.state hd).trans h
  obtain ⟨p, q, h⟩ := settle_lockTurns b hw
  have hsees := (reacted_settle b u).sees
  generalize settle b u = t at h hrest hsees ⊢
  have hend : t.lock.overspeed = (followOverspeed q).1 ∧ t.lock.overspeedTimer = (followOverspeed q).2 := by
    rw [h.result]; exact ⟨rfl, rfl⟩
  have hmid : q.lock.overspeed = (followOverspeed p).1 ∧ q.lock.overspeedTimer = (followOverspeed p).2 := by
    rw [h.again]; exact ⟨rfl, rfl⟩
  rw [hend.1, hend.2]
  have hqs : Sees u q := hsees.trans h.ends.symm
  have hqo := hqs.overThreshold
  have hpo := h.found.overThreshold
  refine ⟨fun hd => ?_, fun hd => ?_⟩
  · rw [followOverspeed_off (h.drives ▸ hd)]
    exact ⟨rfl, rfl⟩
  · have hq : q.pto.aux.state ≠ .disengaged := h.drives ▸ hd
    have hp : p.pto.aux.state ≠ .disengaged := fun he => hd (hrest (h.pto ▸ he))
    refine ⟨fun ho => ?_, fun ho => ?_⟩
    · rw [followOverspeed_slow hq (hqo.trans ho)]
      exact ⟨rfl, rfl⟩
    · rw [followOverspeed_over hq (hqo.trans ho), hmid.1, hmid.2, followOverspeed_over hp (hpo.trans ho), h.lock,
        h.found.uptime, h.found.settings]
      refine ⟨fun hs => ?_, fun hs => ?_, fun hs => ?_⟩
      · rcases hs with hs | hs <;> rw [hs] <;> exact ⟨rfl, rfl⟩
      · rw [hs]; exact ⟨rfl, rfl⟩
      · rw [hs]; exact ⟨rfl, rfl⟩

/-- The row of OVERSPEED_EXPIRY: it trips a monitor that times, and has no effect otherwise (R162). -/
theorem overspeedExpiry_row {s : State} (hw : s.working = true) : exec .overspeedExpiry s = .next (settle s
    (if s.lock.overspeed = .timing ∧ due s.time.uptime s.lock.overspeedTimer = true then tripOverspeed s else s)) := by
  refine congrArg Host.Outcome.next ?_
  unfold workingEvent event
  rw [if_pos (working_powered s hw)]
  dsimp only
  rw [if_pos hw]

/-- A command that a working part survives does nothing, or is an event whose own effect leaves the overspeed monitor, but for the
expiry of a monitor that times. -/
theorem Continues.monitorKept {c : Instr} {s t : State} (h : Continues c s t) :
    t = s ∨ ∃ u, t = settle s u ∧ u.working = true ∧ ((c = .overspeedExpiry ∧ s.lock.overspeed = .timing) ∨
      (u.lock.overspeed = s.lock.overspeed ∧ u.lock.overspeedTimer = s.lock.overspeedTimer)) := by
  by_cases hc : c = .overspeedExpiry
  · subst hc
    obtain ⟨hs, -, hexec, -, -⟩ := h
    rw [overspeedExpiry_row hs] at hexec
    cases hexec
    refine .inr ⟨_, rfl, ?_, ?_⟩
    · split
      · unfold tripOverspeed
        dsimp only
        split <;> exact hs
      · exact hs
    · by_cases ht : s.lock.overspeed = .timing
      · exact .inl ⟨rfl, ht⟩
      · rw [if_neg (fun hg => ht hg.1)]
        exact .inr ⟨rfl, rfl⟩
  · rcases h.drivesTurn with rfl | ⟨u, m, hu, -, rfl⟩
    · exact .inl rfl
    · exact .inr ⟨u, rfl, (reacted_settle s u).working.symm.trans h.2.1, .inr (hu.overspeed hc)⟩

/-! ### The auto-drop (R69) -/

section
variable {e : PtoEnv} {d : DriveId} {reason : Reason} {r : PtoRun}

/-- A drive in WINDING_DOWN that a drop finds there has its release waived (R69). -/
theorem dropDrive_windingDown (hs : (r.pto.drive d).state = .windingDown) :
    dropDrive e d reason r = waiveRelease e d r := by
  unfold dropDrive
  dsimp only
  rw [hs]

/-- A drive that a drop takes while the other has not the shift, and one in SHIFTING, is released (R69). -/
theorem dropDrive_releases (h : (r.pto.drive d).state = .shifting ∨
    ((r.pto.drive d).state ∈ [DriveState.engaged, .settling, .windingDown] ∧
      holdsShift (r.pto.drive (otherDrive d)) = false)) :
    ∃ r', dropDrive e d reason r = enterReleasing e d r' ∧ r'.posts = r.posts := by
  rcases h with hs | ⟨hs, ho⟩
  · exact ⟨r, by simp [dropDrive, hs], rfl⟩
  · simp only [List.mem_cons, List.not_mem_nil, or_false] at hs
    rcases hs with hs | hs | hs
    · exact ⟨r, by simp [dropDrive, hs, releaseDrive, ho], rfl⟩
    · exact ⟨r, by simp [dropDrive, hs, releaseDrive, ho], rfl⟩
    · refine ⟨r.put d { r.pto.drive d with waiver := true }, ?_, rfl⟩
      have hw : mayRelease e (r.put d { r.pto.drive d with waiver := true }).pto d = true := by
        simp [mayRelease, releaseReason, hs, ho]
      rw [dropDrive_windingDown hs]
      exact if_pos hw

/-- A closed drive that a drop takes while the other has the shift winds down with the waiver (R58, R69). -/
theorem dropDrive_waits (h : (r.pto.drive d).state = .engaged ∨ (r.pto.drive d).state = .settling)
    (ho : holdsShift (r.pto.drive (otherDrive d)) = true) :
    dropDrive e d reason r = enterWindingDown e d true r := by
  rcases h with hs | hs <;> simp [dropDrive, hs, releaseDrive, ho]

/-- A drive in WINDING_DOWN that a drop finds there while the other has the shift stays, its waiver set (R58, R69). -/
theorem dropDrive_waives (hs : (r.pto.drive d).state = .windingDown)
    (ho : holdsShift (r.pto.drive (otherDrive d)) = true) : dropDrive e d reason r =
    (r.put d { r.pto.drive d with waiver := true }).put d
      { r.pto.drive d with waiver := true, reason := some .otherShift } := by
  let w := r.put d { r.pto.drive d with waiver := true }
  have hx : w.pto.drive d = { r.pto.drive d with waiver := true } := drive_setDrive _ _ _
  have hreason : releaseReason e w.pto d = some .otherShift := by
    have hother : w.pto.drive (otherDrive d) = r.pto.drive (otherDrive d) := drive_setDrive_other' _ _ _
    simp [releaseReason, hx, hother, ho]
  have hmay : mayRelease e w.pto d = false := by simp [mayRelease, hreason]
  have hdrop : dropDrive e d reason r = setReason e d w := by
    rw [dropDrive_windingDown hs]
    exact if_neg (fun h => by rw [hmay] at h; cases h)
  have hwait : ¬ inert (w.pto.drive d) := not_inert.mpr (.inr (by rw [hx]; exact hs))
  rw [hdrop, setReason_waiting hwait, pendingReason_windingDown (by rw [hx]; exact hs), hreason, hx]

/-- A drive in RELEASING or in FAULT that a drop finds there stays as it is (R69). -/
theorem dropDrive_leaves (hs : (r.pto.drive d).state ∈ [DriveState.releasing, .fault]) : dropDrive e d reason r = r := by
  simp only [List.mem_cons, List.not_mem_nil, or_false] at hs
  rcases hs with hs | hs <;> simp [dropDrive, hs]

/-- A drive in REQUESTED that a drop takes returns to DISENGAGED with PTO_REFUSED (R69). -/
theorem dropDrive_refuses (hs : (r.pto.drive d).state = .requested) :
    dropDrive e d reason r = (enterDisengaged e d r).say (noticePtoRefused d (some reason)) := by
  simp [dropDrive, hs]

end

/-! ### The expiry in a part that times (R162) -/

/-- What the expiry can meet: the auto-drop off, or by the state of AUX (R69). -/
theorem trip_cases {s : State} (hx : s.pto.aux.state ≠ .disengaged) :
    s.settings.lock.autoDrop = false ∨
    (s.settings.lock.autoDrop = true ∧ s.pto.aux.state ∈ [DriveState.releasing, .fault]) ∨
    (s.settings.lock.autoDrop = true ∧ s.pto.aux.state = .requested) ∨
    (s.settings.lock.autoDrop = true ∧ (s.pto.aux.state = .shifting ∨
      (s.pto.aux.state ∈ [DriveState.engaged, .settling, .windingDown] ∧ ¬ OtherShifts s .aux))) ∨
    (s.settings.lock.autoDrop = true ∧ s.pto.aux.state ∈ [DriveState.engaged, .settling, .windingDown] ∧
      OtherShifts s .aux) := by
  by_cases ho : OtherShifts s .aux <;> cases s.settings.lock.autoDrop <;> cases hs : s.pto.aux.state <;> simp_all

/-- The part with the monitor TRIPPED and the alarm posted. -/
def tripped (s : State) : State := putLockout (expireOverspeed s) s

/-- What the expiry makes of the drives. -/
def tripRun (s : State) : PtoRun :=
  if s.settings.lock.autoDrop then autoDrop (ptoEnv (tripped s)) (tripped s).ptoRun else (tripped s).ptoRun

theorem tripOverspeed_eq (s : State) : tripOverspeed s = (tripped s).withPto (tripRun s) := by
  unfold tripOverspeed tripRun
  split <;> rfl

/-- The ROLL_OVERSPEED of the expiry. -/
def tripNotice (s : State) : Notice :=
  noticeRollOverspeed s.speedValue (overspeedThreshold s.settings.lock) s.settings.lock.autoDrop

/-- The part has room after the alarm. -/
theorem tripped_room {s : State} (h : RoomLeft s.notices) : (tripped s).notices.entries.length ≤ 9 := by
  have hl := postNotice_length s.time.uptime s.notices (tripNotice s)
  have h8 : s.notices.entries.length ≤ 8 := h
  show (postNotice s.time.uptime s.notices (tripNotice s)).entries.length ≤ 9
  omega

section
variable {s : State} (hi : IgnitionOn s)
include hi

theorem tripped_undisturbed : Undisturbed (tripped s) := .inl hi

/-- The expiry with what the reactions do is a reaction to its notices, but for PTO_DISENGAGED, which counts with the reactions. -/
theorem trip_reacted {r : PtoRun} {ns ms : List Notice} (hr : r.posts = ns ++ ms) (hl : ms.length ≤ 8)
    (hk : ∀ x ∈ ms, x.kind = .ptoDisengaged) :
    Reacted (s.post (tripNotice s :: ns)) (settle s ((tripped s).withPto r)) := by
  refine Undisturbed.absorb (u := (tripped s).withPto r) (ns := ms) (tripped_undisturbed hi) rfl rfl ?_ hl hk
  show postAll s.time.uptime (postAll s.time.uptime s.notices [tripNotice s]) r.posts = _
  rw [hr]
  simp [postAll, State.post]

/-- The monitor after the expiry of one that times, with the vehicle still over the threshold. -/
theorem trip_monitor {r : PtoRun} (ho : overThreshold s = true) :
    ((settle s ((tripped s).withPto r)).pto.aux.state = .disengaged →
      (settle s ((tripped s).withPto r)).lock.overspeed = .off) ∧
    ((settle s ((tripped s).withPto r)).pto.aux.state ≠ .disengaged →
      (settle s ((tripped s).withPto r)).lock.overspeed = .tripped ∧
      (settle s ((tripped s).withPto r)).lock.overspeedTimer = none) := by
  have hw : ((tripped s).withPto r).working = true := (tripped_undisturbed hi).working
  obtain ⟨hoff, hon⟩ := settle_overspeed s hw
  refine ⟨fun hd => (hoff hd).1, fun hd => ?_⟩
  obtain ⟨-, hover⟩ := hon hd
  obtain ⟨-, -, htripped⟩ := hover ho
  exact htripped rfl

/-- An AUX that the expiry leaves alone keeps its state. -/
theorem trip_stays (hr : tripRun s = (tripped s).ptoRun) :
    (settle s (tripOverspeed s)).pto.aux.state = s.pto.aux.state := by
  have hpto := (tripped_undisturbed hi).settle_unchanged (b := s) (r := (tripped s).ptoRun) ⟨rfl, rfl, rfl, rfl⟩
    (fun _ => rfl) (fun _ => rfl)
  rw [tripOverspeed_eq, hr, hpto]
  rfl

/-- A REQUESTED AUX that the expiry drops (R69). -/
theorem trip_refuses (ha : s.settings.lock.autoDrop = true) (hs : s.pto.aux.state = .requested) :
    Reacted (s.post [tripNotice s, noticePtoRefused .aux (some .auxSpeed)]) (settle s (tripOverspeed s)) ∧
    (settle s (tripOverspeed s)).pto.aux.state = .disengaged ∧ (settle s (tripOverspeed s)).pto.aux.window = none ∧
    (RoomLeft s.notices → WarningWaits .ptoRefused 1 [BitVec.ofNat 8 (reasonCode .auxSpeed)]
      (settle s (tripOverspeed s)).notices) := by
  have hr : tripRun s = (enterDisengaged (ptoEnv (tripped s)) .aux (tripped s).ptoRun).say
      (noticePtoRefused .aux (some .auxSpeed)) := (if_pos ha).trans (dropDrive_refuses hs)
  have hposts : (tripRun s).posts = [noticePtoRefused .aux (some .auxSpeed)] := by rw [hr]; rfl
  have hd : (settle s ((tripped s).withPto (tripRun s))).pto.drive .aux = _ :=
    settle_disengaged (e := ptoEnv (tripped s)) (d := .aux) (r := (tripped s).ptoRun)
      (tripped_undisturbed hi).working (by rw [hr]; rfl)
  rw [tripOverspeed_eq]
  refine ⟨trip_reacted hi (ms := []) hposts (Nat.zero_le 8) (by simp), ?_, ?_, fun hroom => ?_⟩
  · exact (congrArg Drive.state hd).trans rfl
  · exact (congrArg Drive.window hd).trans rfl
  · exact (tripped_undisturbed hi).run_refused (d := .aux) (reason := some .auxSpeed)
      (by rw [hposts]; exact Nat.le_add_left 1 7) (by rw [hposts]; simp) (by rw [hposts]; simp) (tripped_room hroom)

/-- An AUX that the expiry releases (R69, R68). -/
theorem trip_releases (ha : s.settings.lock.autoDrop = true) (hs : s.pto.aux.state = .shifting ∨
    (s.pto.aux.state ∈ [DriveState.engaged, .settling, .windingDown] ∧ ¬ OtherShifts s .aux)) :
    Reacted (s.post [tripNotice s]) (settle s (tripOverspeed s)) ∧ (settle s (tripOverspeed s)).outputs.o1 = false ∧
    (s.feedback .aux = true → ReleasingFrom s (settle s (tripOverspeed s)).pto.aux) ∧
    (s.feedback .aux = false → (settle s (tripOverspeed s)).pto.aux.state = .disengaged ∧
      (RoomLeft s.notices → NoticeWaits .ptoDisengaged (driveIndex .aux) [] (settle s (tripOverspeed s)).notices)) := by
  rw [← holdsShift_iff, Bool.not_eq_true] at hs
  obtain ⟨r', hdrop, hposts⟩ := dropDrive_releases (e := ptoEnv (tripped s)) (d := .aux) (reason := .auxSpeed)
    (r := (tripped s).ptoRun) hs
  have hr : tripRun s = enterReleasing (ptoEnv (tripped s)) .aux r' := (if_pos ha).trans hdrop
  obtain ⟨-, hd, hn, hsol⟩ := (tripped_undisturbed hi).settle_release (b := s) (e := ptoEnv (tripped s)) (d := .aux)
    (r := r') hposts
  have hkind : (tripRun s).posts.length ≤ 8 ∧ ∀ x ∈ (tripRun s).posts, x.kind = .ptoDisengaged := by
    have hnone : r'.posts = [] := hposts
    rw [hr, enterReleasing_eq]
    split
    · simp [PtoRun.put, hnone]
    · simp [PtoRun.say, PtoRun.put, hnone, noticePtoDisengaged]
  have hreact := trip_reacted hi (r := tripRun s) (ns := []) rfl hkind.1 hkind.2
  rw [tripOverspeed_eq]
  rw [hr] at hreact ⊢
  refine ⟨hreact, hsol, fun hf => ?_, fun hf => ⟨?_, fun hroom => hn hf (tripped_room hroom)⟩⟩
  · refine Eq.subst (motive := ReleasingFrom s) (hd.trans (if_pos hf)).symm ?_
    exact releasingFrom_releasingDrive s _
  · have hd := hd.trans (if_neg (Bool.eq_false_iff.mp hf))
    exact (congrArg Drive.state hd).trans rfl

/-- A closed AUX that the expiry drops while MAIN has the shift (R58, R69). -/
theorem trip_waits (ha : s.settings.lock.autoDrop = true)
    (hs : s.pto.aux.state ∈ [DriveState.engaged, .settling, .windingDown]) (ho : OtherShifts s .aux) :
    Reacted (s.post [tripNotice s]) (settle s (tripOverspeed s)) ∧
    (settle s (tripOverspeed s)).pto.aux.state = .windingDown ∧ (settle s (tripOverspeed s)).pto.aux.waiver = true ∧
    (settle s (tripOverspeed s)).pto.aux.reason = some .otherShift ∧ (settle s (tripOverspeed s)).outputs.o1 = true ∧
    (s.pto.aux.state ≠ .windingDown →
      (settle s (tripOverspeed s)).pto.aux.windDown = some (s.time.uptime + 5000#32)) ∧
    (s.pto.aux.state = .windingDown → (settle s (tripOverspeed s)).pto.aux.windDown = s.pto.aux.windDown) := by
  rw [← holdsShift_iff] at ho
  have hv := tripped_undisturbed hi
  by_cases hw : s.pto.aux.state = .windingDown
  · have hr : tripRun s = _ := (if_pos ha).trans (dropDrive_waives (e := ptoEnv (tripped s)) (d := .aux)
      (r := (tripped s).ptoRun) (reason := .auxSpeed) hw ho)
    have hx : (tripRun s).pto.drive .aux = { s.pto.aux with waiver := true, reason := some .otherShift } := by rw [hr]; rfl
    have hm : (tripRun s).pto.drive .main = s.pto.main := by rw [hr]; rfl
    have hposts : (tripRun s).posts = [] := by rw [hr]; rfl
    have hd : (settle s ((tripped s).withPto (tripRun s))).pto.drive .aux =
        { s.pto.aux with waiver := true, reason := some .otherShift, ready := false } := by
      by_cases hwaived : s.pto.aux.waiver = true
      · have hkeep {β : Type} (f : Drive → β) (hf : f ((tripRun s).pto.drive .aux) = f s.pto.aux) (k : DriveId) :
            f ((tripRun s).pto.drive k) = f (s.pto.drive k) := by
          cases k
          · rw [hm]; rfl
          · exact hf
        rw [hv.settle_unchanged (b := s) ⟨rfl, rfl, rfl, rfl⟩ (hkeep Drive.state (by rw [hx]))
          (hkeep Drive.waiver (by rw [hx]; exact hwaived.symm)), refreshReady_drive, hx]
        simp [hw]
      · have hc : sourcesChanged s ((tripped s).withPto (tripRun s)) .aux = true := by
          have hst : ((tripped s).withPto (tripRun s)).pto.drive .aux = _ := hx
          have hne : (s.pto.drive .aux).waiver = false := Bool.eq_false_iff.mpr hwaived
          simp [sourcesChanged, hx, hw, hne]
        have ho' : holdsShift ((tripRun s).pto.drive (otherDrive .aux)) = true := (congrArg holdsShift hm).trans ho
        rw [hv.settle_waived (b := s) (by rw [hx]; exact hw) (by rw [hx]) ho' hc, hx]
    have hsol := solenoid_settle (b := s) (u := (tripped s).withPto (tripRun s)) hv.working .aux
    have hreact := trip_reacted hi (r := tripRun s) (ns := []) (ms := []) hposts (Nat.zero_le 8) (by simp)
    rw [tripOverspeed_eq]
    refine ⟨hreact, ?_, ?_, ?_, ?_, fun hne => absurd hw hne, fun _ => ?_⟩
    · exact (congrArg Drive.state hd).trans hw
    · exact (congrArg Drive.waiver hd).trans rfl
    · exact (congrArg Drive.reason hd).trans rfl
    · rw [hd] at hsol
      refine Eq.trans hsol ?_
      rw [solenoidOn_iff]
      simp [hw]
    · exact (congrArg Drive.windDown hd).trans rfl
  · have hs' : s.pto.aux.state = .engaged ∨ s.pto.aux.state = .settling := by
      simp only [List.mem_cons, List.not_mem_nil, or_false] at hs
      tauto
    have hr : tripRun s = enterWindingDown (ptoEnv (tripped s)) .aux true (tripped s).ptoRun :=
      (if_pos ha).trans (dropDrive_waits hs' ho)
    obtain ⟨-, hd, hsol⟩ := hv.settle_windDown (b := s) (e := ptoEnv (tripped s)) (d := .aux) (r := (tripped s).ptoRun) rfl
      hw ho
    have hreact := trip_reacted hi (r := tripRun s) (ns := []) (ms := []) (by rw [hr]; rfl) (Nat.zero_le 8) (by simp)
    rw [tripOverspeed_eq]
    rw [hr] at hreact ⊢
    refine ⟨hreact, ?_, ?_, ?_, hsol, fun _ => ?_, fun he => absurd he hw⟩
    · exact (congrArg Drive.state hd).trans rfl
    · exact (congrArg Drive.waiver hd).trans rfl
    · exact (congrArg Drive.reason hd).trans rfl
    · exact (congrArg Drive.windDown hd).trans rfl

end

/-! ### O49 -/

/-- An ALARM that waits goes on waiting through the reactions. -/
theorem ReactedBy.alarmWaits {n : Nat} {u t : State} (h : ReactedBy n u t) {k : NoticeKind} {j : Nat}
    (ha : AlarmWaits k j u.notices) : AlarmWaits k j t.notices := by
  obtain ⟨e, he, hs, hc, hk, hj⟩ := ha
  obtain ⟨e', he', hs', hc', hk', hj'⟩ := h.alarms e he hs hc
  exact ⟨e', he', hs', hc', hk'.trans hk, hj'.trans hj⟩

/-- Settles O49: the monitor by the lockout unit's two turns, the drop by the state of AUX. -/
theorem overspeedTripsAndDropsAux : Obligations.OverspeedTripsAndDropsAux := by
  constructor
  · rintro c s t old timer fast h hne rfl rfl hfast
    rcases h.monitorKept with rfl | ⟨u, rfl, hw, hkept⟩
    · exact absurd rfl hne
    obtain ⟨hoff, hon⟩ := settle_overspeed s hw
    have hsees := (reacted_settle s u).sees
    have hover : overThreshold u = fast := by
      rw [← hsees.overThreshold, Bool.eq_iff_iff, overThreshold_iff, hfast]
    refine ⟨hoff, fun hd => ?_⟩
    obtain ⟨hslow, hfastOn⟩ := hon hd
    rw [hover] at hslow hfastOn
    refine ⟨hslow, fun hf hold => ?_, fun hf hold hc => ?_, fun hf hold => ?_⟩ <;>
      obtain ⟨hstart, hgoes, hstays⟩ := hfastOn hf
    · rcases hkept with ⟨-, ht⟩ | ⟨hsame, -⟩
      · rw [ht] at hold
        rcases hold with hold | hold <;> cases hold
      · rw [hsees.uptime, hsees.settings]
        exact hstart (by rwa [hsame])
    · rcases hkept with ⟨hc', -⟩ | ⟨hsame, htimer⟩
      · exact absurd hc' hc
      · rw [← htimer]
        exact hgoes (hsame.trans hold)
    · rcases hkept with ⟨-, ht⟩ | ⟨hsame, -⟩
      · rw [ht] at hold
        cases hold
      · exact hstays (hsame.trans hold)
  · rintro s v x hi ht hdue hv hover rfl hx
    have hu : Undisturbed s := .inl hi
    have hrow : exec .overspeedExpiry s = .next (settle s (tripOverspeed s)) := by
      rw [overspeedExpiry_row hu.working, if_pos ⟨ht, hdue⟩]
    have hnote : tripNotice s = noticeRollOverspeed v (s.settings.lock.rollSpeedLimit + 200) s.settings.lock.autoDrop := by
      unfold tripNotice State.speedValue overspeedThreshold
      rw [hv]
      rfl
    have hmonitor := trip_monitor hi (r := tripRun s) ((overThreshold_iff s).mpr ⟨v, hv, hover⟩)
    rw [← tripOverspeed_eq] at hmonitor
    have finish {ns : List Notice} (hreact : Reacted (s.post (tripNotice s :: ns)) (settle s (tripOverspeed s))) :
        s.notices.entries.length < 32 → AlarmWaits .rollOverspeed 1 (settle s (tripOverspeed s)).notices := fun hl =>
      hreact.alarmWaits (postAll_alarmWaits _ _ ns _ _ (postNotice_alarm _ _ (tripNotice s) rfl hl))
    refine ⟨_, hrow, ?_⟩
    rw [← hnote]
    have alone (hr : tripRun s = (tripped s).ptoRun) :
        Reacted (s.post [tripNotice s]) (settle s (tripOverspeed s)) ∧
        (settle s (tripOverspeed s)).pto.aux.state = s.pto.aux.state := by
      refine ⟨?_, trip_stays hi hr⟩
      rw [tripOverspeed_eq]
      exact trip_reacted hi (ns := []) (ms := []) (by rw [hr]; rfl) (Nat.zero_le 8) (by simp)
    rcases trip_cases hx with ha | ⟨ha, hs⟩ | ⟨ha, hs⟩ | ⟨ha, hs⟩ | ⟨ha, hs, ho⟩
    · obtain ⟨hreact, hstate⟩ := alone (if_neg (by simp [ha]))
      rw [if_neg (by simp [ha])]
      exact ⟨hreact, finish hreact, fun h => (hmonitor.1 h), hmonitor.2, fun _ => hstate, fun h => by simp [ha] at h⟩
    · obtain ⟨hreact, hstate⟩ := alone ((if_pos ha).trans (dropDrive_leaves hs))
      simp only [List.mem_cons, List.not_mem_nil, or_false] at hs
      rw [if_neg (by rcases hs with hs | hs <;> simp [hs])]
      refine ⟨hreact, finish hreact, hmonitor.1, hmonitor.2, fun _ => hstate, fun _ => ?_⟩
      rcases hs with hs | hs <;> simp [hs]
    · obtain ⟨hreact, hst, hwin, hwait⟩ := trip_refuses hi ha hs
      rw [if_pos ⟨ha, hs⟩]
      refine ⟨hreact, finish hreact, hmonitor.1, hmonitor.2, by simp [ha, hs], fun _ => ⟨fun _ => ?_, ?_, ?_⟩⟩
      · refine ⟨hst, hwin, ?_, hwait⟩
        have hsol := solenoid_settle (b := s) (u := tripOverspeed s) (by rw [tripOverspeed_eq]; exact hu.working) .aux
        exact hsol.trans (Bool.eq_false_iff.mpr fun h => by
          rw [solenoidOn_iff] at h
          simp [Pto.drive, hst] at h)
      · simp [hs]
      · simp [hs]
    · obtain ⟨hreact, hreleased⟩ := trip_releases hi ha hs
      have hne : s.pto.aux.state ≠ .requested ∧ s.pto.aux.state ∉ [DriveState.releasing, .fault] := by
        rcases hs with hs | ⟨hs, -⟩
        · simp [hs]
        · simp only [List.mem_cons, List.not_mem_nil, or_false] at hs
          rcases hs with hs | hs | hs <;> simp [hs]
      rw [if_neg (fun h => hne.1 h.2)]
      refine ⟨hreact, finish hreact, hmonitor.1, hmonitor.2, fun h => ?_, fun _ =>
        ⟨fun h => absurd h hne.1, fun _ => hreleased, fun h ho => ?_⟩⟩
      · rcases h with h | h
        · simp [ha] at h
        · exact absurd h hne.2
      · rcases hs with hs | ⟨-, hno⟩
        · simp [hs] at h
        · exact absurd ho hno
    · obtain ⟨hreact, hwait⟩ := trip_waits hi ha hs ho
      have hne : s.pto.aux.state ≠ .requested ∧ s.pto.aux.state ∉ [DriveState.releasing, .fault] ∧
          s.pto.aux.state ≠ .shifting := by
        simp only [List.mem_cons, List.not_mem_nil, or_false] at hs
        rcases hs with hs | hs | hs <;> simp [hs]
      rw [if_neg (fun h => hne.1 h.2)]
      refine ⟨hreact, finish hreact, hmonitor.1, hmonitor.2, fun h => ?_, fun _ =>
        ⟨fun h => absurd h hne.1, fun h => ?_, fun _ _ => hwait⟩⟩
      · rcases h with h | h
        · simp [ha] at h
        · exact absurd h hne.2.1
      · rcases h with h | ⟨-, hno⟩
        · exact absurd h hne.2.2
        · exact absurd ho hno

end Sys2Proof.Machine
end

section
/-! SUPPORT. The governor's reaction to an event, and what it leaves of the governor's record (R79 to R85). -/

namespace Sys2Proof.Machine

/-! ### Entries -/

section
variable {g g' : Governor} (h : GovernorSound g)
include h

/-- A sound governor that is not in ROLL has no stop timer (R83). -/
theorem GovernorSound.noStop (hm : g.mode ≠ .roll) : g.stop = none := by
  by_contra hs
  exact hm (h.stop hs)

/-- A sound governor outside the pumping modes with another throttle path. -/
theorem GovernorSound.withPath (p : ThrottlePath) (hp : g.mode ∈ [GovMode.pressure, .speed, .hold] → p = .available) :
    GovernorSound { g with path := p } :=
  { h with pumping := fun hm => ⟨(h.pumping hm).1, hp hm⟩ }

end

/-- OFF (R81). -/
theorem enterOff_sound (c : GovSettings) {g : Governor} (hg : g.governed = none) : GovernorSound (enterOff c g) where
  pumping hm := by cases hm; contradiction
  rolling := nofun
  off _ := ⟨hg, rfl⟩
  idle _ := .inl rfl
  windDown := fun h => absurd rfl h
  stop := fun h => absurd rfl h

/-- ROLL (R82). -/
theorem enterRoll_sound (c : GovSettings) {g : Governor} (hg : g.governed = some .aux) : GovernorSound (enterRoll c g) where
  pumping hm := by cases hm; contradiction
  rolling _ := hg
  off := nofun
  idle h := by rw [show g.governed = none from h] at hg; cases hg
  windDown := fun h => absurd rfl h
  stop _ := rfl

/-- IDLE with a governed drive (R80). -/
theorem idle_sound {g : Governor} (hm : g.mode = .idle) (hg : g.governed ≠ none) (hw : g.windDown = none)
    (hs : g.stop = none) : GovernorSound g where
  pumping h := by rw [hm] at h; exact absurd h (by decide)
  rolling h := by rw [hm] at h; cases h
  off h := by rw [hm] at h; cases h
  idle h := absurd h hg
  windDown h := absurd hw h
  stop h := absurd hs h

/-- Wind-down IDLE (R81). -/
theorem windDownIdle_sound {g : Governor} (hm : g.mode = .idle) (hg : g.governed = none) (hw : g.windDown ≠ none)
    (hs : g.stop = none) : GovernorSound g where
  pumping h := by rw [hm] at h; exact absurd h (by decide)
  rolling h := by rw [hm] at h; cases h
  off h := by rw [hm] at h; cases h
  idle _ := .inr ⟨hm, hw⟩
  windDown _ := hg
  stop h := absurd hs h

/-! ### The parts of the reaction -/

section
variable (s : State) {g : Governor} (h : GovernorSound g)
include h

/-- The loss and return of the throttle path (R85). -/
theorem followPath_sound : GovernorSound (followPath s g).1 := by
  unfold followPath
  dsimp only
  split
  · split
    · next hm => exact h.withPath .lost (by rw [hm]; decide)
    · next hm => exact h.withPath .lost (by rw [hm]; decide)
    · next hm => exact h.withPath .lost (by rw [hm]; decide)
    · next ho hi hr =>
      have hm : g.mode ∈ [GovMode.pressure, .speed, .hold] := by
        cases hm : g.mode <;> simp_all
      have hidle : GovernorSound (enterIdle g) := h.toIdle (h.pumping hm).1 rfl rfl rfl rfl
      exact hidle.withPath .lost fun hc => by cases hc; contradiction
  · next hl =>
    refine h.withPath _ fun hm => ?_
    cases hp : pathOf s.chassis.port g.path with
    | available => rfl
    | lost => exact absurd ⟨hp, (h.pumping hm).2⟩ hl

/-- A change of the governed drive (R80, R81). -/
theorem changeGoverned_sound (new : Option DriveId) :
    GovernorSound (changeGoverned s new g) ∧ (changeGoverned s new g).governed = new := by
  unfold changeGoverned
  split
  · next hn =>
    dsimp only
    split
    · next ha =>
      rw [ha.1]
      exact ⟨enterRoll_sound _ rfl, rfl⟩
    · have hr : g.mode ≠ .roll := fun hm => by rw [h.rolling hm] at hn; cases hn
      exact ⟨idle_sound rfl nofun rfl (h.noStop hr), rfl⟩
  · dsimp only
    split
    · next ha =>
      rw [ha.1]
      exact ⟨enterRoll_sound _ rfl, rfl⟩
    · exact ⟨idle_sound rfl nofun rfl rfl, rfl⟩
  · split
    · exact ⟨windDownIdle_sound rfl rfl nofun rfl, rfl⟩
    · exact ⟨enterOff_sound _ rfl, rfl⟩
  · next hn => exact ⟨h, hn⟩

/-- The end of wind-down IDLE (R81). -/
theorem leaveWindDown_sound : GovernorSound (leaveWindDown s g) ∧ (leaveWindDown s g).governed = g.governed ∧
    ∀ d, (leaveWindDown s g).windDown = some d →
      (s.pto.drive d).state = .windingDown ∧ (d = .aux → s.stationary = true) := by
  unfold leaveWindDown
  split
  · next hn => exact ⟨h, rfl, fun d hd => by rw [hn] at hd; cases hd⟩
  · next d hd =>
    split
    · exact ⟨enterOff_sound _ (h.windDown (by rw [hd]; exact nofun)), rfl, nofun⟩
    · next hc =>
      refine ⟨h, rfl, fun d' hd' => ?_⟩
      rw [hd] at hd'
      cases hd'
      simpa using hc

/-- ROLL with AUX governed and the vehicle not stationary (R82). -/
theorem rollWithAux_sound : GovernorSound (rollWithAux s g) ∧ (rollWithAux s g).governed = g.governed ∧
    (∀ d, (rollWithAux s g).windDown = some d → g.windDown = some d) ∧
    (g.governed = some .aux → s.stationary = false → (rollWithAux s g).mode = .roll) := by
  unfold rollWithAux
  split
  · next hc => exact ⟨enterRoll_sound _ hc.1, rfl, nofun, fun _ _ => rfl⟩
  · next hc =>
    refine ⟨h, rfl, fun _ => id, fun ha hs => ?_⟩
    by_contra hr
    refine hc ⟨ha, hs, hr, fun ho => ?_⟩
    rw [(h.off ho).1] at ha
    cases ha

/-- The stop timer (R83). -/
theorem watchForStop_sound : GovernorSound (watchForStop s g) ∧ (watchForStop s g).governed = g.governed ∧
    (watchForStop s g).windDown = g.windDown ∧ (watchForStop s g).mode = g.mode ∧
    ((watchForStop s g).stop ≠ none ↔ g.mode = .roll ∧ s.stationary = true) := by
  unfold watchForStop
  split
  · next hm =>
    have hroll (x : Timer) : GovernorSound { g with stop := x } := { h with stop := fun _ => hm }
    split
    · next hs =>
      split
      · exact ⟨hroll _, rfl, rfl, rfl, by simp [startTimer, hm, hs]⟩
      · next hn => exact ⟨h, rfl, rfl, rfl, by simpa [hm, hs] using hn⟩
    · next hs => exact ⟨hroll _, rfl, rfl, rfl, by simp [hs]⟩
  · next hm => exact ⟨h, rfl, rfl, rfl, by simp [hm, h.noStop hm]⟩

end

/-! ### The reaction -/

/-- What the governor's reaction in a part leaves (R79 to R85). -/
structure GovernorSettled (s : State) (g : Governor) : Prop where
  sound : GovernorSound g
  governed : g.governed = governedDrive s.pto
  windDown : ∀ d, g.windDown = some d → (s.pto.drive d).state = .windingDown ∧ (d = .aux → s.stationary = true)
  rolls : g.governed = some .aux → s.stationary = false → g.mode = .roll
  stop : g.stop ≠ none ↔ g.mode = .roll ∧ s.stationary = true
  path : g.path = pathOf s.chassis.port s.gov.path

/-- The governor's reaction to an event. -/
theorem governorReact_settled {s : State} (h : GovernorSound s.gov) : GovernorSettled s (governorReact s).1 := by
  let g1 := (followPath s s.gov).1
  let new := governedDrive s.pto
  let g2 := if new = g1.governed then g1 else changeGoverned s new g1
  have h1 : GovernorSound g1 := followPath_sound s h
  have h2 : GovernorSound g2 ∧ g2.governed = new := by
    by_cases hc : new = g1.governed
    · rw [show g2 = g1 from if_pos hc]
      exact ⟨h1, hc.symm⟩
    · rw [show g2 = changeGoverned s new g1 from if_neg hc]
      exact changeGoverned_sound s h1 new
  obtain ⟨h3, e3, hwind⟩ := leaveWindDown_sound s h2.1
  obtain ⟨h4, e4, w4, hroll⟩ := rollWithAux_sound s h3
  obtain ⟨h5, e5, w5, m5, hstop⟩ := watchForStop_sound s h4
  have hr : (governorReact s).1 = watchForStop s (rollWithAux s (leaveWindDown s g2)) := rfl
  have hpath := governorReact_path s
  rw [hr] at hpath ⊢
  exact
    { sound := h5
      governed := ((e5.trans e4).trans e3).trans h2.2
      windDown := fun d hd => hwind d (w4 d (w5.symm.trans hd))
      rolls := fun ha hs => m5.trans (hroll (e4.symm.trans (e5.symm.trans ha)) hs)
      stop := by rw [m5]; exact hstop
      path := hpath }

/-! ### The governor's turn -/

/-- The governor's and the protection monitor's turns within an event: `u` is what the event's own effect leaves, `v` what the
governor finds, `t` the end. -/
structure GovernorTurn (u v t : State) : Prop where
  finds : Sees u v
  gov : v.gov = u.gov
  port : v.chassis.port = u.chassis.port
  result : t.gov = (governorReact v).1
  drives : t.pto = v.pto
  ends : Sees u t
  stays : t.chassis.port = u.chassis.port
  qualifies : t.prot.qualification.isSome = true ↔ t.settings.prot.enabled[(0 : Fin 5)] = true ∧
    (t.prot.conds[(0 : Fin 5)]).state = .inactive ∧ CavitationFacts t

/-- P0's qualification timer runs while P0 is enabled and INACTIVE and its three facts hold (R104). -/
theorem followQualification_isSome (s : State) : (followQualification s).isSome = true ↔
    s.settings.prot.enabled[(0 : Fin 5)] = true ∧ (s.prot.conds[(0 : Fin 5)]).state = .inactive ∧ CavitationFacts s := by
  have facts : cavitationFacts s = true ↔ CavitationFacts s := by
    simp [cavitationFacts, CavitationFacts, analogUsable, and_assoc]
  rw [← facts, ← and_assoc]
  unfold followQualification
  split
  · next h =>
    refine iff_of_true ?_ (by simpa using h)
    split
    · next hq => exact hq
    · rfl
  · next h => exact iff_of_false nofun (by simpa using h)

/-- What the last turns of an event leave of the governor's turn, `w` being what it leaves and `b` the part before the event. -/
structure AfterGovernor (b w t : State) : Prop where
  gov : t.gov = w.gov
  pto : t.pto = w.pto
  prot : t.prot = protReact b w
  settings : t.settings = w.settings
  inputs : t.inputs = w.inputs

/-- The last turns of an event: the protection monitor, the lockout unit, the port and the reports. -/
theorem afterGovernor (b mid w : State) : AfterGovernor b w (settleMonitors mid (refreshOutputs (settleChassis mid
    (settleLockout (settleProtection b w))))) := by
  constructor <;> simp

/-- The power controller leaves the governor. -/
theorem powerReact_gov (s : State) : (powerReact s).gov = s.gov := by
  rcases powerReact_cases s with h | ⟨-, h⟩ | ⟨-, h⟩ | ⟨-, c, h⟩ <;> rw [h] <;> rfl

/-- What the governor finds in an event of a working part, and what its turn and the last turns make of it. -/
theorem settleWorking_governor (b u : State) : ∃ v, ReactedBy 17 u v ∧ v.gov = u.gov ∧
    AfterGovernor b (settleGovernor v) (settleWorking b u) := by
  let mid := settleReaders b (settleFill b (settleBrake b u))
  have hmid := ((reacted_settleBrake b u).trans (reacted_settleFill b _)).trans (reacted_settleReaders b _)
  have hv := hmid.trans <| (reacted_powerReact mid).trans <| (reacted_settlePto b _).trans (reacted_powerReact _)
  refine ⟨powerReact (settlePto b (powerReact mid)), hv, ?_, afterGovernor b mid _⟩
  simp only [powerReact_gov, settlePto_gov]
  rfl

/-- Where the governor's turn stands in what follows an event of a working part. -/
theorem settle_governorTurn (b : State) {u : State} (hw : u.working = true) : ∃ v, GovernorTurn u v (settle b u) := by
  have hend := reacted_settle b u
  rw [settle_working b hw] at hend ⊢
  obtain ⟨v, hv, hgov, hafter⟩ := settleWorking_governor b u
  refine ⟨v, ?_⟩
  exact
    { finds := hv.sees, gov := hgov, port := hv.portState
      result := hafter.gov.trans rfl
      drives := hafter.pto.trans rfl
      ends := hend.sees, stays := hend.portState
      qualifies := by
        have hq := followQualification_isSome (settleGovernor v)
        unfold CavitationFacts at hq ⊢
        rw [hafter.prot, hafter.settings, hafter.inputs, hafter.gov]
        exact hq }

end Sys2Proof.Machine
end

section
/-! SUPPORT. The lockout unit's reaction to an event, and what it leaves of the conditions and the actions (R147 to R153, R163). -/

namespace Sys2Proof.Machine

/-! ### Actions -/

/-- What an action's record keeps of itself (R151 to R153). -/
structure ActionSound (a : ActionId) (x : Action) : Prop where
  deferred : x.state = .pending → a = .idleCap
  holds : x.contributors ≠ [] → x.state = .asserted ∨ x.state = .pending

/-- The unit's record is sound by its three actions. -/
theorem lockoutSound_iff (l : Lockout) : LockoutSound l ↔
    ActionSound .inhibit l.inhibit ∧ ActionSound .rollLimit l.rollLimit ∧ ActionSound .idleCap l.idleCap := by
  constructor
  · rintro ⟨⟨d1, d2⟩, h1, h2, h3⟩
    exact ⟨⟨fun h => absurd h d1, fun h => .inl (h1 h)⟩, ⟨fun h => absurd h d2, fun h => .inl (h2 h)⟩, ⟨fun _ => rfl, h3⟩⟩
  · rintro ⟨⟨d1, h1⟩, ⟨d2, h2⟩, ⟨-, h3⟩⟩
    have n1 : l.inhibit.state ≠ .pending := fun h => nomatch d1 h
    have n2 : l.rollLimit.state ≠ .pending := fun h => nomatch d2 h
    exact ⟨⟨n1, n2⟩, fun h => (h1 h).resolve_right n1, fun h => (h2 h).resolve_right n2, h3⟩

section
variable {now : Uptime} {c : ActionSettings} {a : ActionId} {b starting : Bool} {x : Action}

/-- A new contributor asserts an action, or leaves IDLE_CAP to wait (R151). -/
theorem assertAction_state : (assertAction now a b x).state = .asserted ∨
    ((assertAction now a b x).state = .pending ∧ (a = .idleCap ∨ x.state = .pending)) := by
  unfold assertAction
  split
  · next h => exact .inl h
  · next h => exact .inr ⟨h, .inr h⟩
  · split
    · next h => exact .inr ⟨rfl, .inl h.1⟩
    · exact .inl rfl

/-- An action whose set has become empty does not come to PENDING (R152). -/
theorem emptyAction_state : (emptyAction now c starting x).state ≠ .pending := by
  unfold emptyAction
  split
  · split
    · exact nofun
    · split <;> exact nofun
  · exact nofun
  · next h => exact h

/-- IDLE_CAP in PENDING stays so or is asserted (R153). -/
theorem settlePending_state : (settlePending now b x).state = x.state ∨
    (x.state = .pending ∧ (settlePending now b x).state = .asserted) := by
  unfold settlePending
  split
  · next h => exact .inr ⟨h.1, rfl⟩
  · exact .inl rfl

/-- A set without a member that another does not have is empty with it. -/
theorem hasNew_false {old new : List (Fin 11)} (h : hasNew old new = false) (hn : new ≠ []) : old ≠ [] := by
  rintro rfl
  obtain ⟨i, hi⟩ := List.exists_mem_of_ne_nil new hn
  simp only [hasNew, List.any_eq_false] at h
  exact h i hi rfl

/-- An action's response to its contributing set keeps its record (R151 to R153). -/
theorem respond_sound {stage : EvalStage} (new : List (Fin 11)) (h : ActionSound a x) :
    ActionSound a (respond now c a b starting stage new x) := by
  let y := if hasNew x.contributors new then assertAction now a b x
    else if emptiedNow stage a x.contributors new then emptyAction now c starting x else x
  have hy : (y.state = .pending → a = .idleCap) ∧ (new ≠ [] → y.state = .asserted ∨ y.state = .pending) := by
    dsimp only [y]
    split
    · rcases assertAction_state (now := now) (a := a) (b := b) (x := x) with hs | ⟨hs, hp⟩
      · rw [hs]
        exact ⟨nofun, fun _ => .inl rfl⟩
      · exact ⟨fun _ => hp.elim id h.deferred, fun _ => .inr hs⟩
    · next hnew =>
      split
      · next he =>
        refine ⟨fun hp => absurd hp emptyAction_state, fun hn => ?_⟩
        simp only [emptiedNow, Bool.and_eq_true, List.isEmpty_iff] at he
        exact absurd he.1 hn
      · exact ⟨h.deferred, fun hn => h.holds (hasNew_false (Bool.eq_false_iff.mpr hnew) hn)⟩
  have hs := settlePending_state (now := now) (b := b) (x := y)
  have hr : (respond now c a b starting stage new x).state = (settlePending now b y).state := rfl
  constructor
  · rw [hr]
    intro hp
    rcases hs with hs | ⟨-, hs⟩
    · exact hy.1 (hs.symm.trans hp)
    · rw [hs] at hp; cases hp
  · rw [hr]
    intro hn
    rcases hs with hs | ⟨-, hs⟩
    · rw [hs]; exact hy.2 hn
    · exact .inl hs

end

/-- The unit's reaction keeps its record. -/
theorem lockoutReact_sound {s : State} (h : LockoutSound s.lock) : LockoutSound (lockoutReact s).1 := by
  obtain ⟨hi, hr, hk⟩ := (lockoutSound_iff _).mp h
  exact (lockoutSound_iff _).mpr ⟨respond_sound _ hi, respond_sound _ hr, respond_sound _ hk⟩

/-! ### Conditions and contributing sets -/

/-- A condition's flag as given. -/
theorem setCondition_active (now : Uptime) (b : Bool) (x : LockCond) : (setCondition now b x).active = b := by
  unfold setCondition
  split
  · next h => exact h.symm
  · rfl

/-- A condition after an evaluation (R148). -/
theorem evaluateConditions_active (s : State) (i : Fin 11) :
    ((evaluateConditions s)[i]).active = conditionHolds s i := by
  simp [evaluateConditions, setCondition_active]

/-- A condition before the first evaluation (R148). -/
theorem earlyConditions_active (s : State) (i : Fin 11) : ((earlyConditions s)[i]).active = earlyHolds s i := by
  simp [earlyConditions, setCondition_active]

/-- The contributing set has the active conditions whose action set holds the action (R150). -/
theorem mem_contributorsOf {c : LockSettings} {conds : Vector LockCond 11} {a : ActionId} {i : Fin 11} :
    i ∈ contributorsOf c conds a ↔ (conds[i]).active = true ∧ a ∈ c.actionSets[i] := by
  simp [contributorsOf]

/-- Before the first evaluation every condition but C10 contributes as it does after it. -/
theorem mem_earlyContributors {c : LockSettings} {old new : Vector LockCond 11} {a : ActionId} {x : Action} {i : Fin 11}
    (hi : i ≠ 10) : i ∈ earlyContributors c old new a x ↔ (new[i]).active = true ∧ a ∈ c.actionSets[i] := by
  simp [earlyContributors, mem_contributorsOf, hi]

/-- A condition is met as its sources say (R147). -/
theorem conditionHolds_iff (s : State) (i : Fin 11) : conditionHolds s i = true ↔ ConditionMet s i := by
  match i with
  | 0 | 1 | 2 | 3 | 4 | 5 | 7 | 8 | 9 | 10 => simp [conditionHolds, ConditionMet]
  | 6 =>
    have hv : s.vehicle = .unknown ↔ s.quantity 0 = none := by
      unfold State.vehicle vehicleOf State.quantity
      split
      · next h => simp [h]
      · next h => split <;> simp [h]
    simp [conditionHolds, ConditionMet, hv]

/-! ### The reaction -/

/-- What the lockout unit's reaction leaves of the conditions and the contributing sets (R148, R150, R157, R163). -/
structure LockoutSettled (s : State) (l : Lockout) : Prop where
  sound : LockoutSound l
  conditions : l.evaluated = true → ∀ i : Fin 11, (l.conds[i]).active = true ↔ ConditionMet s i
  contributors : l.evaluated = true → ∀ (a : ActionId) (i : Fin 11),
    i ∈ (l.action a).contributors ↔ (l.conds[i]).active = true ∧ a ∈ s.settings.lock.actionSets[i]
  main : (l.conds[(0 : Fin 11)]).active = true ↔ s.pto.main.state ≠ .disengaged
  fill : s.gauge.fill.active = true → (l.conds[(2 : Fin 11)]).active = true
  withheld : ∀ i ∈ [(0 : Fin 11), 2], (l.conds[i]).active = true ∧ .inhibit ∈ s.settings.lock.actionSets[i] →
    i ∈ l.inhibit.contributors
  forced : l.forced = s.lock.forced

/-- The contributing set that the reaction gives an action. -/
theorem lockoutReact_contributors (s : State) (a : ActionId) :
    ((lockoutReact s).1.action a).contributors = contributorsAt s (evalStage s) a := by
  cases a <;> rfl

/-- The lockout unit's reaction to an event. -/
theorem lockoutReact_settled {s : State} (h : LockoutSound s.lock) : LockoutSettled s (lockoutReact s).1 := by
  have hsound := lockoutReact_sound h
  have hsets := lockoutReact_contributors s
  have hconds : (lockoutReact s).1.conds = conditionsAt s (evalStage s) := rfl
  have hdone : (lockoutReact s).1.evaluated = decide (evalStage s ≠ .early) := rfl
  have hforced : (lockoutReact s).1.forced = s.lock.forced := rfl
  generalize (lockoutReact s).1 = l at *
  by_cases he : evalStage s = .early
  · rw [he] at hsets hconds hdone
    have hc (i : Fin 11) : (l.conds[i]).active = earlyHolds s i := by
      rw [hconds]
      exact earlyConditions_active s i
    have hm (i : Fin 11) (hi : i ≠ 10) : i ∈ l.inhibit.contributors ↔ (l.conds[i]).active = true ∧
        .inhibit ∈ s.settings.lock.actionSets[i] := by
      rw [show l.inhibit.contributors = _ from hsets .inhibit, hconds]
      exact mem_earlyContributors hi
    have hno : ¬ l.evaluated = true := by rw [hdone]; simp
    exact
      { sound := hsound, conditions := fun h => absurd h hno, contributors := fun h => absurd h hno
        main := by rw [hc]; simp [earlyHolds, handedConditions, conditionHolds]
        fill := fun hf => by rw [hc]; simp [earlyHolds, hf]
        withheld := fun i hi => (hm i (by rintro rfl; simp at hi)).mpr
        forced := hforced }
  · have hfull : conditionsAt s (evalStage s) = evaluateConditions s ∧
        ∀ a, contributorsAt s (evalStage s) a = contributorsOf s.settings.lock (evaluateConditions s) a := by
      cases hs : evalStage s
      · exact absurd hs he
      · exact ⟨rfl, fun _ => rfl⟩
      · exact ⟨rfl, fun _ => rfl⟩
    have hc (i : Fin 11) : (l.conds[i]).active = true ↔ ConditionMet s i := by
      rw [hconds, hfull.1, evaluateConditions_active, conditionHolds_iff]
    have hm (a : ActionId) (i : Fin 11) : i ∈ (l.action a).contributors ↔ (l.conds[i]).active = true ∧
        a ∈ s.settings.lock.actionSets[i] := by
      rw [hsets, hfull.2, hconds, hfull.1]
      exact mem_contributorsOf
    exact
      { sound := hsound, conditions := fun _ => hc, contributors := fun _ => hm
        main := hc 0
        fill := fun hf => (hc 2).mpr (.inl hf)
        withheld := fun i _ => (hm .inhibit i).mpr
        forced := hforced }

end Sys2Proof.Machine
end

section
/-! SUPPORT. The records that follow one another at the end of every event and at the starting points, and O32. -/

namespace Sys2Proof.Machine

/-! ### What the records keep into an event -/

/-- What the records that follow one another bring into what follows an event. -/
structure Settleable (u : State) : Prop where
  governor : GovernorSound u.gov
  lockout : LockoutSound u.lock
  path : u.chassis.port = .off → u.gov.path ≠ .lost

/-- Records that follow one another (R79 to R85, R151). -/
theorem RecordsFollow.settleable {s : State} (h : RecordsFollow s) : Settleable s where
  governor :=
    { pumping := fun hm => ⟨by rcases h.governor.pumping hm with hg | ⟨hg, -⟩ <;> rw [hg] <;> exact nofun,
        h.governor.throttle hm⟩
      rolling := h.governor.rolling
      off := h.governor.off
      idle := h.governor.none
      windDown := fun hw => by
        obtain ⟨d, hd⟩ := Option.ne_none_iff_exists'.mp hw
        exact (h.governor.windDown d hd).1
      stop := fun hs => (h.governor.stop.mp hs).1 }
  lockout := ⟨h.deferred, h.permit, h.rollLimit, h.idleCap⟩
  path hp hl := by
    rcases h.governor.path.mp hl with h | h <;> rw [hp] at h <;> cases h

/-- A command's own effect keeps that. -/
theorem Settleable.effect {trip : Prop} {s u : State} (h : Settleable s) (hu : OwnEffect trip s u) : Settleable u where
  governor := hu.governor h.governor
  lockout := hu.lockout h.lockout
  path hp := by rw [hu.path]; exact h.path (hu.port hp)

/-! ### The end of an event -/

/-- The vehicle is stationary, as the flag says. -/
theorem stationary_iff (s : State) : s.stationary = true ↔ s.vehicle = .stationary := by
  simp [State.stationary]

/-- The ready flags after what follows an event of a working part (R65). -/
theorem settle_ready (b : State) {u : State} (hw : u.working = true) (d : DriveId) :
    ((settle b u).pto.drive d).ready = true ↔
      ((settle b u).pto.drive d).state = .engaged ∧ PumpTurns (settle b u) d := by
  obtain ⟨m, hm⟩ := settle_drivesTurn b hw
  rw [← turning_iff, hm.env, hm.pto, ptoReact_of_checks rfl, refreshReady_drive]
  simp

section
variable {t : State} (hready : ∀ d, (t.pto.drive d).ready = true → (t.pto.drive d).state = .engaged)
include hready

/-- The governed drive by the ready flags (R79). -/
theorem governedDrive_of_ready : (governedDrive t.pto = some .main ↔ t.pto.main.ready = true) ∧
    (governedDrive t.pto = some .aux ↔ t.pto.main.ready = false ∧ t.pto.aux.ready = true) := by
  have hm : t.pto.main.ready = true → t.pto.main.state = .engaged := hready .main
  have ha : t.pto.aux.ready = true → t.pto.aux.state = .engaged := hready .aux
  unfold governedDrive
  cases hx : t.pto.main.ready with
  | true => simp [hm hx]
  | false =>
    cases hy : t.pto.aux.ready with
    | true => simp [ha hy]
    | false => simp

end

/-- The governor after its turn follows the drives, the vehicle and the port (R79 to R85). -/
theorem GovernorTurn.follows {u v t : State} (h : GovernorTurn u v t) (hu : Settleable u) : GovernorFollows t := by
  have hg : GovernorSettled v (governorReact v).1 := governorReact_settled (h.gov ▸ hu.governor)
  rw [← h.result] at hg
  have hst : v.stationary = true ↔ t.vehicle = .stationary := by
    rw [stationary_iff, h.finds.vehicle, h.ends.vehicle]
  have hmoving : t.vehicle ≠ .stationary → v.stationary = false := fun hv => Bool.eq_false_iff.mpr fun h => hv (hst.mp h)
  exact
    { pumping := fun hm => by
        obtain ⟨hn, -⟩ := hg.sound.pumping hm
        obtain ⟨d, hd⟩ := Option.ne_none_iff_exists'.mp hn
        cases d with
        | main => exact .inl hd
        | aux =>
          refine .inr ⟨hd, ?_⟩
          by_contra hv
          rw [hg.rolls hd (hmoving hv)] at hm
          exact absurd hm (by decide)
      rolling := hg.sound.rolling
      rollsWithAux := fun ha hv => hg.rolls ha (hmoving hv)
      off := hg.sound.off
      none := hg.sound.idle
      windDown := fun d hd => by
        obtain ⟨hw, hs⟩ := hg.windDown d hd
        rw [← h.drives] at hw
        exact ⟨hg.sound.windDown (by rw [hd]; exact nofun), hw, fun ha => hst.mp (hs ha)⟩
      stop := by rw [← hst]; exact hg.stop
      path := by
        rw [hg.path, h.gov, h.port, h.stays]
        have hoff := hu.path
        cases hp : u.chassis.port <;> simp_all [pathOf]
      throttle := fun hm => (hg.sound.pumping hm).2 }

/-- The conditions that the lockout unit's second turn finds met are met at the end of the event. -/
theorem LockTurns.met {u p q t : State} (h : LockTurns u p q t) (hf : t.lock.forced = q.lock.forced) (i : Fin 11) :
    ConditionMet q i ↔ ConditionMet t i := by
  have hl := h.ends.level
  have hq := h.ends.quantity
  match i with
  | 0 | 1 | 9 => simp [ConditionMet, h.drives]
  | 2 => simp [ConditionMet, h.fill, hl]
  | 3 | 4 | 5 => simp [ConditionMet, hl]
  | 6 => simp [ConditionMet, hq]
  | 7 => simp [ConditionMet, h.inputs]
  | 8 => simp [ConditionMet, h.port.1]
  | 10 => simp [ConditionMet, hf]

/-- What follows an event in a working part leaves the records following one another. -/
theorem settle_recordsFollow (b : State) {u : State} (hu : Settleable u) (hw : u.working = true) :
    RecordsFollow (settle b u) := by
  obtain ⟨v, hv⟩ := settle_governorTurn b hw
  obtain ⟨p, q, hl⟩ := settle_lockTurns b hw
  have hready := settle_ready b hw
  obtain ⟨hoff, hon⟩ := settle_overspeed b hw
  have hgov := hv.follows hu
  have hgoverned : (settle b u).gov.governed = governedDrive (settle b u).pto := by
    rw [hv.result, hv.drives]
    exact (governorReact_settled (hv.gov ▸ hu.governor)).governed
  have hlock : LockoutSettled q (settle b u).lock := by
    have hp : LockoutSound p.lock := hl.lock ▸ hu.lockout
    rw [hl.result]
    exact lockoutReact_settled (hl.again ▸ lockoutReact_sound hp)
  generalize settle b u = t at *
  obtain ⟨hmain, haux⟩ := governedDrive_of_ready fun d h => ((hready d).mp h).1
  have hmet := hl.met hlock.forced
  have hsettings := hl.ends.settings
  obtain ⟨hdeferred, hpermit, hroll, hcap⟩ := hlock.sound
  exact
    { mainReady := hready .main
      auxReady := hready .aux
      governedMain := by rw [hgoverned]; exact hmain
      governedAux := by rw [hgoverned]; exact haux
      governor := hgov
      qualifies := hv.qualifies
      conditions := fun he i => (hlock.conditions he i).trans (hmet i)
      contributors := fun he a i => by
        unfold Contributes
        rw [hsettings]
        exact hlock.contributors he a i
      handedMain := by rw [hl.drives]; exact hlock.main
      handedFill := by rw [hl.fill]; exact hlock.fill
      withheld := fun i hi => by
        unfold Contributes
        rw [hsettings]
        exact hlock.withheld i hi
      deferred := hdeferred, permit := hpermit, rollLimit := hroll, idleCap := hcap
      overspeed := by
        refine ⟨fun ho => ?_, fun hd => (hoff hd).1⟩
        by_contra hd
        obtain ⟨hslow, hfast⟩ := hon hd
        cases hov : overThreshold u with
        | false => rw [(hslow hov).1] at ho; cases ho
        | true =>
          obtain ⟨hstart, hgoes, hstays⟩ := hfast hov
          cases hm : u.lock.overspeed with
          | off => rw [(hstart (.inl hm)).1] at ho; cases ho
          | watching => rw [(hstart (.inr hm)).1] at ho; cases ho
          | timing => rw [(hgoes hm).1] at ho; cases ho
          | tripped => rw [(hstays hm).1] at ho; cases ho }

/-- An event whose own effect is such an effect, or takes the part out of work, keeps the records following one another. -/
theorem event_recordsFollow {trip : Prop} {f : State → State} {s : State} (hs : s.working = true → RecordsFollow s)
    (hf : (f s).working = false ∨ OwnEffect trip s (f s)) (ht : (event f s).working = true) :
    RecordsFollow (event f s) := by
  unfold event at ht ⊢
  split
  · next hp =>
    rw [if_pos hp] at ht
    have hw : (f s).working = true := (reacted_settle s (f s)).working.symm.trans ht
    rcases hf with hf | hf
    · rw [hf] at hw; cases hw
    · exact settle_recordsFollow s ((hs (hf.working hp hw)).settleable.effect hf) hw
  · next hp =>
    rw [if_neg hp] at ht
    exact hs ht

/-! ### The starting points -/

/-- The records as power-on, RESTART and the wake leave them (R55, R100, R163, R164). -/
structure Afresh (s : State) : Prop where
  drives : ∃ now, s.pto = { main := driveStart now, aux := driveStart now }
  governor : ∃ now c, s.gov = governorStart now c
  port : s.chassis.port = .errorActive
  timer : s.prot.qualification = none
  fill : s.gauge.fill.active = false
  evaluated : s.lock.evaluated = false
  conditions : ∀ i ∈ [(0 : Fin 11), 2], (s.lock.conds[i]).active = false
  actions : ∀ a, (s.lock.action a).contributors = [] ∧ (s.lock.action a).state ≠ .pending
  overspeed : s.lock.overspeed = .off

/-- Records afresh follow one another. -/
theorem Afresh.recordsFollow {s : State} (h : Afresh s) : RecordsFollow s := by
  obtain ⟨n, hp⟩ := h.drives
  obtain ⟨n', c, hg⟩ := h.governor
  have hi := h.actions .inhibit
  have hr := h.actions .rollLimit
  have hk := h.actions .idleCap
  have hc0 : (s.lock.conds[(0 : Fin 11)]).active = false := h.conditions 0 (by simp)
  simp only [Lockout.action] at hi hr hk
  exact
    { mainReady := by simp [hp, driveStart]
      auxReady := by simp [hp, driveStart]
      governedMain := by simp [hp, hg, driveStart, governorStart]
      governedAux := by simp [hp, hg, driveStart, governorStart]
      governor := by
        constructor <;> simp [hg, governorStart, h.port]
      qualifies := by simp [h.timer, CavitationFacts, hg, governorStart]
      conditions := fun he => by rw [h.evaluated] at he; cases he
      contributors := fun he => by rw [h.evaluated] at he; cases he
      handedMain := by rw [hc0, hp]; simp [driveStart]
      handedFill := fun hf => by rw [h.fill] at hf; cases hf
      withheld := fun i hi' hc => by
        have ha := hc.1
        rw [h.conditions i hi'] at ha
        cases ha
      deferred := ⟨hi.2, hr.2⟩
      permit := fun hn => absurd hi.1 hn
      rollLimit := fun hn => absurd hr.1 hn
      idleCap := fun hn => absurd hk.1 hn
      overspeed := by simp [h.overspeed, hp, driveStart] }

/-- An action at the end of WAKING (R164). -/
theorem actionWake_afresh (now : Uptime) {st : ActionState} (hst : st ≠ .pending) (x : Action) :
    (actionWake now st x).contributors = [] ∧ (actionWake now st x).state ≠ .pending := by
  unfold actionWake
  split
  · next h => exact ⟨rfl, by rw [h]; decide⟩
  · exact ⟨rfl, hst⟩

/-- Power-on and RESTART leave the records afresh (R46, R189). -/
theorem blocksAfresh_afresh (now : Uptime) (c : Settings) (s : State) : Afresh (blocksAfresh now c s) where
  drives := ⟨now, rfl⟩
  governor := ⟨now, c.gov, rfl⟩
  port := rfl
  timer := rfl
  fill := rfl
  evaluated := rfl
  conditions i _ := by simp [blocksAfresh, lockoutStart]
  actions a := by cases a <;> exact ⟨rfl, nofun⟩
  overspeed := rfl

/-- The wake leaves the records afresh (R193). -/
theorem wakePart_afresh (s : State) : Afresh (wakePart s) where
  drives := ⟨s.time.uptime, rfl⟩
  governor := ⟨s.time.uptime, s.settings.gov, rfl⟩
  port := rfl
  timer := rfl
  fill := rfl
  evaluated := rfl
  conditions i hi := by
    have hl : (wakePart s).lock = lockoutWake s.time.uptime s.lock := rfl
    have hne : ¬ i = 10 := by rintro rfl; simp at hi
    have hne' : i.val ≠ 10 := fun h => hne (Fin.ext h)
    simp [hl, lockoutWake, setCondition_active, hne']
  actions a := by
    have hl : (wakePart s).lock = lockoutWake s.time.uptime s.lock := rfl
    rw [hl]
    cases a
    · exact actionWake_afresh s.time.uptime (st := .asserted) nofun s.lock.inhibit
    · exact actionWake_afresh s.time.uptime (st := .released) nofun s.lock.rollLimit
    · exact actionWake_afresh s.time.uptime (st := .released) nofun s.lock.idleCap
  overspeed := rfl

/-- Records afresh are so whatever the memory, the link, the power record and the outputs. -/
theorem Afresh.congr {s t : State} (h : Afresh s) (hp : t.pto = s.pto) (hg : t.gov = s.gov) (hc : t.chassis = s.chassis)
    (hq : t.prot = s.prot) (hf : t.gauge = s.gauge) (hl : t.lock = s.lock) : Afresh t :=
  ⟨hp ▸ h.drives, hg ▸ h.governor, hc ▸ h.port, hq ▸ h.timer, hf ▸ h.fill, hl ▸ h.evaluated, hl ▸ h.conditions,
    hl ▸ h.actions, hl ▸ h.overspeed⟩

/-- Records afresh follow one another, whatever the outputs. -/
theorem Afresh.refreshed {s : State} (h : Afresh s) : RecordsFollow (refreshOutputs s) :=
  Afresh.recordsFollow <| h.congr rfl rfl rfl rfl rfl rfl

/-- The restart of the part leaves the records afresh (R189). -/
theorem restartPart_afresh (s : State) : Afresh (restartPart s) :=
  (blocksAfresh_afresh s.time.uptime (loadedSettings s.nv) s).congr rfl rfl rfl rfl rfl rfl

/-! ### O32 -/

/-- The end of a meter write leaves the records. -/
theorem finishMeterWrite_agree (m a r : Nat) (s : State) : Agree s (finishMeterWrite m a r s) := by
  unfold finishMeterWrite
  dsimp only
  split <;> exact ⟨rfl, rfl, rfl, rfl, rfl⟩

/-- The completion of a meter write leaves the records, or takes the part to WATCH (R53, R192). -/
theorem completeWrite_agree (m a r : Nat) (w : Bool) (s : State) :
    (completeWrite m a r w s).working = false ∨ Agree s (completeWrite m a r w s) := by
  obtain ⟨hp, hg, hl, hc, hs⟩ := finishMeterWrite_agree m a r s
  have watch (cause : PowerCause) (v : State) : (enterWatch cause v).working = false := by
    show (v.powered && working PowerState.watch) = false
    simp [working]
  unfold completeWrite watchWriteDone
  dsimp only
  split
  · split
    · split
      · exact .inl (watch _ _)
      · exact .inr ⟨hp, hg, hl, hc, hs⟩
    · exact .inl (watch _ _)
    · exact .inr ⟨hp, hg, hl, hc, hs⟩
  · exact .inr ⟨hp, hg, hl, hc, hs⟩

/-- Every command keeps the records following one another. -/
theorem exec_recordsFollow (c : Instr) (s t : State) (hs : s.working = true → RecordsFollow s) (h : exec c s = .next t)
    (ht : t.working = true) : RecordsFollow t := by
  cases hc : mayStart c
  · rcases exec_ownEffect c s t hc h with rfl | ⟨u, ⟨hp, hu⟩, rfl⟩
    · exact hs ht
    · have hw : u.working = true := (reacted_settle s u).working.symm.trans ht
      exact settle_recordsFollow s ((hs (hu.working hp hw)).settleable.effect hu) hw
  · match c with
    | .powerOn =>
      cases h
      exact Afresh.recordsFollow <| (blocksAfresh_afresh 0 (loadedSettings (loseWrite s.nv)) s).congr
        rfl rfl rfl rfl rfl rfl
    | .lossOfSupply => cases h; cases ht
    | .settlingEnd =>
      cases h
      revert ht
      split <;> intro ht
      · rcases settled_cases s with ⟨-, hst⟩ | ⟨-, hst⟩ <;> rw [hst]
        · exact (restartPart_afresh (wakePart s)).refreshed
        · exact (wakePart_afresh s).refreshed
      · exact hs ht
    | .meterWriteComplete =>
      cases h
      revert ht
      split
      · next m a r w _ _ =>
        split
        · split <;> intro ht
          · refine event_recordsFollow (trip := False) hs (.inr (.of_agree ?_)) ht
            obtain ⟨hp, hg, hl, hc, hs⟩ := finishMeterWrite_agree m a r s
            exact ⟨hp, hg, hl, hc, hs⟩
          · exact (restartPart_afresh (finishMeterWrite m a r s)).refreshed
        · exact event_recordsFollow (trip := False) hs ((completeWrite_agree m a r w s).imp_right .of_agree)
      · exact hs

/-- A queue in another state leaves the records following one another. -/
theorem RecordsFollow.withPending {s : State} (h : RecordsFollow s) (p : List Instr) :
    RecordsFollow { s with pending := p } :=
  { mainReady := h.mainReady, auxReady := h.auxReady, governedMain := h.governedMain, governedAux := h.governedAux
    governor :=
      { pumping := h.governor.pumping, rolling := h.governor.rolling, rollsWithAux := h.governor.rollsWithAux
        off := h.governor.off, none := h.governor.none, windDown := h.governor.windDown, stop := h.governor.stop
        path := h.governor.path, throttle := h.governor.throttle }
    qualifies := h.qualifies, conditions := h.conditions, contributors := h.contributors, handedMain := h.handedMain
    handedFill := h.handedFill, withheld := h.withheld, deferred := h.deferred, permit := h.permit
    rollLimit := h.rollLimit, idleCap := h.idleCap, overspeed := h.overspeed }

/-- Settles O32, by the command that the step takes from the queue. -/
theorem stepKeepsRecordsFollowing : Obligations.StepKeepsRecordsFollowing := by
  intro s t hs h ht
  unfold step at h
  split at h
  · cases h; exact hs ht
  · exact exec_recordsFollow _ _ t (by exact fun hw => (hs hw).withPending _) h ht

end Sys2Proof.Machine
end

section
/-! SUPPORT. The limits of the settings that the governor and the protection ceiling rest on (R47, R78, R102, R158), through
everything that writes settings: a writer takes a number limited to its range, or leaves what the limits are about. -/

namespace Sys2Proof.Machine

/-! ### The settings that the limits are about -/

/-- The settings that the limits are about. -/
def limitsOf (c : Settings) : Int × Int × Int × Int × Int × Int :=
  (c.gov.idleRpm, c.gov.govMax, c.gov.riseLimit, c.prot.retreatStep, c.lock.rollRpmMax, c.trim)

/-- Settings that agree in what the limits are about keep them alike. -/
theorem LimitsSound.congr {c c' : Settings} (h : LimitsSound c) (hc : limitsOf c' = limitsOf c) : LimitsSound c' := by
  simp only [limitsOf, Prod.mk.injEq] at hc
  obtain ⟨hidle, hmax, hrise, hretreat, hroll, htrim⟩ := hc
  exact
    { idleLow := hidle ▸ h.idleLow, idleHigh := hidle ▸ h.idleHigh, maxLow := hmax ▸ h.maxLow, maxHigh := hmax ▸ h.maxHigh
      rise := hrise ▸ h.rise, retreat := hretreat ▸ h.retreat, roll := by rw [hidle, hroll]; exact h.roll
      trimRange := htrim ▸ h.trimRange }

/-- The factory defaults keep the limits (R47, R78, R102, R158). -/
theorem factorySettings_limits : LimitsSound factorySettings := by constructor <;> decide

/-! ### Writers -/

/-- A writer that keeps the limits. -/
def KeepsLimits (w : Writer) : Prop := ∀ bs c c', w bs c = some c' → LimitsSound c → LimitsSound c'

/-- A number limited to a range lies in it. -/
theorem clampInt_mem {lo hi : Int} (h : lo ≤ hi) (x : Int) : lo ≤ clampInt lo hi x ∧ clampInt lo hi x ≤ hi := by
  unfold clampInt
  omega

/-- A number limited to a range lies in it. -/
theorem clampNat_mem {lo hi : Nat} (h : lo ≤ hi) (x : Nat) : lo ≤ clampNat lo hi x ∧ clampNat lo hi x ≤ hi := by
  unfold clampNat
  omega

/-- What a numeric writer takes: the number limited to its range (R3). -/
theorem numeric_some {w lo hi : Nat} {f : Nat → Settings → Settings} {bs : List Byte} {c c' : Settings}
    (h : numeric w lo hi f bs c = some c') : c' = f (clampNat lo hi (leNat bs)) c := by
  unfold numeric at h
  split at h
  · exact (Option.some.inj h).symm
  · cases h

/-- What a signed numeric writer takes: the number limited to its range (R3). -/
theorem signedNumeric_some {w : Nat} {lo hi : Int} {f : Int → Settings → Settings} {bs : List Byte} {c c' : Settings}
    (h : signedNumeric w lo hi f bs c = some c') : c' = f (clampInt lo hi (leInt bs)) c := by
  unfold signedNumeric at h
  split at h
  · exact (Option.some.inj h).symm
  · cases h

section
variable {f : Nat → Settings → Settings} {fi : Int → Settings → Settings}

/-- A number limited to its range, in a setting that the limits are not about. -/
theorem numeric_leaves {w lo hi : Nat} (hf : ∀ v c, limitsOf (f v c) = limitsOf c := by intros; rfl) :
    KeepsLimits (numeric w lo hi f) := by
  intro bs c c' h hc
  rw [numeric_some h]
  exact hc.congr (hf _ c)

/-- A signed number limited to its range, in a setting that the limits are not about. -/
theorem signedNumeric_leaves {w : Nat} {lo hi : Int} (hf : ∀ v c, limitsOf (fi v c) = limitsOf c := by intros; rfl) :
    KeepsLimits (signedNumeric w lo hi fi) := by
  intro bs c c' h hc
  rw [signedNumeric_some h]
  exact hc.congr (hf _ c)

/-- A structural number, in a setting that the limits are not about. -/
theorem structural_leaves {w lo hi : Nat} (hf : ∀ v c, limitsOf (f v c) = limitsOf c := by intros; rfl) :
    KeepsLimits (structural w lo hi f) := by
  intro bs c c' h hc
  unfold structural at h
  split at h
  · cases h; exact hc.congr (hf _ c)
  · cases h

/-- A structural signed number, in a setting that the limits are not about. -/
theorem structuralSigned_leaves (hf : ∀ v c, limitsOf (fi v c) = limitsOf c := by intros; rfl) : KeepsLimits (structuralSigned fi) := by
  intro bs c c' h hc
  unfold structuralSigned at h
  split at h
  · cases h; exact hc.congr (hf _ c)
  · cases h

/-- A value of a list, in a setting that the limits are not about. -/
theorem named_leaves {α : Type} {values : List α} {f : α → Settings → Settings}
    (hf : ∀ v c, limitsOf (f v c) = limitsOf c := by intros; rfl) : KeepsLimits (named values f) := by
  intro bs c c' h hc
  unfold named at h
  split at h
  · obtain ⟨v, -, rfl⟩ := Option.map_eq_some_iff.mp h
    exact hc.congr (hf v c)
  · cases h

end

/-- idle_rpm stays in its range, and 100 below roll_rpm_max (R78). -/
theorem idleWriter_keepsLimits : KeepsLimits idleWriter := by
  intro bs c c' h hc
  have hlow := hc.idleLow
  have hroll := hc.roll
  obtain ⟨hv1, hv2⟩ := clampNat_mem (lo := 500) (hi := min 1000 (c.lock.rollRpmMax - 100).toNat) (by omega) (leNat bs)
  rw [numeric_some h]
  exact { hc with
    idleLow := by simp only [setGov]; omega
    idleHigh := by simp only [setGov]; omega
    roll := by simp only [setGov]; omega }

/-- gov_max stays in its range (R78). -/
theorem govMaxWriter_keepsLimits :
    KeepsLimits (numeric 2 1200 2600 fun v => setGov fun g => { g with govMax := v }) := by
  intro bs c c' h hc
  obtain ⟨hv1, hv2⟩ := clampNat_mem (lo := 1200) (hi := 2600) (by omega) (leNat bs)
  rw [numeric_some h]
  exact { hc with maxLow := by simp only [setGov]; omega, maxHigh := by simp only [setGov]; omega }

/-- rise_limit stays in its range (R78). -/
theorem riseWriter_keepsLimits :
    KeepsLimits (numeric 1 5 200 fun v => setGov fun g => { g with riseLimit := v }) := by
  intro bs c c' h hc
  obtain ⟨hv1, hv2⟩ := clampNat_mem (lo := 5) (hi := 200) (by omega) (leNat bs)
  rw [numeric_some h]
  exact { hc with rise := by simp only [setGov]; omega }

/-- The retreat step stays in its range (R102). -/
theorem retreatWriter_keepsLimits :
    KeepsLimits (numeric 1 5 200 fun v => setProt fun p => { p with retreatStep := v }) := by
  intro bs c c' h hc
  obtain ⟨hv1, hv2⟩ := clampNat_mem (lo := 5) (hi := 200) (by omega) (leNat bs)
  rw [numeric_some h]
  exact { hc with retreat := by simp only [setProt]; omega }

/-- roll_rpm_max stays in its range, and 100 above idle_rpm (R158). -/
theorem rollRpmWriter_keepsLimits : KeepsLimits rollRpmWriter := by
  intro bs c c' h hc
  have hhigh := hc.idleHigh
  obtain ⟨hv1, hv2⟩ := clampNat_mem (lo := max 600 (c.gov.idleRpm + 100).toNat) (hi := 2600) (by omega) (leNat bs)
  rw [numeric_some h]
  exact { hc with roll := by simp only [setLock]; omega }

/-- The trim stays in its range (R47). -/
theorem trimWriter_keepsLimits : KeepsLimits (signedNumeric 2 (-400) 400 fun v c => { c with trim := v }) := by
  intro bs c c' h hc
  obtain ⟨hv1, hv2⟩ := clampInt_mem (lo := -400) (hi := 400) (by omega) (leInt bs)
  rw [signedNumeric_some h]
  exact { hc with trimRange := ⟨hv1, hv2⟩ }

/-! ### The writers of the objects -/

/-- The bound quantity of a receive slot (R26). -/
theorem boundWriter_keepsLimits (i : Fin 16) : KeepsLimits (boundWriter i) := by
  intro bs c c' h hc
  unfold boundWriter at h
  split at h
  · cases h; exact hc.congr rfl
  · split at h
    · cases h; exact hc.congr rfl
    · cases h
  · cases h

/-- The bit rate of the port (R25). -/
theorem busRateWriter_keepsLimits : KeepsLimits busRateWriter := by
  intro bs c c' h hc
  unfold busRateWriter at h
  split at h
  · cases h; exact hc.congr rfl
  · cases h

/-- The bit rate of the link (R165). -/
theorem lineRateWriter_keepsLimits : KeepsLimits lineRateWriter := by
  intro bs c c' h hc
  unfold lineRateWriter at h
  split at h
  · cases h; exact hc.congr rfl
  · cases h

/-- A strapping table (R122). -/
theorem strapWriters_keepLimits (t : TankId) : ∀ p ∈ strapWriters t, KeepsLimits p.2 := by
  intro p hp bs c c' h hc
  cases List.mem_singleton.mp hp
  dsimp only at h
  split at h
  · cases h
  · split at h
    · cases h; exact hc.congr rfl
    · cases h

/-- The action set of a condition (R149). -/
theorem conditionWriters_keepLimits (i : Fin 11) : ∀ p ∈ conditionWriters i, KeepsLimits p.2 := by
  intro p hp bs c c' h hc
  cases List.mem_singleton.mp hp
  dsimp only at h
  split at h
  · cases h
  · split at h
    · cases h; exact hc.congr rfl
    · cases h

/-- The settings of a channel (R5, R16, R17). -/
theorem channelWriters_keepLimits (i : Fin 23) : ∀ p ∈ channelWriters i, KeepsLimits p.2 := by
  unfold channelWriters
  split
  · simp only [analogWriters, List.forall_mem_cons]
    exact ⟨named_leaves, structural_leaves, structural_leaves, structuralSigned_leaves, structuralSigned_leaves,
      structural_leaves, structural_leaves, numeric_leaves, named_leaves, numeric_leaves, numeric_leaves,
      numeric_leaves, nofun⟩
  · unfold pulseWriters
    split <;> simp only [List.forall_mem_cons] <;> exact ⟨structural_leaves, nofun⟩
  · exact List.forall_mem_singleton.mpr named_leaves

/-- The settings of a receive slot (R26). -/
theorem rxWriters_keepLimits (i : Fin 16) : ∀ p ∈ rxWriters i, KeepsLimits p.2 := by
  simp only [rxWriters, List.forall_mem_cons]
  exact ⟨named_leaves, structural_leaves, structural_leaves, named_leaves, boundWriter_keepsLimits i, structural_leaves,
    structural_leaves, named_leaves, named_leaves, structural_leaves, structural_leaves, structuralSigned_leaves,
    numeric_leaves, numeric_leaves, named_leaves, nofun⟩

/-- The settings of a transmit slot (R35). -/
theorem txWriters_keepLimits (i : Fin 4) : ∀ p ∈ txWriters i, KeepsLimits p.2 := by
  simp only [txWriters, List.forall_mem_cons]
  exact ⟨structural_leaves, named_leaves, named_leaves, nofun⟩

/-- The settings of the port (R25). -/
theorem chassisWriters_keepLimits : ∀ p ∈ chassisWriters, KeepsLimits p.2 := by
  simp only [chassisWriters, List.forall_mem_cons]
  exact ⟨busRateWriter_keepsLimits, named_leaves, named_leaves, numeric_leaves, nofun⟩

/-- The settings of the drives (R56). -/
theorem driveWriters_keepLimits : ∀ p ∈ driveWriters, KeepsLimits p.2 := by
  simp only [driveWriters, List.forall_mem_cons]
  exact ⟨numeric_leaves, numeric_leaves, numeric_leaves, numeric_leaves, numeric_leaves, nofun⟩

/-- The settings of the governor (R78). -/
theorem governorWriters_keepLimits : ∀ p ∈ governorWriters, KeepsLimits p.2 := by
  simp only [governorWriters, List.forall_mem_cons]
  exact ⟨signedNumeric_leaves, signedNumeric_leaves, idleWriter_keepsLimits, govMaxWriter_keepsLimits, numeric_leaves,
    numeric_leaves, numeric_leaves, riseWriter_keepsLimits, numeric_leaves, numeric_leaves, numeric_leaves,
    numeric_leaves, signedNumeric_leaves, signedNumeric_leaves, nofun⟩

/-- The settings of the protection monitor (R101, R102). -/
theorem protectionWriters_keepLimits : ∀ p ∈ protectionWriters, KeepsLimits p.2 := by
  have enabled (i : Fin 5) : KeepsLimits (enabledWriter i) := named_leaves
  have resumeMode : KeepsLimits resumeModeWriter := named_leaves
  simp only [protectionWriters, List.forall_mem_cons]
  exact ⟨enabled 0, enabled 1, enabled 2, enabled 3, enabled 4, resumeMode, signedNumeric_leaves, numeric_leaves,
    numeric_leaves, numeric_leaves, signedNumeric_leaves, numeric_leaves, retreatWriter_keepsLimits, numeric_leaves,
    resumeMode, enabled 0, enabled 1, enabled 2, enabled 3, enabled 4, nofun⟩

/-- The settings that every tank has (R121). -/
theorem tankWriters_keepLimits (n : Nat) (t : TankId) : ∀ p ∈ tankWriters n t, KeepsLimits p.2 := by
  simp only [tankWriters, List.forall_mem_cons]
  exact ⟨numeric_leaves, numeric_leaves, numeric_leaves, nofun⟩

/-- The settings of a tank (R121). -/
theorem tankObjectWriters_keepLimits (t : TankId) : ∀ p ∈ tankObjectWriters t, KeepsLimits p.2 := by
  cases t with
  | water =>
    simp only [tankObjectWriters, waterWriters, List.forall_mem_append, List.forall_mem_cons]
    exact ⟨⟨⟨numeric_leaves, numeric_leaves, numeric_leaves, nofun⟩, tankWriters_keepLimits 34 .water⟩, numeric_leaves,
      numeric_leaves, nofun⟩
  | foamA =>
    simp only [tankObjectWriters, List.forall_mem_append, List.forall_mem_cons]
    exact ⟨tankWriters_keepLimits 19 .foamA, numeric_leaves, nofun⟩
  | foamB =>
    simp only [tankObjectWriters, List.forall_mem_append, List.forall_mem_cons]
    exact ⟨tankWriters_keepLimits 19 .foamB, numeric_leaves, nofun⟩

/-- The settings that every action has (R150). -/
theorem actionWriters_keepLimits (n : Nat) (a : ActionId) : ∀ p ∈ actionWriters n a, KeepsLimits p.2 := by
  simp only [actionWriters, List.forall_mem_cons]
  cases a <;> exact ⟨numeric_leaves, named_leaves, nofun⟩

/-- The settings of an action (R150, R158, R161, R162). -/
theorem actionObjectWriters_keepLimits (a : ActionId) : ∀ p ∈ actionObjectWriters a, KeepsLimits p.2 := by
  cases a with
  | inhibit => exact actionWriters_keepLimits 6 .inhibit
  | rollLimit =>
    simp only [actionObjectWriters, List.forall_mem_append, List.forall_mem_cons]
    exact ⟨actionWriters_keepLimits 7 .rollLimit, numeric_leaves, rollRpmWriter_keepsLimits, numeric_leaves, named_leaves,
      nofun⟩
  | idleCap => exact actionWriters_keepLimits 5 .idleCap

/-- The settings of the link (R165, R177). -/
theorem linkWriters_keepLimits : ∀ p ∈ linkWriters, KeepsLimits p.2 := by
  simp only [linkWriters, List.forall_mem_cons]
  exact ⟨lineRateWriter_keepsLimits, named_leaves, numeric_leaves, nofun⟩

/-- Every writer keeps the limits. -/
theorem writersOf_keepLimits (o : Obj) : ∀ p ∈ writersOf o, KeepsLimits p.2 := by
  cases o with
  | channel i => exact channelWriters_keepLimits i
  | rxSlot i => exact rxWriters_keepLimits i
  | txSlot i => exact txWriters_keepLimits i
  | drive d => exact driveWriters_keepLimits
  | governor => exact governorWriters_keepLimits
  | protection => exact protectionWriters_keepLimits
  | tank t => exact tankObjectWriters_keepLimits t
  | strap t => exact strapWriters_keepLimits t
  | condition i => exact conditionWriters_keepLimits i
  | action a => exact actionObjectWriters_keepLimits a
  | timebase => exact List.forall_mem_singleton.mpr trimWriter_keepsLimits
  | link => exact linkWriters_keepLimits
  | chassis => exact chassisWriters_keepLimits
  | power =>
    simp only [writersOf, List.forall_mem_cons]
    exact ⟨numeric_leaves, nofun⟩
  | quantity q => exact nofun
  | meters => exact nofun
  | identity => exact nofun

/-! ### A SET -/

/-- An entry taken keeps the limits. -/
theorem writeEntry_limits {o : Obj} {e : FieldEntry} {c c' : Settings} (h : writeEntry o e c = some c')
    (hc : LimitsSound c) : LimitsSound c' := by
  unfold writeEntry at h
  split at h
  · cases h
  · next w hw =>
    obtain ⟨before, after, hl, -⟩ := List.lookup_eq_some_iff.mp hw
    exact writersOf_keepLimits o (e.field.toNat, w) (by rw [hl]; simp) _ _ _ h hc

/-- The entries of a SET keep the limits. -/
theorem writeEntries_limits {o : Obj} {es : List FieldEntry} {c c' : Settings} (h : writeEntries o es c = some c')
    (hc : LimitsSound c) : LimitsSound c' := by
  induction es generalizing c with
  | nil => cases h; exact hc
  | cons e es ih =>
    unfold writeEntries at h
    split at h
    · cases h
    · next c₁ h₁ => exact ih h (writeEntry_limits h₁ hc)

/-- The settings that a SET asks for keep the limits (R173). -/
theorem newSettings_limits {o : Obj} {es : List FieldEntry} {c c' : Settings} (h : newSettings o es c = some c')
    (hc : LimitsSound c) : LimitsSound c' := by
  unfold newSettings at h
  split at h
  · split at h
    · cases h
    · next c₁ h₁ =>
      split at h
      · cases h; exact (writeEntries_limits h₁ hc).congr rfl
      · cases h
  · cases h

end Sys2Proof.Machine
end

section
/-! SUPPORT. The protection ceiling's range (R112 to R117), what each command does of itself to the settings and the ceiling, and
O9. -/

namespace Sys2Proof.Machine

/-! ### The ceiling -/

/-- A speed from idle_rpm to gov_max. -/
def InRange (g : GovSettings) (v : Int) : Prop := g.idleRpm ≤ v ∧ v ≤ g.govMax

/-- A ceiling that starts to fall takes the value given (R113). -/
theorem startFalling_value (now : Uptime) (idle v : Int) (x : Ceiling) : (startFalling now idle v x).value = v := by
  unfold startFalling
  split <;> rfl

section
variable {c : Settings} (hc : LimitsSound c) {now : Uptime} {x : Ceiling} (hx : InRange c.gov x.value)
include hc hx

/-- A ceiling raised stays in its range (R114). -/
theorem raiseCeiling_inRange : InRange c.gov (raiseCeiling c.gov now x).1.value := by
  have hv : (raiseCeiling c.gov now x).1.value = min c.gov.govMax (x.value + c.gov.riseLimit) := by
    unfold raiseCeiling
    dsimp only
    split <;> rfl
  have hidle := hc.idleHigh
  have hmax := hc.maxLow
  have hrise := hc.rise
  obtain ⟨hlow, hhigh⟩ := hx
  rw [hv]
  constructor <;> omega

/-- A ceiling with a condition ACTIVE stays in its range (R113). -/
theorem ceilingUnder_inRange (r : Int) : InRange c.gov (ceilingUnder c now r x).value := by
  have hidle := hc.idleHigh
  have hmax := hc.maxLow
  have hretreat := hc.retreat
  obtain ⟨hlow, hhigh⟩ := hx
  unfold ceilingUnder
  split
  · rw [startFalling_value]; constructor <;> omega
  · rw [startFalling_value]; exact ⟨hlow, hhigh⟩
  · rw [startFalling_value]; exact ⟨hlow, hhigh⟩
  · rw [startFalling_value]; exact ⟨hlow, hhigh⟩
  · rw [startFalling_value]; constructor <;> omega
  · exact ⟨hlow, hhigh⟩

/-- A ceiling with no condition ACTIVE stays in its range (R112, R114). -/
theorem ceilingClear_inRange : InRange c.gov (ceilingClear c now x).1.value := by
  have hraised := raiseCeiling_inRange hc (now := now) hx
  have hidle := hc.idleHigh
  have hmax := hc.maxLow
  unfold ceilingClear
  split
  · exact ⟨by dsimp only; omega, le_refl _⟩
  · exact hx
  · split <;> exact hx
  · split <;> exact hx
  · split
    · exact hx
    · split
      · exact hraised
      · exact hx
  · exact hraised

/-- The ceiling's part of a protection step keeps it in its range (R112). -/
theorem stepCeiling_inRange (active : Bool) (r : Int) : InRange c.gov (stepCeiling c now active r x).1.value := by
  unfold stepCeiling
  split
  · exact ceilingUnder_inRange hc hx r
  · exact ceilingClear_inRange hc hx

/-- A change of gov_max and idle_rpm takes the ceiling into its new range (R117). -/
theorem retunedCeiling_inRange {new : Settings} (hn : LimitsSound new) (active : Bool) : InRange new.gov
    (followIdle now c.gov.idleRpm new.gov.idleRpm (followGovMax c.gov.govMax new.gov.govMax active x)).value := by
  have hidle := hc.idleHigh
  have hmax := hn.maxLow
  have hnew := hn.idleHigh
  obtain ⟨hlow, hhigh⟩ := hx
  have hx' : (followGovMax c.gov.govMax new.gov.govMax active x).value ≤ new.gov.govMax ∧
      c.gov.idleRpm ≤ (followGovMax c.gov.govMax new.gov.govMax active x).value := by
    unfold followGovMax
    split
    · dsimp only; omega
    · split
      · dsimp only; omega
      · exact ⟨by omega, hlow⟩
  generalize followGovMax c.gov.govMax new.gov.govMax active x = y at hx'
  obtain ⟨hhigh', hlow'⟩ := hx'
  unfold followIdle
  split
  · next hf => exact ⟨by dsimp only [ceilingTo]; omega, hhigh'⟩
  · split
    · exact ⟨le_refl _, by dsimp only; omega⟩
    · exact ⟨by omega, hhigh'⟩

end

/-! ### What keeps the limits and the range -/

/-- The settings keep their limits, and the ceiling its range. -/
def Bounded (s : State) : Prop := SettingsSound s ∧ CeilingSound s

/-- What that rests on. -/
def boundsOf (s : State) : (Int × Int × Int × Int × Int × Int) × (Int × Int × Int × Int × Int × Int) × Int :=
  (limitsOf s.settings, limitsOf s.nv.stored, s.prot.ceiling.value)

/-- States that agree in what the limits and the range rest on. -/
theorem Bounded.congr {s u : State} (h : Bounded s) (hu : boundsOf u = boundsOf s) : Bounded u := by
  obtain ⟨⟨hlimits, hstored⟩, hlow, hhigh⟩ := h
  obtain ⟨hs, hrest⟩ := Prod.mk.inj hu
  obtain ⟨hn, hc⟩ := Prod.mk.inj hrest
  obtain ⟨hidle, hmax⟩ := Prod.mk.inj hs
  refine ⟨⟨hlimits.congr hs, hstored.congr hn⟩, ?_, ?_⟩
  · rw [hc, hidle]; exact hlow
  · rw [hc, (Prod.mk.inj hmax).1]; exact hhigh

/-- The reactions to an event leave what the limits and the range rest on. -/
theorem ReactedBy.bounds {n : Nat} {u t : State} (h : ReactedBy n u t) : boundsOf t = boundsOf u := by
  unfold boundsOf
  rw [h.settings, h.memory, h.monitor]

/-- An effect on the part that keeps the limits and the range. -/
def KeepsBounds (f : State → State) : Prop := ∀ s, Bounded s → Bounded (f s)

/-- An effect that leaves what the limits and the range rest on. -/
theorem KeepsBounds.of_same {f : State → State} (h : ∀ s, boundsOf (f s) = boundsOf s) : KeepsBounds f :=
  fun s hs => hs.congr (h s)

/-- A guarded effect keeps them if the effect does. -/
theorem KeepsBounds.guard {c : State → Prop} [∀ s, Decidable (c s)] {f : State → State} (h : KeepsBounds f) :
    KeepsBounds (fun s => if c s then f s else s) := by
  intro s hs
  dsimp only
  split
  · exact h s hs
  · exact hs

/-- An event keeps them if its own effect does. -/
theorem KeepsBounds.event {f : State → State} (h : KeepsBounds f) : KeepsBounds (event f) := fun s hs =>
  (KeepsBounds.guard h (c := fun s => s.powered = true) s hs).congr (event_reacted_any f s).bounds

/-- An event of a working part keeps them if its own effect does. -/
theorem KeepsBounds.workingEvent {f : State → State} (h : KeepsBounds f) : KeepsBounds (workingEvent f) :=
  KeepsBounds.event (KeepsBounds.guard h)

/-! ### Requests -/

/-- New working settings that keep the limits (R117). -/
theorem applySettings_bounded {new : Settings} {s : State} (hs : Bounded s) (hn : LimitsSound new) :
    Bounded (applySettings new s) := by
  obtain ⟨⟨hlimits, hstored⟩, hceiling⟩ := hs
  exact ⟨⟨hn, hstored⟩, retunedCeiling_inRange hlimits hceiling hn _⟩

/-- A SET (R173). -/
theorem handleSet_bounded (o i : Byte) (es : List FieldEntry) {s : State} (hs : Bounded s) :
    Bounded (handleSet o i es s).state := by
  unfold handleSet
  split
  · exact hs
  · split
    · exact hs
    · split
      · exact hs
      · next new hnew =>
        split
        · exact hs
        · split
          · exact hs
          · exact applySettings_bounded hs (newSettings_limits hnew hs.1.1)

/-- A RECALL (R187). -/
theorem handleRecall_bounded {s : State} (hs : Bounded s) : Bounded (handleRecall s).state := by
  unfold handleRecall
  split
  · exact hs
  · split
    · exact hs
    · split
      · exact hs
      · exact applySettings_bounded hs hs.1.2

/-- A STORE that begins puts the working settings in the stored copy (R186). -/
theorem beginStore_bounded {s : State} (hs : Bounded s) : Bounded (beginStore s) := ⟨⟨hs.1.1, hs.1.1⟩, hs.2⟩

/-- A STORE (R186). -/
theorem handleStore_bounded (tag : Byte) {s : State} (hs : Bounded s) : Bounded (handleStore tag s).state := by
  unfold handleStore takeStore
  dsimp only
  split
  · exact beginStore_bounded (hs.congr rfl)
  · exact hs.congr rfl

/-- A RESUME leaves the ceiling's value (R116). -/
theorem handleResume_bounds (s : State) : boundsOf (handleResume s).state = boundsOf s := by
  have hv : (if resumePart s = .accepted then resumeCeiling s.time.uptime s.prot.ceiling else s.prot.ceiling).value =
      s.prot.ceiling.value := by
    split <;> rfl
  exact congrArg (fun v => (limitsOf s.settings, limitsOf s.nv.stored, v)) hv

/-- The requests but SET, RECALL and STORE leave what the limits and the range rest on. -/
theorem Handled.bounds_or {s : State} {a : Answer} (h : Handled s a) :
    boundsOf a.state = boundsOf s ∨ (∃ o i es, a = handleSet o i es s) ∨ a = handleRecall s ∨
    ∃ tag, a = handleStore tag s := by
  cases h with
  | set o i es => exact .inr (.inl ⟨o, i, es, rfl⟩)
  | recallStored => exact .inr (.inr (.inl rfl))
  | store tag => exact .inr (.inr (.inr ⟨tag, rfl⟩))
  | govern m v =>
    refine .inl ?_
    unfold handleGovern handleGovernPressure handleGovernSpeed
    split
    · split <;> rfl
    · split
      · split <;> rfl
      · rfl
  | resume => exact .inl (handleResume_bounds s)
  | plain | identify | snapshot | fillStop | reportRate => exact .inl rfl
  | read o i => refine .inl ?_; unfold handleRead; split <;> rfl
  | recover => refine .inl ?_; unfold handleRecover; split <;> rfl
  | engage d => refine .inl ?_; unfold handleEngage; split <;> rfl
  | disengage d => refine .inl ?_; unfold handleDisengage; split <;> rfl
  | faultClear d => refine .inl ?_; unfold handleFaultClear; split <;> rfl
  | pumpIdle => refine .inl ?_; unfold handlePumpIdle; split <;> rfl
  | release a => refine .inl ?_; unfold handleRelease; split <;> rfl
  | force v =>
    refine .inl ?_
    unfold handleForce
    split
    · rfl
    · split <;> rfl
  | fillStart v => refine .inl ?_; unfold handleFillStart; split <;> rfl
  | foam sel ratio =>
    refine .inl ?_
    unfold handleFoam selectFoam
    split
    · rfl
    · split
      · rfl
      · split
        · rfl
        · split <;> rfl
  | monitor add o i =>
    refine .inl ?_
    unfold handleMonitor addMonitor
    split
    · rfl
    · rfl
    · split
      · split
        · rfl
        · split <;> rfl
      · rfl
  | restart => refine .inl ?_; unfold handleRestart; split <;> rfl

/-- Every request keeps the limits and the range. -/
theorem Handled.bounded {s : State} {a : Answer} (h : Handled s a) (hs : Bounded s) : Bounded a.state := by
  rcases h.bounds_or with h | ⟨o, i, es, rfl⟩ | rfl | ⟨tag, rfl⟩
  · exact hs.congr h
  · exact handleSet_bounded o i es hs
  · exact handleRecall_bounded hs
  · exact handleStore_bounded tag hs

/-- A frame taken for execution leaves what the limits and the range rest on. -/
theorem takeRequest_bounds (s : State) : boundsOf (takeRequest s) = boundsOf s := by
  unfold takeRequest
  split <;> rfl

/-- A reply delivered leaves what the limits and the range rest on. -/
theorem deliver_bounds (tag : Byte) (a : Answer) : boundsOf (deliver tag a) = boundsOf a.state := by
  unfold deliver
  split <;> rfl

/-- A request's row keeps them. -/
theorem request_keepsBounds {g : State → Answer} (hg : ∀ s, Handled s (g s)) (f : HostFrame) :
    KeepsBounds (request f g) :=
  KeepsBounds.workingEvent <| KeepsBounds.guard fun s hs =>
    ((hg (takeRequest s)).bounded (hs.congr (takeRequest_bounds s))).congr (deliver_bounds f.tag _)

/-- The execution of the awaiting frame keeps them. -/
theorem executeAwaiting_keepsBounds : KeepsBounds executeAwaiting := by
  intro s hs
  unfold executeAwaiting
  split
  · exact hs
  · next f _ =>
    split
    · let taken : State := { s with link := { s.link with awaiting := none } }
      have htaken : Bounded taken := hs.congr rfl
      exact ((judgeFrame_handled f taken).bounded htaken).congr (deliver_bounds f.tag _)
    · exact hs

/-! ### The commands -/

/-- A protection step keeps the ceiling in its range (R112). -/
theorem protectionStep_keepsBounds : KeepsBounds fun s => putProtection (protectionStep s) s := fun _ hs =>
  ⟨hs.1, stepCeiling_inRange hs.1.1 hs.2 _ _⟩

/-- A sample of a discrete leaves what the limits and the range rest on. -/
theorem takeDiscrete_bounds (ch : Fin 10) (b : Bool) (s : State) : boundsOf (takeDiscrete ch b s) = boundsOf s := by
  unfold takeDiscrete handDiscrete
  dsimp only
  split
  · rfl
  · rfl
  · rfl
  · rfl
  · split
    · rfl
    · split <;> rfl

/-- A byte received leaves them. -/
theorem receiveByte_bounds (b : Byte) (s : State) : boundsOf (receiveByte b s) = boundsOf s := by
  unfold receiveByte completeFrame
  dsimp only
  split
  · split <;> rfl
  · split
    · rfl
    · split
      · split <;> rfl
      · rfl

/-- A frame of another node leaves them. -/
theorem receiveFrame_bounds (f : BusFrame) (s : State) : boundsOf (receiveFrame f s) = boundsOf s := by
  unfold receiveFrame
  split <;> rfl

/-- The end of a sending attempt leaves them if what it does to the slot does. -/
theorem endAttempt_bounds {f : Fin 4 → State → State} (h : ∀ i s, boundsOf (f i s) = boundsOf s) (s : State) :
    boundsOf (endAttempt f s) = boundsOf s := by
  unfold endAttempt
  split
  · rfl
  · exact h _ s

/-- A lost arbitration leaves them. -/
theorem loseArbitration_bounds (winner : Option BusFrame) (i : Fin 4) (s : State) :
    boundsOf (loseArbitration winner i s) = boundsOf s := by
  unfold loseArbitration
  split
  · rfl
  · split
    · exact receiveFrame_bounds _ _
    · rfl

/-- The end of a STORE's write leaves them. -/
theorem finishStore_bounds (s : State) : boundsOf (finishStore s) = boundsOf s := by
  unfold finishStore answerStore
  split
  · dsimp only; split <;> rfl
  · rfl

/-- The end of a frame on the line leaves them. -/
theorem endFrame_bounds (s : State) : boundsOf (endFrame s) = boundsOf s := by
  unfold endFrame
  split
  · rfl
  · dsimp only
    split
    · split <;> rfl
    · rfl
    · rfl

section
variable {c : Instr} {s t : State} (h : exec c s = .next t) (hs : Bounded s)
include h hs

/-- A command that is an event. -/
theorem event_bounded {f : State → State} (hc : exec c s = .next (event f s)) (hf : KeepsBounds f) : Bounded t := by
  cases Host.Outcome.next.inj (h.symm.trans hc)
  exact hf.event s hs

/-- A command that is an event of a working part. -/
theorem workingEvent_bounded {f : State → State} (hc : exec c s = .next (workingEvent f s)) (hf : KeepsBounds f) :
    Bounded t := by
  cases Host.Outcome.next.inj (h.symm.trans hc)
  exact hf.workingEvent s hs

/-- A command that is a request's row. -/
theorem request_bounded {f : HostFrame} {g : State → Answer} (hc : exec c s = .next (request f g s))
    (hg : ∀ s, Handled s (g s)) : Bounded t := by
  cases Host.Outcome.next.inj (h.symm.trans hc)
  exact request_keepsBounds hg f s hs

/-- Every command that is no starting point and leaves the supply keeps the limits and the range. -/
theorem exec_bounded_of_event (hc : mayStart c = false) : Bounded t := by
  have same {f : State → State} (hf : ∀ s, boundsOf (f s) = boundsOf s) : KeepsBounds f := .of_same hf
  match c with
  | .powerOn | .meterWriteComplete | .settlingEnd | .lossOfSupply => cases hc
  | .millisecondEnd => exact event_bounded h hs rfl (same fun _ => rfl)
  | .meterWriteStart | .analogSample _ _ | .holdExpiry _ | .burstTimerExpiry | .burstEvent | .restartProceed =>
    exact event_bounded h hs rfl (.guard (same fun _ => rfl))
  | .discreteSample ch b => exact event_bounded h hs rfl (.guard (same (takeDiscrete_bounds ch b)))
  | .lineBreak => exact event_bounded h hs rfl (same fun s => by split <;> rfl)
  | .storeComplete => exact event_bounded h hs rfl (.guard (same finishStore_bounds))
  | .txFrameEnd => exact event_bounded h hs rfl (same endFrame_bounds)
  | .pulseInterval _ _ | .agreementExpiry | .receiveError | .ageExpiry _ | .recoveryComplete | .busJoin | .t0Period
  | .t1Period | .t2Period | .requestRecheck _ | .requestWindowExpiry _ | .shiftTimeout _ | .settleExpiry _
  | .windDownRecheck _ | .windDownNoticeExpiry _ | .releaseTimeout _ | .uncommandedExpiry _ | .governorStep
  | .governorHoldExpiry | .stopTimerExpiry | .gaugeEvent | .fillTimeout | .holdOffExpiry _
  | .characterError _ | .interByteTimeout | .spacingExpiry _ | .statusPeriod | .silenceExpiry | .rundownTimeout =>
    exact workingEvent_bounded h hs rfl (.guard (same fun _ => rfl))
  | .qualificationExpiry =>
    refine workingEvent_bounded h hs rfl (.guard (same fun s => ?_))
    unfold expireQualification
    dsimp only
    split <;> rfl
  | .recessiveRun => exact workingEvent_bounded h hs rfl (same fun _ => rfl)
  | .protectionStep | .resumeTimerExpiry => exact workingEvent_bounded h hs rfl (.guard protectionStep_keepsBounds)
  | .rxDataFrame _ _ | .rxRemoteFrame _ => exact workingEvent_bounded h hs rfl (.guard (same (receiveFrame_bounds _)))
  | .transmitOffer =>
    exact workingEvent_bounded h hs rfl (.guard (same fun s => by unfold offerFrame; split <;> rfl))
  | .frameSent | .transmitError =>
    exact workingEvent_bounded h hs rfl (.guard (same (endAttempt_bounds fun _ _ => rfl)))
  | .lostArbitration winner =>
    exact workingEvent_bounded h hs rfl (.guard (same (endAttempt_bounds (loseArbitration_bounds winner))))
  | .overspeedExpiry =>
    exact workingEvent_bounded h hs rfl (.guard (same fun s => by unfold tripOverspeed; dsimp only; split <;> rfl))
  | .frameReceived f =>
    exact workingEvent_bounded h hs rfl (.guard (same fun s => by unfold completeFrame; split <;> rfl))
  | .receivedByte b => exact workingEvent_bounded h hs rfl (same (receiveByte_bounds b))
  | .executionStart => exact workingEvent_bounded h hs rfl executeAwaiting_keepsBounds
  | .txFrameStart =>
    refine workingEvent_bounded h hs rfl (.guard (same fun s => ?_))
    split
    · rfl
    · next c _ => cases c <;> rfl
  | .chassisRecover _ => exact request_bounded h hs rfl fun _ => .recover
  | .ptoEngage _ d => exact request_bounded h hs rfl fun _ => .engage d
  | .ptoDisengage _ d => exact request_bounded h hs rfl fun _ => .disengage d
  | .faultClear _ d => exact request_bounded h hs rfl fun _ => .faultClear d
  | .govern _ m v => exact request_bounded h hs rfl fun _ => .govern m v
  | .pumpIdle _ => exact request_bounded h hs rfl fun _ => .pumpIdle
  | .resume _ => exact request_bounded h hs rfl fun _ => .resume
  | .fillStart _ v => exact request_bounded h hs rfl fun _ => .fillStart v
  | .fillStop _ => exact request_bounded h hs rfl fun _ => .fillStop
  | .foam _ sel ratio => exact request_bounded h hs rfl fun _ => .foam sel ratio
  | .release _ a => exact request_bounded h hs rfl fun _ => .release a
  | .force _ v => exact request_bounded h hs rfl fun _ => .force v
  | .identify _ => exact request_bounded h hs rfl fun _ => .identify
  | .read _ o i => exact request_bounded h hs rfl fun _ => .read o i
  | .snapshot _ => exact request_bounded h hs rfl fun _ => .snapshot
  | .store tag => exact request_bounded h hs rfl fun _ => .store tag
  | .recall _ => exact request_bounded h hs rfl fun _ => .recallStored
  | .monitorAdd _ o i => exact request_bounded h hs rfl fun _ => .monitor true o i
  | .monitorRemove _ o i => exact request_bounded h hs rfl fun _ => .monitor false o i
  | .reportRate _ v => exact request_bounded h hs rfl fun _ => .reportRate v
  | .restart _ => exact request_bounded h hs rfl fun _ => .restart
  | .unknownKind tag kind =>
    cases h
    split
    · exact hs
    · exact request_keepsBounds (fun _ => .plain _) _ s hs
  | .set tag o i es =>
    cases h
    split
    · refine request_keepsBounds (fun s => ?_) _ s hs
      split
      · exact .plain _
      · exact .set o i es
    · exact hs

end

/-! ### The starting points -/

/-- The settings loaded at power-on and RESTART keep the limits (R185). -/
theorem loadedSettings_limits {n : NonVolatile} (h : LimitsSound n.stored) : LimitsSound (loadedSettings n) := by
  unfold loadedSettings
  split
  · exact h
  · exact factorySettings_limits

/-- A ceiling at a starting point is at gov_max (R118). -/
theorem bounded_of_start {s : State} (hc : LimitsSound s.settings) (hn : LimitsSound s.nv.stored)
    (hv : s.prot.ceiling.value = s.settings.gov.govMax) : Bounded s := by
  have hidle := hc.idleHigh
  have hmax := hc.maxLow
  exact ⟨⟨hc, hn⟩, by rw [hv]; omega, hv.le⟩

/-- The restart of the part (R189). -/
theorem restartPart_keepsBounds : KeepsBounds restartPart := fun _ hs =>
  bounded_of_start (loadedSettings_limits hs.1.2) hs.1.2 rfl

/-- The wake (R193). -/
theorem wakePart_keepsBounds : KeepsBounds wakePart := fun _ hs => bounded_of_start hs.1.1 hs.1.2 rfl

/-- The end of a meter write, at which a STORE may begin (R53). -/
theorem finishMeterWrite_keepsBounds (m a r : Nat) : KeepsBounds (finishMeterWrite m a r) := by
  intro s hs
  unfold finishMeterWrite
  dsimp only
  split
  · exact beginStore_bounded (hs.congr rfl)
  · exact hs.congr rfl

/-- The completion of a meter write (R53, R192). -/
theorem completeWrite_keepsBounds (m a r : Nat) (w : Bool) : KeepsBounds (completeWrite m a r w) := by
  intro s hs
  have hw := finishMeterWrite_keepsBounds m a r s hs
  unfold completeWrite watchWriteDone
  dsimp only
  split
  · split
    · split <;> exact hw.congr rfl
    · exact hw.congr rfl
    · exact hw.congr rfl
  · exact hw

/-- METER_WRITE_COMPLETE goes on, restarts the part, or waits to (R53, R189, R192). -/
theorem meterWriteComplete_bounded {s t : State} (hs : Bounded s) (h : exec .meterWriteComplete s = .next t) :
    Bounded t := by
  cases h
  split
  · next m a r w _ _ =>
    have hw := finishMeterWrite_keepsBounds m a r
    split
    · split
      · have waits : KeepsBounds fun s => awaitSettling (finishMeterWrite m a r s) := fun s hs => (hw s hs).congr rfl
        exact waits.event s hs
      · exact (restartPart_keepsBounds _ (hw s hs)).congr rfl
    · exact (completeWrite_keepsBounds m a r w).event s hs
  · exact hs

/-- Every command keeps the limits and the range. -/
theorem exec_bounded (c : Instr) (s t : State) (hs : Bounded s) (h : exec c s = .next t) : Bounded t := by
  cases hc : mayStart c
  · exact exec_bounded_of_event h hs hc
  · match c with
    | .powerOn =>
      cases h
      exact bounded_of_start (loadedSettings_limits (n := loseWrite s.nv) hs.1.2) hs.1.2 rfl
    | .lossOfSupply => cases h; exact hs.congr rfl
    | .settlingEnd =>
      cases h
      split
      · rcases settled_cases s with ⟨-, hst⟩ | ⟨-, hst⟩ <;> rw [hst]
        · exact (restartPart_keepsBounds _ (wakePart_keepsBounds s hs)).congr rfl
        · exact (wakePart_keepsBounds s hs).congr rfl
      · exact hs
    | .meterWriteComplete => exact meterWriteComplete_bounded hs h

/-- Settles O9, by the command that the step takes from the queue. -/
theorem stepKeepsCeilingBetweenIdleAndMaximum : Obligations.StepKeepsCeilingBetweenIdleAndMaximum := by
  intro s t hs hc h
  unfold step at h
  split at h
  · cases h; exact ⟨hs, hc⟩
  · exact exec_bounded _ _ t (by exact Bounded.congr ⟨hs, hc⟩ rfl) h

end Sys2Proof.Machine
end

section
/-! SUPPORT. The governor through an event that changes nothing it reads: what it takes for its reaction to leave it as it is, and
which changes of its own record leave that so (R79 to R85). -/

namespace Sys2Proof.Machine

/-! ### A governor that its reaction leaves -/

/-- What a governor's record and the part around it agree in where the reaction has nothing to do (R79 to R85). -/
structure GovernorStays (s : State) (g : Governor) : Prop where
  path : pathOf s.chassis.port g.path = g.path
  governed : governedDrive s.pto = g.governed
  windDown : ∀ d, g.windDown = some d → (s.pto.drive d).state = .windingDown ∧ (d = .aux → s.stationary = true)
  roll : g.governed = some .aux → s.stationary = false → g.mode = .roll ∨ g.mode = .off
  stop : g.mode = .roll → (g.stop ≠ none ↔ s.stationary = true)

section
variable {s : State} {g : Governor}

/-- The path stays (R85). -/
theorem followPath_of_same (h : pathOf s.chassis.port g.path = g.path) : followPath s g = (g, []) := by
  unfold followPath
  dsimp only
  rw [h, if_neg (fun hc => by rw [hc.1] at hc; exact absurd hc.2 nofun)]

/-- Wind-down IDLE goes on (R81). -/
theorem leaveWindDown_of_stays
    (h : ∀ d, g.windDown = some d → (s.pto.drive d).state = .windingDown ∧ (d = .aux → s.stationary = true)) :
    leaveWindDown s g = g := by
  unfold leaveWindDown
  split
  · rfl
  · next d hd =>
    obtain ⟨hs, ha⟩ := h d hd
    refine if_neg fun hc => hc.elim (fun hn => hn hs) fun ⟨hd, hf⟩ => ?_
    rw [ha hd] at hf
    cases hf

/-- AUX in a standing vehicle, or a governor in ROLL or OFF, brings no ROLL (R82). -/
theorem rollWithAux_of_stays (h : g.governed = some .aux → s.stationary = false → g.mode = .roll ∨ g.mode = .off) :
    rollWithAux s g = g :=
  if_neg fun ⟨ha, hs, hr, ho⟩ => (h ha hs).elim hr ho

/-- The stop timer stays where it runs or not as the vehicle has it (R83). -/
theorem watchForStop_of_stays (h : g.mode = .roll → (g.stop ≠ none ↔ s.stationary = true)) : watchForStop s g = g := by
  unfold watchForStop
  split
  · next hm =>
    split
    · next hs =>
      have := (h hm).mpr hs
      rw [if_neg (by simpa using this)]
    · next hs =>
      have hn : g.stop = none := by
        by_contra hc
        exact hs ((h hm).mp hc)
      cases g
      simp_all
  · rfl

/-- A governor that the wind-down drive, the vehicle and the stop timer leave. -/
theorem followers_of_stays
    (hw : ∀ d, g.windDown = some d → (s.pto.drive d).state = .windingDown ∧ (d = .aux → s.stationary = true))
    (hr : g.governed = some .aux → s.stationary = false → g.mode = .roll ∨ g.mode = .off)
    (hs : g.mode = .roll → (g.stop ≠ none ↔ s.stationary = true)) :
    watchForStop s (rollWithAux s (leaveWindDown s g)) = g := by
  rw [leaveWindDown_of_stays hw, rollWithAux_of_stays hr, watchForStop_of_stays hs]

end

/-- Past the throttle path, the reaction leaves such a governor. -/
theorem GovernorStays.react_of_follow {s : State} {g : Governor} {ns : List Notice} (h : GovernorStays s g)
    (hf : followPath s s.gov = (g, ns)) : governorReact s = (g, ns) := by
  unfold governorReact
  rw [hf]
  dsimp only
  rw [if_pos h.governed, followers_of_stays h.windDown h.roll h.stop]

/-- The reaction leaves such a governor. -/
theorem GovernorStays.react {s : State} (h : GovernorStays s s.gov) : governorReact s = (s.gov, []) :=
  h.react_of_follow (followPath_of_same h.path)

/-! ### The parts of the reaction, each by what it may touch -/

/-- A change of the governed drive makes the new one governed (R79). -/
theorem changeGoverned_governed (s : State) (new : Option DriveId) (g : Governor) :
    (changeGoverned s new g).governed = new := by
  unfold changeGoverned
  split
  · dsimp only; split <;> rfl
  · dsimp only; split <;> rfl
  · split <;> rfl
  · next h => exact h

/-- The end of wind-down IDLE is an entry to OFF, or none (R81). -/
theorem leaveWindDown_cases (s : State) (g : Governor) :
    (leaveWindDown s g = g ∧ ∀ d, g.windDown = some d → (s.pto.drive d).state = .windingDown ∧
      (d = .aux → s.stationary = true)) ∨
    ((∃ d, g.windDown = some d ∧ ((s.pto.drive d).state ≠ .windingDown ∨ (d = .aux ∧ s.stationary = false))) ∧
      leaveWindDown s g = enterOff s.settings.gov g) := by
  unfold leaveWindDown
  split
  · next hn => exact .inl ⟨rfl, fun d hd => by rw [hn] at hd; cases hd⟩
  · next d hd =>
    split
    · next hc => exact .inr ⟨⟨d, hd, hc⟩, rfl⟩
    · next hc =>
      refine .inl ⟨rfl, fun d' hd' => ?_⟩
      rw [hd] at hd'
      cases hd'
      simpa using hc

/-- With AUX governed and the vehicle not stationary the governor enters ROLL, or it stays (R82). -/
theorem rollWithAux_cases (s : State) (g : Governor) :
    (rollWithAux s g = g ∧ (g.governed = some .aux → s.stationary = false → g.mode = .roll ∨ g.mode = .off)) ∨
    ((g.governed = some .aux ∧ s.stationary = false ∧ g.mode ≠ .roll ∧ g.mode ≠ .off) ∧
      rollWithAux s g = enterRoll s.settings.gov g) := by
  unfold rollWithAux
  split
  · next hc => exact .inr ⟨hc, rfl⟩
  · next hc => exact .inl ⟨rfl, by tauto⟩

/-- The stop timer follows the vehicle in ROLL, and the rest of the record stays (R83). -/
theorem watchForStop_eq (s : State) (g : Governor) :
    watchForStop s g = { g with stop := if g.mode = .roll then
      (if s.stationary then (if g.stop = none then startTimer s.time.uptime stopMs else g.stop) else none) else g.stop } := by
  unfold watchForStop
  split
  · split
    · rcases hg : g.stop with _ | d
      · rfl
      · rw [if_neg (by simp), if_neg nofun, ← hg]
    · rfl
  · rfl

/-- A governor that the reaction leaves agrees with the part around it. -/
theorem governorStays_of_react {s : State} (h : governorReact s = (s.gov, [])) : GovernorStays s s.gov := by
  have hpath : pathOf s.chassis.port s.gov.path = s.gov.path := by
    rw [← governorReact_path s, h]
  have hfollow := followPath_of_same hpath
  unfold governorReact at h
  rw [hfollow] at h
  simp only [Prod.mk.injEq, and_true] at h
  rw [watchForStop_eq] at h
  generalize hg2 : (if governedDrive s.pto = s.gov.governed then s.gov else changeGoverned s (governedDrive s.pto) s.gov) = g2
    at h
  have hgoverned : governedDrive s.pto = s.gov.governed := by
    have h2 : g2.governed = governedDrive s.pto := by
      rw [← hg2]
      split
      · next he => exact he.symm
      · exact changeGoverned_governed _ _ _
    have h3 : (leaveWindDown s g2).governed = g2.governed := by
      rcases leaveWindDown_cases s g2 with ⟨e, -⟩ | ⟨-, e⟩
      · rw [e]
      · rw [e]; rfl
    have h4 : (rollWithAux s (leaveWindDown s g2)).governed = (leaveWindDown s g2).governed := by
      rcases rollWithAux_cases s (leaveWindDown s g2) with ⟨e, -⟩ | ⟨-, e⟩
      · rw [e]
      · rw [e]; rfl
    rw [← h2, ← h3, ← h4, ← h]
  rw [if_pos hgoverned] at hg2
  subst hg2
  rcases leaveWindDown_cases s s.gov with ⟨e, hwind⟩ | ⟨⟨d, hd, -⟩, e⟩
  · rw [e] at h
    rcases rollWithAux_cases s s.gov with ⟨e', hroll⟩ | ⟨⟨-, -, hr, -⟩, e'⟩
    · rw [e'] at h
      refine ⟨hpath, hgoverned, hwind, hroll, fun hm => ?_⟩
      have hstop := congrArg Governor.stop h
      simp only [hm, if_true] at hstop
      cases hs : s.stationary <;> simp_all [startTimer]
    · rw [e'] at h
      exact absurd (congrArg Governor.mode h).symm hr
  · rw [e] at h
    have hnone : (rollWithAux s (enterOff s.settings.gov s.gov)).windDown = none := by
      rcases rollWithAux_cases s (enterOff s.settings.gov s.gov) with ⟨e', -⟩ | ⟨-, e'⟩ <;> rw [e'] <;> rfl
    have := congrArg Governor.windDown h
    rw [hd] at this
    exact absurd (hnone.symm.trans this) nofun

/-- The part around it is all that matters. -/
theorem GovernorStays.congr {s v : State} {g : Governor} (h : GovernorStays s g) (hport : v.chassis.port = s.chassis.port)
    (hpto : v.pto = s.pto) (hst : v.stationary = s.stationary) : GovernorStays v g where
  path := by rw [hport]; exact h.path
  governed := by rw [hpto]; exact h.governed
  windDown := by rw [hpto, hst]; exact h.windDown
  roll := by rw [hst]; exact h.roll
  stop := by rw [hst]; exact h.stop

/-! ### Changes of the governor's own -/

/-- A change of the governor's record that touches neither the path nor the drives, and goes neither into ROLL nor out of it
where AUX is governed in a moving vehicle. -/
structure GovernorMove (s : State) (g : Governor) : Prop where
  path : g.path = s.gov.path
  governed : g.governed = s.gov.governed
  windDown : g.windDown = s.gov.windDown
  mode : (g.mode = s.gov.mode ∧ (g.mode = .roll → g.stop = s.gov.stop)) ∨
    (g.mode ≠ .roll ∧ (s.gov.mode ∉ [.roll, .off] ∨ (s.gov.governed = some .aux → s.stationary = true)))

/-- Such a change leaves the governor one that its reaction leaves. -/
theorem GovernorStays.move {s : State} {g : Governor} (h : GovernorStays s s.gov) (hm : GovernorMove s g) :
    GovernorStays s g where
  path := by rw [hm.path]; exact h.path
  governed := by rw [hm.governed]; exact h.governed
  windDown := by rw [hm.windDown]; exact h.windDown
  roll ha hs := by
    rw [hm.governed] at ha
    rcases hm.mode with ⟨hmode, -⟩ | ⟨-, hn | hst⟩
    · rw [hmode]; exact h.roll ha hs
    · exact absurd (h.roll ha hs) (by simpa using hn)
    · rw [hst ha] at hs; cases hs
  stop hr := by
    rcases hm.mode with ⟨hmode, hstop⟩ | ⟨hn, -⟩
    · rw [hstop hr]; exact h.stop (hmode.symm.trans hr)
    · exact absurd hr hn

/-! ### Events that leave the drives -/

/-- An event's own effect that leaves the drives and all that the sequencer and the power controller read. -/
structure SteadySources (s u : State) : Prop where
  quantity : ∀ q, u.quantity q = s.quantity q
  vehicle : u.vehicle = s.vehicle
  env : ptoEnv u = ptoEnv s
  discrete : u.inputs.discrete = s.inputs.discrete
  pto : u.pto = s.pto
  power : u.power.state = s.power.state
  powered : u.powered = s.powered

/-- One that leaves the port's state too, and so all that the governor reads of the other blocks. -/
structure Undrawn (s u : State) : Prop extends SteadySources s u where
  port : u.chassis.port = s.chassis.port

section
variable {s u : State} (h : SteadySources s u)
include h

theorem SteadySources.stationary : u.stationary = s.stationary := by
  unfold State.stationary
  rw [h.vehicle]

theorem SteadySources.working : u.working = s.working := by
  unfold State.working
  rw [h.power, h.powered]

theorem SteadySources.level (i : Fin 10) : u.level i = s.level i := by
  unfold State.level
  rw [h.discrete]

/-- No drive is checked (R67). -/
theorem SteadySources.unchanged (d : DriveId) : sourcesChanged s u d = false := by
  have hp := h.power
  simp only [sourcesChanged, sharedSourceChanged, requestSourceChanged, acceptedChange, h.quantity, h.level, hp, h.pto]
  cases d <;> simp <;> split <;> rfl

end

/-- A calm part by what the power controller reads (R190, R191). -/
theorem PowerCalm.congr {s u : State} (h : PowerCalm s) (hd : u.inputs.discrete = s.inputs.discrete)
    (hpto : u.pto = s.pto) (hp : u.power.state = s.power.state) : PowerCalm u := by
  have hk : ignitionKnown u = ignitionKnown s := by unfold ignitionKnown; rw [hd]
  have hl (i : Fin 10) : u.level i = s.level i := by unfold State.level; rw [hd]
  have hr : u.drivesReleased = s.drivesReleased := by unfold State.drivesReleased; rw [hpto, hl, hl]
  exact ⟨by rw [hk, hp, hl, hr]; exact h.awake, by rw [hk, hp, hl]; exact h.rundown⟩

/-- The power controller's turn leaves the drives and the power state of a calm part. -/
theorem PowerCalm.stays {s : State} (h : PowerCalm s) :
    (Machine.powerReact s).pto = s.pto ∧ (Machine.powerReact s).power.state = s.power.state := by
  rcases h.powerReact with e | ⟨c, e⟩ <;> rw [e] <;> exact ⟨rfl, rfl⟩

/-- In a calm part the drives are what the sequencer makes of them. -/
theorem PowerCalm.settle_pto {b u : State} (h : PowerCalm u) (hw : u.working = true) :
    (settle b u).pto = (ptoReact b u).pto := by
  let mid := settleReaders b (settleFill b (settleBrake b u))
  let late := settlePto b (Machine.powerReact mid)
  have hmid : ReactedBy 5 u mid :=
    (reacted_settleBrake b u).trans <| (reacted_settleFill b _).trans <| reacted_settleReaders b _
  have hpto : mid.pto = u.pto := by simp [mid]
  have hpow : mid.power.state = u.power.state := by simp [mid]
  obtain ⟨hm1, hm2⟩ := (h.congr hmid.sees.discrete hpto hpow).stays
  have hlate : (Machine.powerReact late).pto = late.pto := (powerCalm_settlePto (powerCalm_powerReact mid)).stays.1
  have hend : (settleWorking b u).pto = (Machine.powerReact late).pto := by
    unfold settleWorking settleRest
    simp only [settleMonitors_pto, refreshOutputs_pto, settleChassis_pto, settleLockout_pto, settleProtection_pto,
      settleGovernor_pto]
    rfl
  rw [settle_working b hw, hend, hlate, settlePto_pto, ptoReact_sees (hmid.sees.trans (reacted_powerReact mid).sees)
    (hm1.trans hpto) (hm2.trans hpow)]

/-- A working part in which the power controller, the sequencer and the governor have nothing to do. -/
structure Quiet (s : State) : Prop where
  working : s.working = true
  power : PowerCalm s
  drives : refreshReady (ptoEnv s) s.pto = s.pto
  governor : GovernorStays s s.gov

/-- Records that follow one another leave nothing to do. -/
theorem Steady.quiet {s : State} (h : Steady s) (hw : s.working = true) : Quiet s where
  working := hw
  power := by rw [← h.power]; exact powerCalm_powerReact s
  drives := h.drives
  governor := governorStays_of_react h.governor

/-- The governor's turn at an event that leaves the drives and their sources finds them as they were. -/
theorem Quiet.governorTurn {s u : State} (h : Quiet s) (hu : SteadySources s u) :
    ∃ v, GovernorTurn u v (settle s u) ∧ v.pto = s.pto ∧ v.stationary = s.stationary := by
  have hw : u.working = true := hu.working.trans h.working
  have hpto : (settle s u).pto = s.pto := by
    rw [(h.power.congr hu.discrete hu.pto hu.power).settle_pto hw, ptoReact_unchanged hu.unchanged, hu.env, hu.pto]
    exact h.drives
  obtain ⟨v, hv⟩ := settle_governorTurn s hw
  exact ⟨v, hv, hv.drives.symm.trans hpto, hv.finds.stationary.trans hu.stationary⟩

/-- An event that changes the governor's record, but nothing that the governor reads, ends with the record it made. -/
theorem Quiet.settle_gov {s u : State} (h : Quiet s) (hu : Undrawn s u) (hg : GovernorMove s u.gov) :
    (settle s u).gov = u.gov := by
  obtain ⟨v, hv, hpto, hst⟩ := h.governorTurn hu.toSteadySources
  have hstays : GovernorStays v v.gov := by
    rw [hv.gov]
    exact (h.governor.move hg).congr (hv.port.trans hu.port) hpto hst
  rw [hv.result, hstays.react, hv.gov]

end Sys2Proof.Machine
end

section
/-! SUPPORT. What GOVERN, PUMP_IDLE and RESUME, and the governor's own timers, leave of its record; O36 and O37 (R83, R84, R87
to R90, R116). -/

namespace Sys2Proof.Machine

/-! ### Rows of the governor -/

section
variable {s u v : State}

theorem Undrawn.refl (s : State) : Undrawn s s := ⟨⟨fun _ => rfl, rfl, rfl, rfl, rfl, rfl, rfl⟩, rfl⟩

theorem Undrawn.trans (h : Undrawn s u) (g : Undrawn u v) : Undrawn s v :=
  ⟨⟨fun q => (g.quantity q).trans (h.quantity q), g.vehicle.trans h.vehicle, g.env.trans h.env,
    g.discrete.trans h.discrete, g.pto.trans h.pto, g.power.trans h.power, g.powered.trans h.powered⟩, g.port.trans h.port⟩

/-- A governor that stays moves nowhere. -/
theorem GovernorMove.refl (s : State) : GovernorMove s s.gov := ⟨rfl, rfl, rfl, .inl ⟨rfl, fun _ => rfl⟩⟩

/-- A frame taken for execution changes the link's record and the link silence timer alone (R168). -/
theorem takeRequest_eq (s : State) : takeRequest s =
    { s with link := (takeRequest s).link, power := { s.power with silence := (takeRequest s).power.silence } } := by
  unfold takeRequest
  split <;> rfl

theorem takeRequest_undrawn (s : State) : Undrawn s (takeRequest s) := by
  rw [takeRequest_eq]
  exact ⟨⟨fun _ => rfl, rfl, rfl, rfl, rfl, rfl, rfl⟩, rfl⟩

theorem takeRequest_gov (s : State) : (takeRequest s).gov = s.gov := (takeRequest_agree s).gov

/-- A reply put leaves what the blocks read. -/
theorem putReply_undrawn (tag : Byte) (code : ResultCode) (body : List Byte) (s : State) :
    Undrawn s (putReply tag code body s) :=
  ⟨⟨fun _ => rfl, rfl, rfl, rfl, rfl, rfl, rfl⟩, rfl⟩

/-- The governor's part of a working part's own effect leaves what a reaction is about, but for the stored ceiling and the
step timer. -/
theorem ReactedBy.of_gov {n : Nat} {v t : State} {g : Governor} (h : ReactedBy n { v with gov := g } t)
    (hc : g.ceiling = v.gov.ceiling) (hn : g.next = v.gov.next) : ReactedBy n v t :=
  { h with govCeiling := h.govCeiling.trans hc, govStep := h.govStep.trans hn }

/-- A request that touches the governor alone, of what the governor reads, leaves the record it made. -/
theorem governorRequest_next {c : Instr} {f : HostFrame} {g : State → Answer} {code : ResultCode} {body : List Byte}
    {x : State} (hc : exec c s = .next (request f g s)) (hm : mayExecute f s = true) (hq : Quiet s)
    (ha : g (takeRequest s) = say code body x) (hx : Undrawn (takeRequest s) x) (hg : GovernorMove s x.gov) :
    ∃ t, exec c s = .next t ∧ Reacted (putReply f.tag code body x) t ∧ t.gov = x.gov := by
  have hr := request_reacted f g s hm
  have hrun := request_run (g := g) hm
  rw [ha] at hr hrun
  refine ⟨_, hc, hr, ?_⟩
  rw [hrun]
  exact hq.settle_gov (((takeRequest_undrawn s).trans hx).trans (putReply_undrawn _ _ _ _)) hg

/-- A request refused leaves the governor. -/
theorem governorRequest_refused {c : Instr} {f : HostFrame} {g : State → Answer} {code : ResultCode}
    (hc : exec c s = .next (request f g s)) (hm : mayExecute f s = true) (hq : Quiet s)
    (ha : g (takeRequest s) = plain code (takeRequest s)) :
    ∃ t, exec c s = .next t ∧ Reacted (putReply f.tag code [] (takeRequest s)) t ∧ t.gov = s.gov := by
  have h := governorRequest_next hc hm hq ha (.refl _) (by rw [takeRequest_gov]; exact .refl s)
  rwa [takeRequest_gov] at h

end

/-! ### GOVERN -/

/-- The model takes a GOVERN as R87 says. -/
theorem governAccepted_iff (s : State) : governAccepted s = true ↔ GovernTaken s := by
  unfold governAccepted GovernTaken
  simp only [Bool.and_eq_true, decide_eq_true_eq, ← stationary_iff, and_assoc]
  refine and_congr_left fun _ => ?_
  rcases s.gov.governed with _ | _ | _ <;> simp

/-- Whether a GOVERN is taken rests on the governed drive, the vehicle, ROLL and the throttle path alone (R87). -/
theorem governTaken_congr {s t : State} (hg : t.gov.governed = s.gov.governed) (hv : t.vehicle = s.vehicle)
    (hp : t.gov.path = s.gov.path) (hm : t.gov.mode ≠ .roll ↔ s.gov.mode ≠ .roll) : GovernTaken t ↔ GovernTaken s := by
  unfold GovernTaken
  rw [hg, hv, hp, hm]

/-- A frame taken for execution leaves whether a GOVERN is taken. -/
theorem takeRequest_governTaken (s : State) : GovernTaken (takeRequest s) ↔ GovernTaken s := by
  have hg := takeRequest_gov s
  exact governTaken_congr (by rw [hg]) (takeRequest_undrawn s).vehicle (by rw [hg]) (by rw [hg])

/-- A mode entered where a GOVERN is taken, other than ROLL, is a move of the governor alone. -/
theorem GovernTaken.move {s : State} (h : GovernTaken s) {g : Governor} (hp : g.path = s.gov.path)
    (hd : g.governed = s.gov.governed) (hw : g.windDown = s.gov.windDown) (hm : g.mode ≠ .roll) : GovernorMove s g where
  path := hp
  governed := hd
  windDown := hw
  mode := .inr ⟨hm, .inr fun ha => by
    rcases h.1 with hmain | ⟨-, hv⟩
    · rw [ha] at hmain; cases hmain
    · exact (stationary_iff s).mpr hv⟩

/-- What GOVERN PRESSURE does to the mode (R87). -/
theorem governPressure_eq (g : Governor) : governPressure g = if g.mode = .hold then g
    else if g.mode = .pressure then { g with firstStep := true }
    else { g with mode := .pressure, firstStep := true, resume := none } := by
  unfold governPressure
  split <;> simp_all

/-- What GOVERN SPEED does to the mode (R87). -/
theorem governSpeed_eq (g : Governor) : governSpeed g = if g.mode = .speed then g
    else { g with mode := .speed, resume := none, hold := none } := by
  unfold governSpeed
  split <;> simp_all

/-- GOVERN changes the mode, the resume mode, the hold timer and the first-step flag alone. -/
theorem governPressure_frame (g : Governor) : (governPressure g).path = g.path ∧ (governPressure g).governed = g.governed ∧
    (governPressure g).windDown = g.windDown ∧ (governPressure g).mode ≠ .roll ∧ (governPressure g).ceiling = g.ceiling ∧
    (governPressure g).next = g.next := by
  unfold governPressure
  split
  · next h => exact ⟨rfl, rfl, rfl, by rw [h]; exact nofun, rfl, rfl⟩
  · next h => exact ⟨rfl, rfl, rfl, by rw [h]; exact nofun, rfl, rfl⟩
  · exact ⟨rfl, rfl, rfl, nofun, rfl, rfl⟩

theorem governSpeed_frame (g : Governor) : (governSpeed g).path = g.path ∧ (governSpeed g).governed = g.governed ∧
    (governSpeed g).windDown = g.windDown ∧ (governSpeed g).mode ≠ .roll ∧ (governSpeed g).ceiling = g.ceiling ∧
    (governSpeed g).next = g.next := by
  unfold governSpeed
  split
  · next h => exact ⟨rfl, rfl, rfl, by rw [h]; exact nofun, rfl, rfl⟩
  · exact ⟨rfl, rfl, rfl, nofun, rfl, rfl⟩

/-- The result code of a setpoint applied (R3, R87). -/
theorem okOr_setpoint (p x : Int) : okOr (decide (p ≠ x)) = if p = x then .ok else .okClamped := by
  unfold okOr
  by_cases h : p = x <;> simp [h]

/-- Settles O36: a GOVERN touches nothing that the governor reads, so the record it makes is what the event ends with. -/
theorem governSetsModeAndSetpoint : Obligations.GovernSetsModeAndSetpoint := by
  unfold Obligations.GovernSetsModeAndSetpoint
  intro tag mode v s u hm steady hu
  subst hu
  have hq := steady.quiet (mayExecute_working hm)
  have hc : exec (.govern tag mode v) s = .next (request { kind := 0x08#8, tag, payload := mode :: bytes16 v }
    (handleGovern mode v) s) := rfl
  have hgov := takeRequest_gov s
  have hacc : governAccepted (takeRequest s) = true ↔ GovernTaken s :=
    (governAccepted_iff _).trans (takeRequest_governTaken s)
  have hset := congrArg State.settings (takeRequest_eq s)
  refine ⟨fun h2 h3 => ?_, fun hno hmode => ?_, fun htaken h2 p hp => ?_, fun htaken h3 p hp => ?_⟩
  · exact governorRequest_refused hc hm hq (by unfold handleGovern; rw [if_neg h2, if_neg h3])
  · have hna : ¬ governAccepted (takeRequest s) = true := fun h => hno (hacc.mp h)
    refine governorRequest_refused hc hm hq ?_
    rcases hmode with rfl | rfl
    · exact if_neg hna
    · exact if_neg hna
  · subst h2
    obtain ⟨f1, f2, f3, f4, f5, f6⟩ := governPressure_frame (takeRequest s).gov
    have ha : handleGovern 2#8 v (takeRequest s) = _ := if_pos (hacc.mpr htaken)
    obtain ⟨t, ht, hr, hg⟩ := governorRequest_next hc hm hq ha ⟨⟨fun _ => rfl, rfl, rfl, rfl, rfl, rfl, rfl⟩, rfl⟩
      (htaken.move (f1.trans (by rw [hgov])) (f2.trans (by rw [hgov])) (f3.trans (by rw [hgov])) f4)
    rw [hp]
    refine ⟨t, ht, ?_, ?_⟩
    · rw [← okOr_setpoint]
      exact ReactedBy.of_gov hr f5 f6
    · rw [hg]
      show governPressure (takeRequest s).gov = _
      rw [hgov, governPressure_eq]
  · subst h3
    obtain ⟨f1, f2, f3, f4, f5, f6⟩ := governSpeed_frame (takeRequest s).gov
    have ha : handleGovern 3#8 v (takeRequest s) = _ := if_pos (hacc.mpr htaken)
    obtain ⟨t, ht, hr, hg⟩ := governorRequest_next hc hm hq ha ⟨⟨fun _ => rfl, rfl, rfl, rfl, rfl, rfl, rfl⟩, rfl⟩
      (htaken.move (f1.trans (by rw [hgov])) (f2.trans (by rw [hgov])) (f3.trans (by rw [hgov])) f4)
    rw [hp]
    refine ⟨t, ht, ?_, ?_⟩
    · rw [← okOr_setpoint, ← show (takeRequest s).settings = s.settings from hset]
      exact ReactedBy.of_gov hr f5 f6
    · rw [hg]
      show governSpeed (takeRequest s).gov = _
      rw [hgov, governSpeed_eq]

/-! ### PUMP_IDLE and the governor's timers -/

section
variable {s : State}

/-- An entry to IDLE from a mode other than ROLL and OFF is a move of the governor alone. -/
theorem enterIdle_move (h : s.gov.mode ∉ [.roll, .off]) : GovernorMove s (enterIdle s.gov) :=
  ⟨rfl, rfl, rfl, .inr ⟨nofun, .inl h⟩⟩

/-- PUMP_IDLE from a pumping mode (R89). -/
theorem pumpIdle_pumping {tag : Byte} (hm : mayExecute { kind := 0x0A#8, tag, payload := [] } s = true) (hq : Quiet s)
    (hmode : s.gov.mode ∈ [.pressure, .hold, .speed]) :
    ∃ t, exec (.pumpIdle tag) s = .next t ∧ Reacted (putReply tag .ok [] (takeRequest s)) t ∧ t.gov = enterIdle s.gov := by
  have hg := takeRequest_gov s
  have ha : handlePumpIdle (takeRequest s) = plain .ok { takeRequest s with gov := enterIdle s.gov } := by
    unfold handlePumpIdle
    rw [hg]
    simp only [List.mem_cons, List.not_mem_nil, or_false] at hmode
    rcases hmode with h | h | h <;> rw [h]
  obtain ⟨t, ht, hr, ht'⟩ := governorRequest_next (c := .pumpIdle tag) rfl hm hq ha
    ⟨⟨fun _ => rfl, rfl, rfl, rfl, rfl, rfl, rfl⟩, rfl⟩ (enterIdle_move fun h => by
      simp only [List.mem_cons, List.not_mem_nil, or_false] at h hmode
      rcases h with h | h <;> simp [h] at hmode)
  exact ⟨t, ht, ReactedBy.of_gov (g := enterIdle s.gov) hr (by show s.gov.ceiling = (takeRequest s).gov.ceiling; rw [hg])
    (by show s.gov.next = (takeRequest s).gov.next; rw [hg]), ht'⟩

/-- PUMP_IDLE in IDLE, OFF and ROLL is without effect (R89). -/
theorem pumpIdle_stays {tag : Byte} (hm : mayExecute { kind := 0x0A#8, tag, payload := [] } s = true) (hq : Quiet s)
    (hmode : s.gov.mode ∈ [.idle, .off, .roll]) :
    ∃ t, exec (.pumpIdle tag) s = .next t ∧
      Reacted (putReply tag (if s.gov.mode = .idle then .ok else .refusedState) [] (takeRequest s)) t ∧ t.gov = s.gov := by
  refine governorRequest_refused (c := .pumpIdle tag) rfl hm hq ?_
  unfold handlePumpIdle
  rw [takeRequest_gov]
  simp only [List.mem_cons, List.not_mem_nil, or_false] at hmode
  rcases hmode with h | h | h <;> rw [h] <;> rfl

/-- The hold timer's expiry in HOLD (R84). -/
theorem governorHoldExpiry_next (hq : Quiet s) (hm : s.gov.mode = .hold) (hd : due s.time.uptime s.gov.hold = true) :
    ∃ t, exec .governorHoldExpiry s = .next t ∧
      Reacted (s.post [noticeGovernorHold s.gov.governed .expired s.gov.request]) t ∧ t.gov = enterIdle s.gov := by
  obtain ⟨t, ht, hset, hr⟩ := guarded_reacted (c := .governorHoldExpiry) (g := fun s => due s.time.uptime s.gov.hold = true)
    (f := fun s => putGovernor (expireGovernorHold s.gov) s) rfl hq.working hd
  have hx : expireGovernorHold s.gov = (enterIdle s.gov, [noticeGovernorHold s.gov.governed .expired s.gov.request]) := by
    unfold expireGovernorHold
    rw [hm]
  rw [hx] at hset hr
  refine ⟨t, ht, ReactedBy.of_gov (g := enterIdle s.gov) hr rfl rfl, ?_⟩
  rw [hset]
  exact hq.settle_gov ⟨⟨fun _ => rfl, rfl, rfl, rfl, rfl, rfl, rfl⟩, rfl⟩ (enterIdle_move (by rw [hm]; decide))

/-- The hold timer's expiry is a move of the governor alone (R84). -/
theorem expireGovernorHold_move (s : State) : GovernorMove s (expireGovernorHold s.gov).1 := by
  unfold expireGovernorHold
  split
  · next hm => exact enterIdle_move (by rw [hm]; decide)
  · exact ⟨rfl, rfl, rfl, .inl ⟨rfl, fun _ => rfl⟩⟩

/-- A running timer that has expired is one. -/
theorem due_ne_none {now : Uptime} {x : Timer} (h : due now x = true) : x ≠ none := by
  rintro rfl
  cases h

/-- The stop timer's expiry in ROLL is a move of the governor alone: it runs with the vehicle stationary alone (R83). -/
theorem expireStop_move (hg : GovernorStays s s.gov) (hd : due s.time.uptime s.gov.stop = true) :
    GovernorMove s (expireStop s.settings.gov s.gov) := by
  unfold expireStop
  split
  · next hm => exact ⟨rfl, rfl, rfl, .inr ⟨nofun, .inr fun _ => (hg.stop hm).mp (due_ne_none hd)⟩⟩
  · next hm => exact ⟨rfl, rfl, rfl, .inl ⟨rfl, fun h => absurd h hm⟩⟩

/-- The stop timer's expiry in ROLL (R83). -/
theorem stopTimerExpiry_next (hq : Quiet s) (hm : s.gov.mode = .roll) (hd : due s.time.uptime s.gov.stop = true) :
    ∃ t, exec .stopTimerExpiry s = .next t ∧ Reacted s t ∧
      t.gov = { s.gov with mode := .idle, request := s.settings.gov.idleRpm, stop := none } := by
  obtain ⟨t, ht, hset, hr⟩ := guarded_reacted (c := .stopTimerExpiry) (g := fun s => due s.time.uptime s.gov.stop = true)
    (f := fun s => { s with gov := expireStop s.settings.gov s.gov }) rfl hq.working hd
  have hx := expireStop_roll s.settings.gov s.gov hm
  rw [hx] at hset hr
  refine ⟨t, ht, ReactedBy.of_gov hr rfl rfl, ?_⟩
  rw [hset]
  refine hq.settle_gov ⟨⟨fun _ => rfl, rfl, rfl, rfl, rfl, rfl, rfl⟩, rfl⟩ ?_
  rw [← hx]
  exact expireStop_move hq.governor hd

end

/-! ### RESUME -/

/-- No enabled condition is ACTIVE where none is found (R112, R116). -/
theorem lowestActive_none (s : State) : lowestActive s.settings.prot s.prot.conds = none ↔ ¬ SomeActive s := by
  unfold lowestActive SomeActive condActive
  rw [List.find?_eq_none]
  simp

/-- The condition found is the lowest-numbered of the enabled ones that are ACTIVE (R116). -/
theorem lowestActive_eq {s : State} {i : Fin 5} (he : s.settings.prot.enabled[i] = true)
    (ha : (s.prot.conds[i]).state = .active)
    (hl : ∀ j : Fin 5, j < i → ¬ (s.settings.prot.enabled[j] = true ∧ (s.prot.conds[j]).state = .active)) :
    lowestActive s.settings.prot s.prot.conds = some i := by
  have hi : condActive s.settings.prot s.prot.conds i = true := by
    unfold condActive
    rw [he, ha]
    rfl
  have hj : ∀ j < i, condActive s.settings.prot s.prot.conds j = false := fun j hji => by
    have := hl j hji
    unfold condActive
    simpa using this
  unfold lowestActive
  rw [List.find?_eq_some_iff_append]
  refine ⟨hi, (List.finRange 5).take i.val, (List.finRange 5).drop (i.val + 1), ?_, fun j hjm => ?_⟩
  · refine (List.take_append_drop i.val (List.finRange 5)).symm.trans ?_
    rw [List.drop_eq_getElem_cons (by simp)]
    simp
  · rw [List.mem_take_iff_getElem] at hjm
    obtain ⟨k, hk, rfl⟩ := hjm
    simp only [List.getElem_finRange, Bool.not_eq_true']
    refine hj _ ?_
    rw [Fin.lt_def]
    simp at hk ⊢
    omega

/-- The monitor's part of RESUME (R116). -/
theorem resumePart_accepted (s : State) :
    resumePart s = .accepted ↔ s.prot.ceiling.state = .latched ∧ ¬ SomeActive s := by
  rw [← lowestActive_none]
  unfold resumePart
  split
  · next h => cases lowestActive s.settings.prot s.prot.conds <;> simp [h]
  · next h => exact iff_of_false nofun fun hc => h hc.1

theorem resumePart_notLatched (s : State) : resumePart s = .notLatched ↔ s.prot.ceiling.state ≠ .latched := by
  unfold resumePart
  split
  · next h => cases lowestActive s.settings.prot s.prot.conds <;> simp [h]
  · next h => exact iff_of_true rfl h

/-- A mode to which an accepted RESUME returns (R90). -/
theorem resumeGovernor_isSome (s : State) :
    (resumeGovernor s).isSome = true ↔ s.gov.mode = .idle ∧ s.gov.resume ≠ none ∧ GovernTaken s := by
  rw [← governAccepted_iff]
  unfold resumeGovernor
  split
  · next h => rcases hr : s.gov.resume with _ | _ | _ <;> simp [h]
  · next h => exact iff_of_false nofun fun ⟨hi, _, ha⟩ => h ⟨hi, ha⟩

/-- The governor's part of an accepted RESUME (R90). -/
theorem resumeGovernor_cases {s : State} {g : Governor} (h : resumeGovernor s = some g) :
    (s.gov.resume = some .pressure ∧ g = { s.gov with mode := .pressure, firstStep := true, resume := none }) ∨
    (s.gov.resume = some .speed ∧ g = { s.gov with mode := .speed, resume := none }) := by
  unfold resumeGovernor at h
  split at h
  · split at h
    · cases h
    · next hr => cases h; exact .inl ⟨hr, rfl⟩
    · next hr => cases h; exact .inr ⟨hr, rfl⟩
  · cases h

/-- RESUME is a move of the governor alone (R90). -/
theorem resumeGovernor_move (s : State) : GovernorMove s ((resumeGovernor s).getD s.gov) := by
  rcases hg : resumeGovernor s with _ | g
  · exact .refl s
  · have ht := ((resumeGovernor_isSome s).mp (by rw [hg]; rfl)).2.2
    rcases resumeGovernor_cases hg with ⟨-, rfl⟩ | ⟨-, rfl⟩
    · exact ht.move rfl rfl rfl nofun
    · exact ht.move rfl rfl rfl nofun

/-- RESUME leaves the stored ceiling and the step timer of the governor (R90). -/
theorem resumeGovernor_frame (s : State) : ((resumeGovernor s).getD s.gov).ceiling = s.gov.ceiling ∧
    ((resumeGovernor s).getD s.gov).next = s.gov.next := by
  rcases hg : resumeGovernor s with _ | g
  · exact ⟨rfl, rfl⟩
  · rcases resumeGovernor_cases hg with ⟨-, rfl⟩ | ⟨-, rfl⟩ <;> exact ⟨rfl, rfl⟩

/-- The ceiling that the monitor's part of RESUME leaves (R116). -/
def ceilingResumed (s : State) : Ceiling :=
  if resumePart s = .accepted then resumeCeiling s.time.uptime s.prot.ceiling else s.prot.ceiling

/-- RESUME's answer, by its two parts (R90, R116). -/
theorem handleResume_eq (s : State) :
    handleResume s = say (resumeCode (resumeGovernor s).isSome (resumePart s))
      (resumeBody (resumeGovernor s).isSome (resumePart s))
      { s with gov := (resumeGovernor s).getD s.gov, prot := { s.prot with ceiling := ceilingResumed s } } := rfl

/-- RESUME: the two parts, its reply and its body (R90, R116). -/
theorem resume_next {tag : Byte} {s : State} (hm : mayExecute { kind := 0x09#8, tag, payload := [] } s = true)
    (hq : Quiet s) :
    ∃ t, exec (.resume tag) s = .next t ∧
      Reacted (putReply tag (resumeCode (resumeGovernor s).isSome (resumePart s))
        (resumeBody (resumeGovernor s).isSome (resumePart s))
        { takeRequest s with prot := { (takeRequest s).prot with ceiling := t.prot.ceiling } }) t ∧
      t.prot.ceiling = ceilingResumed s ∧ t.gov = (resumeGovernor s).getD s.gov := by
  have hgov := takeRequest_gov s
  have hg : resumeGovernor (takeRequest s) = resumeGovernor s := by
    unfold resumeGovernor governAccepted
    rw [(takeRequest_undrawn s).stationary, hgov]
  have hp : resumePart (takeRequest s) = resumePart s := by rw [takeRequest_eq]; rfl
  have hc : ceilingResumed (takeRequest s) = ceilingResumed s := by rw [takeRequest_eq]; rfl
  have ha := handleResume_eq (takeRequest s)
  rw [hg, hp, hc, hgov] at ha
  obtain ⟨t, ht, hr, hend⟩ := governorRequest_next (c := .resume tag) rfl hm hq ha
    ⟨⟨fun _ => rfl, rfl, rfl, rfl, rfl, rfl, rfl⟩, rfl⟩ (resumeGovernor_move s)
  have hceil : t.prot.ceiling = ceilingResumed s := by rw [hr.monitor]; rfl
  obtain ⟨f1, f2⟩ := resumeGovernor_frame s
  refine ⟨t, ht, ?_, hceil, hend⟩
  rw [hceil]
  exact ReactedBy.of_gov (g := (resumeGovernor s).getD s.gov) hr (f1.trans (congrArg Governor.ceiling hgov.symm))
    (f2.trans (congrArg Governor.next hgov.symm))

/-- What a RESUME answers, by its two parts (R116, R171). -/
theorem resumeCode_iff (g : Bool) (m : ResumePart) :
    (resumeCode g m = .ok ↔ g = true ∨ m = .accepted) ∧
    (resumeCode g m = .refusedCondition ↔ g = false ∧ m ≠ .accepted ∧ m ≠ .notLatched) ∧
    (resumeCode g m = .refusedState ↔ g = false ∧ m = .notLatched) := by
  cases g <;> cases m <;> simp [resumeCode]

/-- The governor's part in the body of RESUME's reply (log entry 20). -/
theorem resumeBody_governor (g : Bool) (m : ResumePart) : (resumeBody g m)[0]? = some (if g then 2#8 else 3#8) := by
  cases g <;> rfl

/-- The monitor's part in the body of RESUME's reply, with the condition (log entry 20). -/
theorem resumeBody_monitor (g : Bool) (m : ResumePart) : (resumeBody g m).drop 1 = match m with
    | .accepted => [2#8, 0xFF#8]
    | .refused i => [4#8, BitVec.ofNat 8 i.val]
    | .notLatched => [10#8, 0xFF#8] := by
  cases g <;> cases m <;> rfl

/-- What a RESUME finds after the governor's entry to IDLE (R84, R86, R89). -/
theorem enterIdle_leaves {s t : State} (hm : s.gov.mode ∈ [.pressure, .hold, .speed]) (hg : t.gov = enterIdle s.gov)
    (hv : t.vehicle = s.vehicle) : t.gov.mode = .idle ∧ (GovernTaken t ↔ GovernTaken s) ∧
      t.gov.resume = if s.gov.mode = .speed then some .speed else some .pressure := by
  have hr : s.gov.mode ≠ .roll := fun h => by rw [h] at hm; exact absurd hm (by decide)
  refine ⟨by rw [hg]; rfl, ?_, ?_⟩
  · exact governTaken_congr (by rw [hg]; rfl) hv (by rw [hg]; rfl) (iff_of_true (by rw [hg]; exact nofun) hr)
  · rw [hg]
    simp only [List.mem_cons, List.not_mem_nil, or_false] at hm
    rcases hm with h | h | h <;> simp [enterIdle, resumeOnLeaving, h]

/-- Settles O37: the two parts of RESUME each by their own test, and what the ways to IDLE leave it. -/
theorem resumeCombinesGovernorAndMonitor : Obligations.ResumeCombinesGovernorAndMonitor := by
  unfold Obligations.ResumeCombinesGovernorAndMonitor
  refine ⟨fun tag s u gOk mOk hm steady hu hg hp => ?_, fun tag s steady => ⟨fun hw hmode hd => ?_, fun hw hmode hd => ?_,
    fun hm => ?_⟩⟩
  · subst hu
    obtain ⟨t, ht, hr, hceil, hgov⟩ := resume_next hm (steady.quiet (mayExecute_working hm))
    have hgo : (resumeGovernor s).isSome = gOk := by
      rw [Bool.eq_iff_iff, hg]
      exact resumeGovernor_isSome s
    have hmo : resumePart s = .accepted ↔ mOk = true := by rw [hp]; exact resumePart_accepted s
    have hno := resumePart_notLatched s
    obtain ⟨c1, c2, c3⟩ := resumeCode_iff gOk (resumePart s)
    rw [hgo] at hr
    refine ⟨t, _, _, ht, hr, ?_, ?_, ?_, resumeBody_governor _ _, fun hok => ⟨?_, ?_⟩, fun hok => ?_, fun hl => ?_,
      fun hl i he ha hmin => ?_, fun hok => ?_, fun hok hres => ?_, fun hok hres => ?_⟩
    · rw [c1, hmo]
    · rw [c2, ne_eq, hmo, ne_eq, hno, not_not, Bool.not_eq_true]
    · rw [c3, hno, ← Bool.not_eq_true mOk, ← hmo]
      exact and_congr_right fun _ => ⟨fun hl => ⟨fun hacc => hl ((resumePart_accepted s).mp hacc).1, hl⟩, And.right⟩
    · rw [resumeBody_monitor, hmo.mpr hok]
    · obtain ⟨hl, -⟩ := hp.mp hok
      rw [hceil]
      simp [ceilingResumed, resumeCeiling, ceilingTo, hl, hmo.mpr hok]
    · rw [hceil]
      exact if_neg fun h => by rw [hmo.mp h] at hok; cases hok
    · rw [resumeBody_monitor, hno.mpr hl]
    · have hpart : resumePart s = .refused i := by
        unfold resumePart
        rw [hl, lowestActive_eq he ha hmin]
      rw [resumeBody_monitor, hpart]
    · rw [hgov, show resumeGovernor s = none by rw [← Option.not_isSome_iff_eq_none, hgo, hok]; exact nofun]
      rfl
    · obtain ⟨g, hsome⟩ := Option.isSome_iff_exists.mp (hgo.trans hok)
      rw [hgov, hsome]
      rcases resumeGovernor_cases hsome with ⟨-, rfl⟩ | ⟨hs, -⟩
      · rfl
      · rw [hres] at hs; cases hs
    · obtain ⟨g, hsome⟩ := Option.isSome_iff_exists.mp (hgo.trans hok)
      rw [hgov, hsome]
      rcases resumeGovernor_cases hsome with ⟨hs, -⟩ | ⟨-, rfl⟩
      · rw [hres] at hs; cases hs
      · rfl
  · obtain ⟨t, ht, hr, hgov⟩ := governorHoldExpiry_next (steady.quiet hw) hmode hd
    obtain ⟨h1, h2, h3⟩ := enterIdle_leaves (by rw [hmode]; decide) hgov (by rw [hr.sees.vehicle]; rfl)
    exact ⟨t, ht, h1, h3.trans (by rw [hmode]; rfl), h2⟩
  · obtain ⟨t, ht, -, hgov⟩ := stopTimerExpiry_next (steady.quiet hw) hmode hd
    exact ⟨t, ht, by rw [hgov], by rw [hgov]⟩
  · have hq := steady.quiet (mayExecute_working hm)
    by_cases hmode : s.gov.mode ∈ [.pressure, .hold, .speed]
    · obtain ⟨t, ht, hr, hgov⟩ := pumpIdle_pumping hm hq hmode
      exact ⟨t, ht, fun _ => enterIdle_leaves hmode hgov (by
        rw [hr.sees.vehicle]
        exact (takeRequest_undrawn s).vehicle)⟩
    · exact ⟨_, rfl, fun h => absurd (by simpa [or_comm, or_left_comm] using h) hmode⟩

end Sys2Proof.Machine
end

section
/-! SUPPORT. The governor step by the mode, and O33 (R84, R91 to R95). -/

namespace Sys2Proof.Machine

/-! ### The step by the mode -/

/-- The governor's record as a step finds it outside OFF: the step timer gone on, and the least ceiling stored (R91). -/
def stepStored (s : State) : Governor :=
  { s.gov with next := nextPeriod s.time.uptime 20 s.gov.next, ceiling := s.ceiling }

section
variable {s : State}

theorem governorStep_off (h : s.gov.mode = .off) :
    governorStep s = ({ s.gov with next := nextPeriod s.time.uptime 20 s.gov.next }, []) := by
  simp [governorStep, h]

theorem governorStep_idle (h : s.gov.mode = .idle) :
    governorStep s = (idleStep s.settings.gov s.ceiling (stepStored s), []) := by
  simp [governorStep, stepStored, h]

theorem governorStep_speed (h : s.gov.mode = .speed) :
    governorStep s = (speedStep s.settings.gov s.ceiling (stepStored s), []) := by
  simp [governorStep, stepStored, h]

theorem governorStep_roll (h : s.gov.mode = .roll) :
    governorStep s = ({ stepStored s with request := s.settings.gov.idleRpm }, []) := by
  simp [governorStep, stepStored, h]

/-- The governed discharge channel is the one that R79 says. -/
theorem isDischarge_iff (s : State) (a : AnalogChan) : IsDischarge s a ↔ s.discharge = some a := by
  unfold IsDischarge State.discharge
  rcases s.gov.governed with _ | _ | _ <;> simp [dischargeIndex, eq_comm]

theorem governorStep_pressure (h : s.gov.mode = .pressure) {a : AnalogChan} (ha : IsDischarge s a) :
    governorStep s = stepInPressure s.settings.gov s.time.uptime s.ceiling a (stepStored s) := by
  simp [governorStep, stepStored, h, (isDischarge_iff s a).mp ha]

theorem governorStep_hold (h : s.gov.mode = .hold) {a : AnalogChan} (ha : IsDischarge s a) :
    governorStep s = stepInHold s.settings.gov s.time.uptime s.ceiling a (stepStored s) := by
  simp [governorStep, stepStored, h, (isDischarge_iff s a).mp ha]

end

section
variable {c : GovSettings} {now : Uptime} {k : Int} {a : AnalogChan} {g : Governor}

theorem stepInPressure_valid (h : a.state = .valid) :
    stepInPressure c now k a g = (pressureStep c k (a.eng.getD 0) g, []) := by
  simp [stepInPressure, h]

theorem stepInPressure_held (h : a.state = .held) : stepInPressure c now k a g = (g, []) := by
  simp [stepInPressure, h]

theorem stepInPressure_lost (h : a.state ≠ .valid ∧ a.state ≠ .held) : stepInPressure c now k a g =
    ({ g with mode := .hold, hold := startTimer now c.holdLimit }, [noticeGovernorHold g.governed .entered g.request]) := by
  unfold stepInPressure
  split
  · next hs => exact absurd hs h.2
  · next hs => exact absurd hs h.1
  · rfl

/-- PRESSURE as the recovery from HOLD enters it, with a first step (R84). -/
def recovered (g : Governor) : Governor := { g with mode := .pressure, hold := none, firstStep := true }

theorem stepInHold_usable (h : a.state = .valid ∨ a.state = .held) :
    stepInHold c now k a g = ((stepInPressure c now k a (recovered g)).1,
      noticeGovernorHold g.governed .recovered g.request :: (stepInPressure c now k a (recovered g)).2) :=
  if_pos (by rcases h with h | h <;> simp [analogUsable, h])

theorem stepInHold_lost (h : a.state ≠ .valid ∧ a.state ≠ .held) : stepInHold c now k a g = (holdStep c k g, []) :=
  if_neg (by simp [analogUsable, h])

end

/-! ### What a step leaves -/

/-- What no step touches of the governor's record, and the modes it goes between (R84, R91 to R95). -/
structure StepKeeps (g h : Governor) : Prop where
  next : h.next = g.next
  ceiling : h.ceiling = g.ceiling
  governed : h.governed = g.governed
  windDown : h.windDown = g.windDown
  path : h.path = g.path
  resume : h.resume = g.resume
  stop : h.stop = g.stop
  mode : h.mode = g.mode ∨ (g.mode ∈ [.pressure, .hold] ∧ h.mode ∈ [.pressure, .hold])

theorem StepKeeps.refl (g : Governor) : StepKeeps g g := ⟨rfl, rfl, rfl, rfl, rfl, rfl, rfl, .inl rfl⟩

/-- A PRESSURE step in PRESSURE or after the recovery from HOLD. -/
theorem stepInPressure_keeps (c : GovSettings) (now : Uptime) (k : Int) (a : AnalogChan) {g : Governor}
    (hm : g.mode = .pressure) : StepKeeps g (stepInPressure c now k a g).1 := by
  unfold stepInPressure
  split
  · exact .refl g
  · exact ⟨rfl, rfl, rfl, rfl, rfl, rfl, rfl, .inl rfl⟩
  · exact ⟨rfl, rfl, rfl, rfl, rfl, rfl, rfl, .inr ⟨by rw [hm]; decide, by simp⟩⟩

theorem stepInHold_keeps (c : GovSettings) (now : Uptime) (k : Int) (a : AnalogChan) {g : Governor}
    (hm : g.mode = .hold) : StepKeeps g (stepInHold c now k a g).1 := by
  by_cases hu : a.state = .valid ∨ a.state = .held
  · rw [stepInHold_usable hu]
    have h := stepInPressure_keeps c now k a (g := recovered g) rfl
    refine { h with mode := .inr ⟨by rw [hm]; decide, ?_⟩ }
    rcases h.mode with e | ⟨-, e⟩
    · rw [e]; simp [recovered]
    · exact e
  · rw [stepInHold_lost (not_or.mp hu)]
    exact ⟨rfl, rfl, rfl, rfl, rfl, rfl, rfl, .inl rfl⟩

/-- A step outside OFF. -/
theorem governorStep_keeps {s : State} (h : s.gov.mode ≠ .off) : StepKeeps (stepStored s) (governorStep s).1 := by
  cases hm : s.gov.mode
  case off => exact absurd hm h
  case idle => rw [governorStep_idle hm]; exact ⟨rfl, rfl, rfl, rfl, rfl, rfl, rfl, .inl rfl⟩
  case speed => rw [governorStep_speed hm]; exact ⟨rfl, rfl, rfl, rfl, rfl, rfl, rfl, .inl rfl⟩
  case roll => rw [governorStep_roll hm]; exact ⟨rfl, rfl, rfl, rfl, rfl, rfl, rfl, .inl rfl⟩
  case pressure =>
    rcases hd : s.discharge with _ | a
    · simp only [governorStep, hm, hd]
      exact ⟨rfl, rfl, rfl, rfl, rfl, rfl, rfl, .inl hm.symm⟩
    · rw [governorStep_pressure hm ((isDischarge_iff s a).mpr hd)]
      exact stepInPressure_keeps _ _ _ _ hm
  case hold =>
    rcases hd : s.discharge with _ | a
    · simp only [governorStep, hm, hd]
      exact ⟨rfl, rfl, rfl, rfl, rfl, rfl, rfl, .inl hm.symm⟩
    · rw [governorStep_hold hm ((isDischarge_iff s a).mpr hd)]
      exact stepInHold_keeps _ _ _ _ hm

/-- A step is a move of the governor alone. -/
theorem governorStep_move (s : State) : GovernorMove s (governorStep s).1 := by
  by_cases ho : s.gov.mode = .off
  · rw [governorStep_off ho]
    exact ⟨rfl, rfl, rfl, .inl ⟨rfl, fun _ => rfl⟩⟩
  · have h := governorStep_keeps ho
    refine ⟨h.path, h.governed, h.windDown, ?_⟩
    rcases h.mode with e | ⟨e1, e2⟩
    · exact .inl ⟨e, fun _ => h.stop⟩
    · have h1 : s.gov.mode ∈ [GovMode.pressure, .hold] := e1
      refine .inr ⟨fun hr => by rw [hr] at e2; exact absurd e2 (by decide), .inl ?_⟩
      simp only [List.mem_cons, List.not_mem_nil, or_false] at h1
      rcases h1 with h1 | h1 <;> rw [h1] <;> decide

/-! ### The request -/

/-- The PRESSURE step on a VALID channel (R92): the error and the change-of-error terms, rounded, and their limits. -/
theorem pressureStep_moves (c : GovSettings) (k v : Int) (g : Governor) (hb : 0 ≤ c.deadband) :
    ∃ raw : Int, ∀ p e ePrev change : Int, p = max 0 v → e = max (-2000) (min 2000 (c.pressureSetpoint - p)) →
      ePrev = (if g.firstStep = true then e else g.prevError) → change = max (-c.fallLimit) (min c.riseLimit raw) →
      (pressureStep c k v g).firstStep = false ∧ (pressureStep c k v g).prevError = e ∧
      ((e.natAbs : Int) ≤ c.deadband → raw = 0) ∧
      (c.deadband < e.natAbs → RoundsHalfAway (c.ki * e + c.kp * (e - ePrev)) 256 raw) ∧
      (pressureStep c k v g).request = clampInt c.idleRpm k (g.request +
        (if c.pressureSetpoint + c.fastFallBand < p then min change (-c.fastFallStep) else change)) := by
  let e0 := pressureError c.pressureSetpoint (max 0 v)
  refine ⟨if e0.natAbs ≤ c.deadband.toNat then 0
    else halfAway (c.ki * e0 + c.kp * (e0 - if g.firstStep then e0 else g.prevError)) 256, ?_⟩
  rintro p e ePrev change rfl he rfl rfl
  obtain rfl : e = e0 := he
  refine ⟨rfl, rfl, fun hd => if_pos ((Int.le_toNat hb).mpr hd), fun hd => ?_, rfl⟩
  rw [if_neg fun h => absurd ((Int.le_toNat hb).mp h) (not_le.mpr hd)]
  exact halfAway_rounds _ 256 (by decide)

/-- The SPEED step (R94): toward the setpoint and not beyond it. -/
theorem speedStep_request (c : GovSettings) (k : Int) (g : Governor) : (speedStep c k g).request =
    clampInt c.idleRpm k (if g.request < c.speedSetpoint then min c.speedSetpoint (g.request + c.riseLimit)
      else max c.speedSetpoint (g.request - c.fallLimit)) := by
  unfold speedStep
  dsimp only
  congr 1
  split <;> omega

/-- The IDLE step (R95): toward idle_rpm and not beyond it. -/
theorem idleStep_request (c : GovSettings) (k : Int) (g : Governor) : (idleStep c k g).request =
    clampInt c.idleRpm k (if c.idleRpm < g.request then max c.idleRpm (g.request - c.fallLimit) else g.request) := by
  unfold idleStep
  dsimp only
  congr 1
  split <;> omega

/-- The governor step of a part whose records follow one another (R91). -/
theorem governorStep_next {s : State} (hq : Quiet s) (hd : due s.time.uptime s.gov.next = true) :
    ∃ t, exec .governorStep s = .next t ∧ Reacted (putGovernor (governorStep s) s) t ∧ t.gov = (governorStep s).1 := by
  obtain ⟨t, ht, hset, hr⟩ := guarded_reacted (c := .governorStep) (g := fun s => due s.time.uptime s.gov.next = true)
    (f := fun s => putGovernor (governorStep s) s) rfl hq.working hd
  refine ⟨t, ht, hr, ?_⟩
  rw [hset]
  exact hq.settle_gov ⟨⟨fun _ => rfl, rfl, rfl, rfl, rfl, rfl, rfl⟩, rfl⟩ (governorStep_move s)

/-- Outside OFF the step stores the least ceiling (R91). -/
theorem governorStep_ceiling (s : State) :
    (governorStep s).1.ceiling = if s.gov.mode = .off then s.gov.ceiling else s.ceiling := by
  split
  · next ho => rw [governorStep_off ho]
  · next ho => exact (governorStep_keeps ho).ceiling

/-- The step timer goes on, and the step leaves the governed drive, the path and the resume mode (R91). -/
theorem governorStep_frame {s : State} (hd : due s.time.uptime s.gov.next = true) :
    (governorStep s).1.next = s.gov.next.map (· + 20#32) ∧ (governorStep s).1.governed = s.gov.governed ∧
    (governorStep s).1.path = s.gov.path ∧ (governorStep s).1.resume = s.gov.resume := by
  have hn := nextPeriod_of_due 20 hd
  by_cases ho : s.gov.mode = .off
  · rw [governorStep_off ho]
    exact ⟨hn, rfl, rfl, rfl⟩
  · have h := governorStep_keeps ho
    exact ⟨h.next.trans hn, h.governed, h.path, h.resume⟩

/-- The step posts nothing outside PRESSURE and HOLD (R84). -/
theorem governorStep_posts {s : State} (h : s.gov.mode ∉ [.pressure, .hold]) : (governorStep s).2 = [] := by
  cases hm : s.gov.mode
  case off => rw [governorStep_off hm]
  case idle => rw [governorStep_idle hm]
  case speed => rw [governorStep_speed hm]
  case roll => rw [governorStep_roll hm]
  case pressure => exact absurd (by rw [hm]; decide) h
  case hold => exact absurd (by rw [hm]; decide) h

/-- Settles O33: the step by the mode, and in PRESSURE and HOLD by the state of the governed discharge channel. -/
theorem governorStepMovesTheRequest : Obligations.GovernorStepMovesTheRequest := by
  unfold Obligations.GovernorStepMovesTheRequest
  intro s g c ceil limited hw steady hg hc hdue hceil hlim hband
  subst hg hc
  obtain rfl := hceil.eq_ceiling
  have hlimited : ∀ r, limited r = clampInt s.settings.gov.idleRpm s.ceiling r := fun r => hlim r
  obtain ⟨t, ht, hr, hgov⟩ := governorStep_next (steady.quiet hw) hdue
  obtain ⟨f1, f2, f3, f4⟩ := governorStep_frame hdue
  have fc := governorStep_ceiling s
  refine ⟨t, (governorStep s).2, ht, ?_, governorStep_posts, hgov ▸ f1, hgov ▸ f2, hgov ▸ f3, hgov ▸ f4, hgov ▸ fc, ?_⟩
  · rw [hgov]
    exact ReactedBy.of_gov (g := (governorStep s).1) hr rfl rfl
  rw [hgov]
  simp only [hlimited]
  refine ⟨fun hm => ?_, fun hm => ?_, fun hm => ?_, fun hm => ?_, fun a ha => ⟨fun hl => ?_, fun hu => ?_, fun hm hl => ?_,
    fun hm hl => ?_, fun hm hh => ?_, fun hm hh => ?_, fun hm hv v hev => ?_⟩⟩
  · rw [governorStep_off hm]; exact ⟨hm, rfl⟩
  · rw [governorStep_idle hm]; exact ⟨hm, idleStep_request _ _ _⟩
  · rw [governorStep_speed hm]; exact ⟨hm, rfl, speedStep_request _ _ _⟩
  · rw [governorStep_roll hm]; exact ⟨hm, rfl⟩
  · by_cases hp : s.gov.mode = .pressure
    · rw [if_pos hp, governorStep_pressure hp ha, stepInPressure_lost hl]; rfl
    · rw [if_neg hp]
      by_cases hh : s.gov.mode = .hold
      · rw [governorStep_hold hh ha, stepInHold_lost hl]
      · exact governorStep_posts (by simp [hp, hh])
  · have hquiet (g : Governor) : (stepInPressure s.settings.gov s.time.uptime s.ceiling a g).2 = [] := by
      rcases hu with h | h
      · rw [stepInPressure_valid h]
      · rw [stepInPressure_held h]
    by_cases hh : s.gov.mode = .hold
    · rw [if_pos hh, governorStep_hold hh ha, stepInHold_usable hu, hquiet]; rfl
    · rw [if_neg hh]
      by_cases hp : s.gov.mode = .pressure
      · rw [governorStep_pressure hp ha, hquiet]
      · exact governorStep_posts (by simp [hp, hh])
  · rw [governorStep_hold hm ha, stepInHold_lost hl]; exact ⟨hm, rfl, rfl, rfl⟩
  · rw [governorStep_pressure hm ha, stepInPressure_lost hl]; exact ⟨rfl, rfl, rfl, rfl⟩
  · rw [governorStep_pressure hm ha, stepInPressure_held hh]; exact ⟨hm, rfl, rfl, rfl⟩
  · rw [governorStep_hold hm ha, stepInHold_usable (.inr hh), stepInPressure_held hh]; exact ⟨rfl, rfl, rfl, rfl⟩
  · rcases hm with hm | hm
    · rw [governorStep_pressure hm ha, stepInPressure_valid hv, hev]
      obtain ⟨raw, h⟩ := pressureStep_moves s.settings.gov s.ceiling v (stepStored s) hband
      refine ⟨raw, fun p e ePrev change hp he hprev hch => ⟨hm, h p e ePrev change hp he ?_ hch⟩⟩
      rw [hprev]
      exact if_congr (by simp [hm, stepStored]) rfl rfl
    · rw [governorStep_hold hm ha, stepInHold_usable (.inl hv), stepInPressure_valid hv, hev]
      obtain ⟨raw, h⟩ := pressureStep_moves s.settings.gov s.ceiling v (recovered (stepStored s)) hband
      refine ⟨raw, fun p e ePrev change hp he hprev hch => ⟨rfl, h p e ePrev change hp he ?_ hch⟩⟩
      rw [hprev]
      exact if_congr (by simp [hm, recovered]) rfl rfl

end Sys2Proof.Machine
end

section
/-! SUPPORT. The ceiling at a protection step, and O39 (R112 to R114). -/

namespace Sys2Proof.Machine

/-! ### The ceiling's moves -/

/-- The time of entry of a ceiling goes with its state (R112). -/
def EnteredWith (now : Uptime) (x y : Ceiling) : Prop :=
  (y.state = x.state → y.entered = x.entered) ∧ (y.state ≠ x.state → y.entered = now)

section
variable {g : GovSettings} {c : Settings} {now : Uptime} {x : Ceiling}

/-- A ceiling whose state stays was entered when it was. -/
theorem enteredWith_of_same {y : Ceiling} (hs : y.state = x.state) (he : y.entered = x.entered) : EnteredWith now x y :=
  ⟨fun _ => he, fun h => absurd hs h⟩

theorem ceilingTo_entered (st : CeilState) (v : Int) : EnteredWith now x (ceilingTo now st v x) :=
  ⟨fun h => if_pos h, fun h => if_neg h⟩

theorem startFalling_entered (idle v : Int) : EnteredWith now x (startFalling now idle v x) := by
  unfold startFalling
  split <;> exact ceilingTo_entered _ _

/-- A ceiling that falls, or has reached idle_rpm: FLOOR at it and FALLING above it, without a resume timer (R113). -/
theorem startFalling_falls (idle v : Int) :
    (startFalling now idle v x).steps = none ∧
    ((startFalling now idle v x).value ≤ idle → (startFalling now idle v x).state = .floor) ∧
    (idle < (startFalling now idle v x).value → (startFalling now idle v x).state = .falling) := by
  rw [startFalling_value]
  unfold startFalling
  split
  · next h => exact ⟨rfl, fun _ => rfl, fun h' => absurd h (not_le.mpr h')⟩
  · next h => exact ⟨rfl, fun h' => absurd h' h, fun _ => rfl⟩

theorem raiseCeiling_entered : EnteredWith now x (raiseCeiling g now x).1 := by
  unfold raiseCeiling
  dsimp only
  split <;> exact ceilingTo_entered _ _

/-- A ceiling raised by rise_limit: FREE at gov_max, with its notice, and RISING below it (R114). -/
theorem raiseCeiling_cases :
    (g.govMax ≤ x.value + g.riseLimit ∧ raiseCeiling g now x =
      (ceilingTo now .free (min g.govMax (x.value + g.riseLimit)) x,
        [noticeProtect 5 .info .free (some (min g.govMax (x.value + g.riseLimit)))])) ∨
    (x.value + g.riseLimit < g.govMax ∧ raiseCeiling g now x =
      (ceilingTo now .rising (min g.govMax (x.value + g.riseLimit)) x, [])) := by
  rcases le_or_gt g.govMax (x.value + g.riseLimit) with h | h
  · exact .inl ⟨h, if_pos (le_min (le_refl _) h)⟩
  · exact .inr ⟨h, if_neg fun hc => absurd (le_min_iff.mp hc).2 (not_le.mpr h)⟩

/-- What the raise leaves (R114). -/
theorem raiseCeiling_rises :
    (raiseCeiling g now x).1.value = min g.govMax (x.value + g.riseLimit) ∧ (raiseCeiling g now x).1.steps = none ∧
    ((raiseCeiling g now x).1.state = .free ↔ g.govMax ≤ x.value + g.riseLimit) ∧
    ((raiseCeiling g now x).1.state = .rising ↔ x.value + g.riseLimit < g.govMax) := by
  rcases raiseCeiling_cases (g := g) (now := now) (x := x) with ⟨h, e⟩ | ⟨h, e⟩ <;> rw [e]
  · exact ⟨rfl, rfl, iff_of_true rfl h, iff_of_false nofun (not_lt.mpr h)⟩
  · exact ⟨rfl, rfl, iff_of_false nofun (not_le.mpr h), iff_of_true rfl h⟩

/-! ### With a condition ACTIVE -/

section
variable {r : Int}

theorem ceilingUnder_free (h : x.state = .free) :
    ceilingUnder c now r x = startFalling now c.gov.idleRpm (max c.gov.idleRpm (min r c.gov.govMax)) x := by
  simp [ceilingUnder, h]

theorem ceilingUnder_falling (h : x.state = .falling) :
    ceilingUnder c now r x = startFalling now c.gov.idleRpm (max c.gov.idleRpm (x.value - c.prot.retreatStep)) x := by
  simp [ceilingUnder, h]

theorem ceilingUnder_standing (h : x.state ∈ [.waiting, .latched, .rising]) :
    ceilingUnder c now r x = startFalling now c.gov.idleRpm x.value x := by
  simp only [List.mem_cons, List.not_mem_nil, or_false] at h
  rcases h with h | h | h <;> simp [ceilingUnder, h]

theorem ceilingUnder_floor (h : x.state = .floor) : ceilingUnder c now r x = x := by
  simp [ceilingUnder, h]

/-- Off FLOOR a ceiling with a condition ACTIVE falls from some value. -/
theorem ceilingUnder_falls (h : x.state ≠ .floor) : ∃ v, ceilingUnder c now r x = startFalling now c.gov.idleRpm v x := by
  cases hx : x.state
  case free => exact ⟨_, ceilingUnder_free hx⟩
  case falling => exact ⟨_, ceilingUnder_falling hx⟩
  case floor => exact absurd hx h
  case waiting => exact ⟨_, ceilingUnder_standing (by rw [hx]; decide)⟩
  case latched => exact ⟨_, ceilingUnder_standing (by rw [hx]; decide)⟩
  case rising => exact ⟨_, ceilingUnder_standing (by rw [hx]; decide)⟩

end

/-- The ceiling at a step with an enabled condition ACTIVE, by its state (R112, R113). -/
theorem ceilingUnder_moves {r : Int} :
    (x.state = .free → (ceilingUnder c now r x).value = max c.gov.idleRpm (min r c.gov.govMax)) ∧
    (x.state = .falling → (ceilingUnder c now r x).value = max c.gov.idleRpm (x.value - c.prot.retreatStep)) ∧
    (x.state ∈ [.waiting, .latched, .rising] → (ceilingUnder c now r x).value = x.value) ∧
    (x.state = .floor → ceilingUnder c now r x = x) ∧
    (x.state ≠ .floor → (ceilingUnder c now r x).steps = none ∧
      ((ceilingUnder c now r x).value ≤ c.gov.idleRpm → (ceilingUnder c now r x).state = .floor) ∧
      (c.gov.idleRpm < (ceilingUnder c now r x).value → (ceilingUnder c now r x).state = .falling)) := by
  refine ⟨fun h => ?_, fun h => ?_, fun h => ?_, ceilingUnder_floor, fun h => ?_⟩
  · rw [ceilingUnder_free h, startFalling_value]
  · rw [ceilingUnder_falling h, startFalling_value]
  · rw [ceilingUnder_standing h, startFalling_value]
  · obtain ⟨v, e⟩ := ceilingUnder_falls (c := c) (now := now) (r := r) h
    rw [e]
    exact startFalling_falls _ _

/-! ### With none -/

theorem ceilingClear_free (h : x.state = .free) : ceilingClear c now x = ({ x with value := c.gov.govMax }, []) := by
  simp [ceilingClear, h]

theorem ceilingClear_latched (h : x.state = .latched) : ceilingClear c now x = (x, []) := by
  simp [ceilingClear, h]

theorem ceilingClear_auto (h : x.state = .falling ∨ x.state = .floor) (hm : c.prot.resumeMode = .auto) :
    ceilingClear c now x =
      ({ ceilingTo now .waiting x.value x with steps := some (max 1 (c.prot.resumeDelay / 20)) }, []) := by
  rcases h with h | h <;> simp [ceilingClear, h, hm, resumeSteps]

theorem ceilingClear_manual (h : x.state = .falling ∨ x.state = .floor) (hm : c.prot.resumeMode = .manual) :
    ceilingClear c now x = (ceilingTo now .latched x.value x, [noticeProtect 5 .warning .latched (some x.value)]) := by
  rcases h with h | h <;> simp [ceilingClear, h, hm]

theorem ceilingClear_waits {n : Nat} (h : x.state = .waiting) (hn : x.steps = some (n + 2)) :
    ceilingClear c now x = ({ x with steps := some (n + 1) }, []) := by
  simp [ceilingClear, h, hn]

theorem ceilingClear_raises (h : x.state = .rising ∨ (x.state = .waiting ∧ x.steps = some 1)) :
    ceilingClear c now x = raiseCeiling c.gov now x := by
  rcases h with h | ⟨h, hn⟩
  · simp [ceilingClear, h]
  · simp [ceilingClear, h, hn]

/-- The ceiling at a step with no enabled condition ACTIVE, by its state (R112, R114). -/
theorem ceilingClear_moves :
    (x.state = .free → (ceilingClear c now x).1 = { x with value := c.gov.govMax }) ∧
    (x.state = .latched → (ceilingClear c now x).1 = x) ∧
    (x.state = .falling ∨ x.state = .floor → (ceilingClear c now x).1.value = x.value ∧
      (c.prot.resumeMode = .auto → (ceilingClear c now x).1.state = .waiting ∧
        (ceilingClear c now x).1.steps = some (max 1 (c.prot.resumeDelay / 20))) ∧
      (c.prot.resumeMode = .manual → (ceilingClear c now x).1.state = .latched ∧ (ceilingClear c now x).1.steps = none)) ∧
    (∀ n, x.state = .waiting → x.steps = some (n + 2) → (ceilingClear c now x).1 = { x with steps := some (n + 1) }) ∧
    (x.state = .rising ∨ (x.state = .waiting ∧ x.steps = some 1) →
      (ceilingClear c now x).1.value = min c.gov.govMax (x.value + c.gov.riseLimit) ∧
      (ceilingClear c now x).1.steps = none ∧
      ((ceilingClear c now x).1.state = .free ↔ c.gov.govMax ≤ x.value + c.gov.riseLimit) ∧
      ((ceilingClear c now x).1.state = .rising ↔ x.value + c.gov.riseLimit < c.gov.govMax)) := by
  refine ⟨fun h => ?_, fun h => ?_, fun h => ?_, fun n h hn => ?_, fun h => ?_⟩
  · rw [ceilingClear_free h]
  · rw [ceilingClear_latched h]
  · cases hm : c.prot.resumeMode
    · rw [ceilingClear_auto h hm]
      exact ⟨rfl, fun _ => ⟨rfl, rfl⟩, nofun⟩
    · rw [ceilingClear_manual h hm]
      exact ⟨rfl, nofun, fun _ => ⟨rfl, rfl⟩⟩
  · rw [ceilingClear_waits h hn]
  · rw [ceilingClear_raises h]
    exact raiseCeiling_rises

/-- What a step without an ACTIVE condition can do to the ceiling. -/
theorem ceilingClear_cases :
    ((ceilingClear c now x).1.state = x.state ∧ (ceilingClear c now x).1.entered = x.entered ∧
      (ceilingClear c now x).2 = []) ∨
    (∃ steps, ceilingClear c now x = ({ ceilingTo now .waiting x.value x with steps }, [])) ∨
    ceilingClear c now x = (ceilingTo now .latched x.value x, [noticeProtect 5 .warning .latched (some x.value)]) ∨
    ceilingClear c now x = raiseCeiling c.gov now x := by
  have stands (h : x.state = .falling ∨ x.state = .floor) :
      (∃ steps, ceilingClear c now x = ({ ceilingTo now .waiting x.value x with steps }, [])) ∨
      ceilingClear c now x = (ceilingTo now .latched x.value x, [noticeProtect 5 .warning .latched (some x.value)]) := by
    cases hm : c.prot.resumeMode
    · exact .inl ⟨_, ceilingClear_auto h hm⟩
    · exact .inr (ceilingClear_manual h hm)
  cases hx : x.state
  case free => rw [ceilingClear_free hx]; exact .inl ⟨hx, rfl, rfl⟩
  case latched => rw [ceilingClear_latched hx]; exact .inl ⟨hx, rfl, rfl⟩
  case falling => exact .inr ((stands (.inl hx)).imp_right .inl)
  case floor => exact .inr ((stands (.inr hx)).imp_right .inl)
  case rising => exact .inr (.inr (.inr (ceilingClear_raises (.inl hx))))
  case waiting =>
    rcases hn : x.steps with _ | n
    · simp [ceilingClear, hx, hn]
    · by_cases h1 : n ≤ 1
      · simp [ceilingClear, hx, hn, h1]
      · simp [ceilingClear, hx, hn, h1]

/-! ### The step -/

/-- The ceiling goes with its time of entry at every step. -/
theorem stepCeiling_entered (active : Bool) (r : Int) : EnteredWith now x (stepCeiling c now active r x).1 := by
  cases active
  · rcases ceilingClear_cases (c := c) (now := now) (x := x) with ⟨h1, h2, -⟩ | ⟨n, h⟩ | h | h
    · exact enteredWith_of_same h1 h2
    · rw [show stepCeiling c now false r x = _ from h]; exact ceilingTo_entered .waiting x.value
    · rw [show stepCeiling c now false r x = _ from h]; exact ceilingTo_entered .latched x.value
    · rw [show stepCeiling c now false r x = _ from h]; exact raiseCeiling_entered
  · by_cases hf : x.state = .floor
    · rw [show stepCeiling c now true r x = (x, []) from congrArg (·, []) (ceilingUnder_floor hf)]
      exact enteredWith_of_same rfl rfl
    · obtain ⟨v, h⟩ := ceilingUnder_falls (c := c) (now := now) (r := r) hf
      rw [show stepCeiling c now true r x = (startFalling now c.gov.idleRpm v x, []) from congrArg (·, []) h]
      exact startFalling_entered _ _

/-- PROTECT of subject 5 tells of LATCHED, a WARNING, and of FREE, and of nothing else (R112, R184). -/
theorem stepCeiling_posts (active : Bool) (r : Int) : (stepCeiling c now active r x).2.length ≤ 1 ∧
    ((stepCeiling c now active r x).1.state ≠ x.state →
      ((stepCeiling c now active r x).1.state = .latched → (stepCeiling c now active r x).2 =
        [noticeProtect 5 .warning .latched (some (stepCeiling c now active r x).1.value)]) ∧
      ((stepCeiling c now active r x).1.state = .free → (stepCeiling c now active r x).2 =
        [noticeProtect 5 .info .free (some (stepCeiling c now active r x).1.value)])) := by
  cases active
  · rcases ceilingClear_cases (c := c) (now := now) (x := x) with ⟨h1, -, h3⟩ | ⟨n, h⟩ | h | h
    · exact ⟨by rw [show (stepCeiling c now false r x).2 = _ from h3]; decide, fun hn => absurd h1 hn⟩
    · rw [show stepCeiling c now false r x = _ from h]; exact ⟨Nat.zero_le _, fun _ => ⟨nofun, nofun⟩⟩
    · rw [show stepCeiling c now false r x = _ from h]; exact ⟨Nat.le_refl _, fun _ => ⟨fun _ => rfl, nofun⟩⟩
    · rw [show stepCeiling c now false r x = _ from h]
      rcases raiseCeiling_cases (g := c.gov) (now := now) (x := x) with ⟨-, e⟩ | ⟨-, e⟩ <;> rw [e]
      · exact ⟨Nat.le_refl _, fun _ => ⟨nofun, fun _ => rfl⟩⟩
      · exact ⟨Nat.zero_le _, fun _ => ⟨nofun, nofun⟩⟩
  · refine ⟨Nat.zero_le _, fun hn => ?_⟩
    by_cases hf : x.state = .floor
    · exact absurd (congrArg Ceiling.state (ceilingUnder_floor hf)) hn
    · obtain ⟨v, h⟩ := ceilingUnder_falls (c := c) (now := now) (r := r) hf
      have hs : (stepCeiling c now true r x).1 = startFalling now c.gov.idleRpm v x := h
      rw [hs]
      unfold startFalling
      split <;> exact ⟨nofun, nofun⟩

end

/-- A condition posts at most one PROTECT at a step (R103). -/
theorem stepCond_posts (s : State) (i : Fin 5) : (stepCond s i).2.length ≤ 1 := by
  unfold stepCond moveCond
  dsimp only
  split
  · exact Nat.zero_le _
  · split <;> exact Nat.le_refl _

/-- Whether an enabled condition is ACTIVE after a step's tests (R112). -/
def stepActive (s : State) : Bool := anyActive s.settings.prot (protectionStep s).1.conds

/-- The ceiling that a step leaves (R112). -/
theorem protectionStep_ceiling (s : State) : (protectionStep s).1.ceiling = (stepCeiling s.settings s.time.uptime
    (stepActive s) (requestInForce s.settings.gov.idleRpm s.gov) s.prot.ceiling).1 := rfl

/-- The ceiling's notice is the last of a step's, after at most five of the conditions (R103, R112). -/
theorem protectionStep_posts (s : State) : ∃ ns, ns.length ≤ 5 ∧ (protectionStep s).2 = ns ++ (stepCeiling s.settings
    s.time.uptime (stepActive s) (requestInForce s.settings.gov.idleRpm s.gov) s.prot.ceiling).2 := by
  refine ⟨_, ?_, rfl⟩
  have h (i : Fin 5) := stepCond_posts s i
  have h0 := h 0
  have h1 := h 1
  have h2 := h 2
  have h3 := h 3
  have h4 := h 4
  simp only [List.length_append]
  omega

/-- The ceiling's notice waits in a queue that has room for the step's and for those of the reactions. -/
theorem protectionStep_noticeWaits {s t : State} {n : Notice} (hr : Reacted (putProtection (protectionStep s) s) t)
    (hq : s.notices.entries.length ≤ 4) (hk : n.kind ∉ reactionKinds)
    (hn : (stepCeiling s.settings s.time.uptime (stepActive s) (requestInForce s.settings.gov.idleRpm s.gov)
      s.prot.ceiling).2 = [n]) :
    NoticeWaits n.kind n.subject n.detail t.notices ∧
    (n.cls ≠ .info → WarningWaits n.kind n.subject n.detail t.notices) := by
  obtain ⟨ns, hlen, hposts⟩ := protectionStep_posts s
  rw [hn] at hposts
  let q := postAll s.time.uptime s.notices ns
  have hu : (putProtection (protectionStep s) s).notices = postNotice s.time.uptime q n := by
    show postAll s.time.uptime s.notices (protectionStep s).2 = _
    rw [hposts, postAll_append]
    rfl
  have hroom : q.entries.length ≤ 9 := (postAll_length _ _ _).trans (by omega)
  have hlast := postNotice_length s.time.uptime q n
  have hlt : q.entries.length < queueCapacity := show _ < 32 by omega
  have keeps (e : Entry) (he : e ∈ (postNotice s.time.uptime q n).entries) (hke : e.kind = n.kind) :
      e ∈ t.notices.entries := hr.keepsEntry (by rw [hu]; omega) e (hu ▸ he) (hke ▸ hk)
  refine ⟨?_, fun hc => ?_⟩
  · obtain ⟨e, he, hs, hkind, hrest⟩ := postNotice_noticeWaits s.time.uptime q n hlt
    exact ⟨e, keeps e he hkind, hs, hkind, hrest⟩
  · obtain ⟨e, he, hs, hkind, hrest⟩ := postNotice_warningWaits s.time.uptime q n hc hlt
    exact ⟨e, keeps e he hkind, hs, hkind, hrest⟩

/-- A step at which a waiting ceiling's timer reaches 0 is RESUME_TIMER_EXPIRY (R114, log entry 8). -/
theorem resumeTimerExpiry_eq {s : State} (hdue : due s.time.uptime s.prot.next = true) (ha : stepActive s = false)
    (hx : s.prot.ceiling.state = .waiting) (hn : s.prot.ceiling.steps = some 1) (hw : s.working = true) :
    exec .resumeTimerExpiry s = exec .protectionStep s := by
  have hends : resumeEnds s = true := by
    have hy : (protectionStep s).1.ceiling = (raiseCeiling s.settings.gov s.time.uptime s.prot.ceiling).1 := by
      rw [protectionStep_ceiling, ha]
      exact congrArg Prod.fst (ceilingClear_raises (.inr ⟨hx, hn⟩))
    unfold resumeEnds
    rw [hx, hn, hy]
    rcases raiseCeiling_cases (g := s.settings.gov) (now := s.time.uptime) (x := s.prot.ceiling) with ⟨-, e⟩ | ⟨-, e⟩ <;>
      rw [e] <;> rfl
  show Host.Outcome.next (workingEvent _ s) = Host.Outcome.next (workingEvent _ s)
  rw [workingEvent_settle _ hw, workingEvent_settle _ hw]
  simp only [hdue, hends, Bool.and_self, if_true]

/-- Settles O39: the step's ceiling is `stepCeiling`, by whether a condition is ACTIVE after the tests and by the ceiling's
state. -/
theorem ceilingFallsAndRises : Obligations.CeilingFallsAndRises := by
  unfold Obligations.CeilingFallsAndRises
  intro s x c request hw hdue hx hc hreq
  obtain ⟨t, ht, -, hr⟩ := guarded_reacted (c := .protectionStep) (g := fun s => due s.time.uptime s.prot.next = true)
    (f := fun s => putProtection (protectionStep s) s) rfl hw hdue
  rw [← requestInForce_eq] at hreq
  have hy : t.prot.ceiling = (stepCeiling c s.time.uptime (stepActive s) request x).1 := by
    rw [hr.monitor, hx, hc, hreq, hc]
    rfl
  have hactive : SomeActive t ↔ stepActive s = true := by
    have hnone := (lowestActive_none (putProtection (protectionStep s) s)).not
    rw [not_not] at hnone
    rw [stepActive, anyActive, Option.isSome_iff_ne_none]
    refine Iff.trans ?_ hnone.symm
    unfold SomeActive
    rw [hr.settings, hr.monitor]
  have hentered := stepCeiling_entered (c := c) (now := s.time.uptime) (x := x) (stepActive s) request
  have hposts := (stepCeiling_posts (c := c) (now := s.time.uptime) (x := x) (stepActive s) request).2
  rw [← hy] at hentered hposts
  subst hx hc hreq
  refine ⟨t, t.prot.ceiling, ht, rfl, hr.settings, hentered.1, hentered.2,
    fun hne hq => ⟨fun hl => ?_, fun hf => ?_⟩, fun ha => ?_, fun ha => ?_⟩
  · exact (protectionStep_noticeWaits hr hq (by simp [noticeProtect, reactionKinds]) ((hposts hne).1 hl)).2 nofun
  · exact (protectionStep_noticeWaits hr hq (by simp [noticeProtect, reactionKinds]) ((hposts hne).2 hf)).1
  · rw [hactive.mp ha] at hy
    rw [hy]
    exact ceilingUnder_moves
  · have hno : stepActive s = false := by rw [← Bool.not_eq_true, ← hactive]; exact ha
    rw [hno] at hy
    rw [hy]
    obtain ⟨h1, h2, h3, h4, h5⟩ := ceilingClear_moves (c := s.settings) (now := s.time.uptime) (x := s.prot.ceiling)
    exact ⟨h1, h2, h3, h4, h5, fun hx hn => (resumeTimerExpiry_eq hdue hno hx hn hw).trans ht⟩

end Sys2Proof.Machine
end

section
/-! SUPPORT. What each command does of itself to the governor's record and to the throttle path, said once for all commands that are
no starting point: most leave both, some change the record alone, and a transmit error can take the path away (R79 to R90). -/

namespace Sys2Proof.Machine

/-! ### Effects on the governor -/

/-- The port has no throttle path (R85). -/
def PathLost (p : PortState) : Prop := p = .busOff ∨ p = .recovering

/-- An own effect that leaves the governor's record, but for a first step asked for (R88), and takes no throttle path away. -/
structure GovernorLeft (s u : State) : Prop where
  gov : u.gov = { s.gov with firstStep := u.gov.firstStep }
  port : PathLost u.chassis.port → PathLost s.chassis.port

/-- An own effect that changes the governor's record alone, of all that the governor and the sequencer read. -/
structure GovernorMoved (s u : State) : Prop where
  undrawn : Undrawn s u
  move : GovernorStays s s.gov → GovernorMove s u.gov

/-- A command's own effect on the governor: it leaves the record or changes it alone. -/
def GovernorEffect (s u : State) : Prop := GovernorLeft s u ∨ GovernorMoved s u

/-- The own effect of a transmit error that takes the throttle path away, with at most two notices (R41 to R43). -/
structure PathFell (s u : State) : Prop where
  sources : SteadySources s u
  gov : u.gov = s.gov
  lost : PathLost u.chassis.port
  notices : u.notices.entries.length ≤ s.notices.entries.length + 2

section
variable {s u v : State}

theorem GovernorLeft.of_same (hg : u.gov = s.gov) (hp : u.chassis.port = s.chassis.port) : GovernorLeft s u :=
  ⟨by rw [hg], by rw [hp]; exact id⟩

theorem GovernorLeft.refl (s : State) : GovernorLeft s s := .of_same rfl rfl

/-- An effect on the port that leaves it with a throttle path. -/
theorem GovernorLeft.of_path (hg : u.gov = s.gov) (hp : ¬ PathLost u.chassis.port) : GovernorLeft s u :=
  ⟨by rw [hg], fun h => absurd h hp⟩

/-- Nothing done. -/
theorem GovernorEffect.refl (s : State) : GovernorEffect s s := .inl (.refl s)

theorem GovernorEffect.of_same (hg : u.gov = s.gov) (hp : u.chassis.port = s.chassis.port) : GovernorEffect s u :=
  .inl (.of_same hg hp)

theorem GovernorEffect.of_agree (h : Agree s u) : GovernorEffect s u := .of_same h.gov h.port

/-- Two states between which the link's record alone is touched, of all that the governor and the sequencer read. -/
structure LinkTouched (s u : State) : Prop where
  undrawn : Undrawn s u
  gov : u.gov = s.gov

/-- What the link's record is touched before and after. -/
theorem GovernorEffect.between {s' u' : State} (h : GovernorEffect s' u') (hs : LinkTouched s s') (hu : LinkTouched u' u) :
    GovernorEffect s u := by
  rcases h with h | h
  · refine .inl ⟨?_, fun hl => ?_⟩
    · rw [hu.gov, h.gov, hs.gov]
    · rw [hu.undrawn.port] at hl
      have := h.port hl
      rwa [hs.undrawn.port] at this
  · refine .inr ⟨(hs.undrawn.trans h.undrawn).trans hu.undrawn, fun hst => ?_⟩
    have hm := h.move (by
      rw [hs.gov]
      exact hst.congr hs.undrawn.port hs.undrawn.pto hs.undrawn.stationary)
    rw [hu.gov]
    refine ⟨hm.path.trans (by rw [hs.gov]), hm.governed.trans (by rw [hs.gov]), hm.windDown.trans (by rw [hs.gov]), ?_⟩
    have hmode := hm.mode
    rwa [hs.gov, hs.undrawn.stationary] at hmode

theorem takeRequest_touches (s : State) : LinkTouched s (takeRequest s) := ⟨takeRequest_undrawn s, takeRequest_gov s⟩

theorem deliver_touches (tag : Byte) (a : Answer) : LinkTouched a.state (deliver tag a) := by
  unfold deliver
  split
  · exact ⟨.refl _, rfl⟩
  · exact ⟨putReply_undrawn _ _ _ _, rfl⟩

end

/-! ### Requests -/

theorem handleGovern_governor (m : Byte) (v : BitVec 16) (s : State) : GovernorEffect s (handleGovern m v s).state := by
  unfold handleGovern handleGovernPressure handleGovernSpeed
  split
  · split
    · next ha =>
      obtain ⟨f1, f2, f3, f4, -⟩ := governPressure_frame s.gov
      exact .inr ⟨⟨⟨fun _ => rfl, rfl, rfl, rfl, rfl, rfl, rfl⟩, rfl⟩,
        fun _ => ((governAccepted_iff s).mp ha).move f1 f2 f3 f4⟩
    · exact .refl s
  · split
    · split
      · next ha =>
        obtain ⟨f1, f2, f3, f4, -⟩ := governSpeed_frame s.gov
        exact .inr ⟨⟨⟨fun _ => rfl, rfl, rfl, rfl, rfl, rfl, rfl⟩, rfl⟩,
          fun _ => ((governAccepted_iff s).mp ha).move f1 f2 f3 f4⟩
      · exact .refl s
    · exact .refl s

theorem handlePumpIdle_governor (s : State) : GovernorEffect s (handlePumpIdle s).state := by
  have idle (hm : s.gov.mode ∉ [.roll, .off]) : GovernorEffect s { s with gov := enterIdle s.gov } :=
    .inr ⟨⟨⟨fun _ => rfl, rfl, rfl, rfl, rfl, rfl, rfl⟩, rfl⟩, fun _ => enterIdle_move hm⟩
  unfold handlePumpIdle
  split
  · next hm => exact idle (by rw [hm]; decide)
  · next hm => exact idle (by rw [hm]; decide)
  · next hm => exact idle (by rw [hm]; decide)
  · exact .refl s
  · exact .refl s
  · exact .refl s

theorem handleResume_governor (s : State) : GovernorEffect s (handleResume s).state :=
  .inr ⟨⟨⟨fun _ => rfl, rfl, rfl, rfl, rfl, rfl, rfl⟩, rfl⟩, fun _ => resumeGovernor_move s⟩

theorem handleRecover_governor (s : State) : GovernorEffect s (handleRecover s).state := by
  unfold handleRecover
  split
  · next hp => exact .inl ⟨rfl, fun _ => .inl hp⟩
  · exact .refl s

/-- A change of settings takes no throttle path away: a change of bit rate brings the port back, and auto-recovery starts from
BUS_OFF alone (R25, R43). -/
theorem retuneChassis_path (old new : Settings) (ch : Chassis) :
    PathLost (retuneChassis old new ch).1.port → PathLost ch.port := by
  unfold retuneChassis retuneRecovery retuneBitRate
  dsimp only
  split
  · split
    · next h => exact absurd h.2.2 nofun
    · rintro (h | h) <;> cases h
  · split
    · next h => exact fun _ => .inl h.2.2
    · exact id

theorem applySettings_governor (new : Settings) (s : State) : GovernorEffect s (applySettings new s) := by
  refine .inl ⟨?_, retuneChassis_path s.settings new s.chassis⟩
  rw [show (applySettings new s).gov = retuneGovernor s.settings.gov new.gov s.gov from rfl]
  unfold retuneGovernor
  split <;> rfl

theorem handleSet_governor (o i : Byte) (es : List FieldEntry) (s : State) :
    GovernorEffect s (handleSet o i es s).state := by
  unfold handleSet
  split
  · exact .refl s
  · split
    · exact .refl s
    · split
      · exact .refl s
      · split
        · exact .refl s
        · split
          · exact .refl s
          · exact applySettings_governor _ s

theorem handleRecall_governor (s : State) : GovernorEffect s (handleRecall s).state := by
  unfold handleRecall
  split
  · exact .refl s
  · split
    · exact .refl s
    · split
      · exact .refl s
      · exact applySettings_governor _ s

/-- Every request's handling leaves the governor's record or changes it alone. -/
theorem Handled.governor {s : State} {a : Answer} (h : Handled s a) : GovernorEffect s a.state := by
  rcases h.agree_or with h | ⟨d, rfl⟩ | ⟨d, rfl⟩ | ⟨d, rfl⟩ | ⟨m, v, rfl⟩ | rfl | rfl | ⟨b, rfl⟩ | ⟨b, rfl⟩ | rfl |
    ⟨o, i, es, rfl⟩ | rfl
  · exact .of_agree h
  · unfold handleEngage; split <;> exact .of_same rfl rfl
  · unfold handleDisengage; split <;> exact .of_same rfl rfl
  · unfold handleFaultClear; split <;> exact .of_same rfl rfl
  · exact handleGovern_governor m v s
  · exact handlePumpIdle_governor s
  · exact handleResume_governor s
  · unfold handleRelease; split <;> exact .of_same rfl rfl
  · unfold handleForce
    split
    · exact .of_same rfl rfl
    · split <;> exact .of_same rfl rfl
  · exact handleRecover_governor s
  · exact handleSet_governor o i es s
  · exact handleRecall_governor s

/-! ### The port and the inputs -/

/-- New counts leave the bus with a throttle path (R41). -/
theorem withCounts_path (tec rec : Nat) (ch : Chassis) : ¬ PathLost (withCounts tec rec ch).1.port := by
  rw [withCounts_port]
  split <;> (rintro (h | h) <;> cases h)

theorem receiveFrame_governor (f : BusFrame) {s v : State} (hg : v.gov = s.gov) : GovernorEffect s (receiveFrame f v) := by
  unfold receiveFrame
  split
  · exact .inl (.of_path hg (withCounts_path _ _ _))
  · exact .inl (.of_path hg (withCounts_path _ _ _))

theorem loseArbitration_governor (winner : Option BusFrame) (i : Fin 4) (s : State) :
    GovernorEffect s (loseArbitration winner i s) := by
  unfold loseArbitration
  split
  · exact .of_same rfl rfl
  · split
    · exact receiveFrame_governor _ rfl
    · exact .refl s

/-- The end of a sending attempt, by what it does to the slot. -/
theorem endAttempt_governor {f : Fin 4 → State → State} (h : ∀ i s, GovernorEffect s (f i s)) (s : State) :
    GovernorEffect s (endAttempt f s) := by
  unfold endAttempt
  split
  · exact .refl s
  · exact h _ s

theorem sentWell_governor (i : Fin 4) (s : State) :
    GovernorEffect s (putChassis (sentWell s.settings s.time.uptime i s.chassis) s) :=
  .inl (.of_path rfl (withCounts_path _ _ _))

theorem recessiveRun_governor (s : State) : GovernorEffect s (putChassis (recessiveRun s.chassis) s) := by
  refine .inl ⟨rfl, ?_⟩
  show PathLost (recessiveRun s.chassis).1.port → _
  unfold recessiveRun
  split
  · next hp => exact fun _ => .inr hp
  · exact id

theorem takeDiscrete_governor (ch : Fin 10) (b : Bool) (s : State) : GovernorEffect s (takeDiscrete ch b s) := by
  unfold takeDiscrete handDiscrete
  dsimp only
  split
  · exact .of_same rfl rfl
  · exact .of_same rfl rfl
  · exact .of_same rfl rfl
  · exact .of_same rfl rfl
  · split
    · exact .of_same rfl rfl
    · split <;> exact .of_same rfl rfl

theorem executeAwaiting_governor (s : State) : GovernorEffect s (executeAwaiting s) := by
  unfold executeAwaiting
  split
  · exact .refl s
  · next f _ =>
    split
    · exact (judgeFrame_handled f { s with link := { s.link with awaiting := none } }).governor.between
        ⟨⟨⟨fun _ => rfl, rfl, rfl, rfl, rfl, rfl, rfl⟩, rfl⟩, rfl⟩ (deliver_touches _ _)
    · exact .refl s

/-- A transmit error beyond the count's range takes the path away (R41, R42); another leaves the port on the bus. -/
theorem sendFailed_governor (i : Fin 4) (s : State) :
    GovernorEffect s (putChassis (sendFailed s.settings i s.chassis) s) ∨
    PathFell s (putChassis (sendFailed s.settings i s.chassis) s) := by
  by_cases hc : 247 < s.chassis.txErrors
  · refine .inr ?_
    rw [sendFailed_bus_off hc]
    have hframe := enterBusOff_frame s.settings.chassis.autoRecovery (takenBack s.settings i s.chassis)
    have hrx : (enterBusOff s.settings.chassis.autoRecovery (takenBack s.settings i s.chassis)).1.rx = s.chassis.rx := by
      rw [hframe]
      rfl
    have hsees : Sees s (putChassis (enterBusOff s.settings.chassis.autoRecovery (takenBack s.settings i s.chassis)) s) :=
      ⟨rfl, rfl, hrx, rfl, rfl⟩
    refine ⟨⟨fun q => hsees.quantity q, hsees.vehicle, hsees.env_eq rfl, rfl, rfl, rfl, rfl⟩, rfl, ?_, ?_⟩
    · show PathLost (enterBusOff _ _).1.port
      rw [hframe]
      cases s.settings.chassis.autoRecovery
      · exact .inl rfl
      · exact .inr rfl
    · refine (postAll_length _ _ _).trans (Nat.add_le_add_left ?_ _)
      unfold enterBusOff startRecovery
      dsimp only
      split <;> simp
  · rw [sendFailed_counted (by omega)]
    exact .inl (.inl (.of_path rfl (withCounts_path _ _ _)))

/-! ### Commands -/

section
variable {c : Instr} {s t : State}

/-- A guarded effect. -/
theorem GovernorEffect.guard {s u : State} {p : Prop} [Decidable p] (h : GovernorEffect s u) :
    GovernorEffect s (if p then u else s) := by
  split
  · exact h
  · exact .refl s

/-- An event, by its own effect. -/
theorem event_governor {f : State → State} (h : exec c s = .next t) (hc : exec c s = .next (event f s))
    (hf : GovernorEffect s (f s)) : EventOf GovernorEffect s t := by
  cases Host.Outcome.next.inj (h.symm.trans hc)
  exact event_eventOf hf

/-- An event of a working part, by its own effect. -/
theorem workingEvent_governor {f : State → State} (h : exec c s = .next t) (hc : exec c s = .next (workingEvent f s))
    (hf : GovernorEffect s (f s)) : EventOf GovernorEffect s t := by
  cases Host.Outcome.next.inj (h.symm.trans hc)
  exact workingEvent_eventOf (.refl s) hf

/-- A request's row, by its handling. -/
theorem request_governor {f : HostFrame} {g : State → Answer} (hg : ∀ s, Handled s (g s)) :
    EventOf GovernorEffect s (request f g s) := by
  refine workingEvent_eventOf (.refl s) ?_
  split
  · exact (hg (takeRequest s)).governor.between (takeRequest_touches s) (deliver_touches _ _)
  · exact .refl s

/-- Every command that is no starting point and leaves the supply, but for a transmit error, leaves the governor's record or
changes it alone. -/
theorem exec_governorEffect (hc : mayStart c = false) (he : c ≠ .transmitError) (h : exec c s = .next t) :
    EventOf GovernorEffect s t := by
  have row {f : HostFrame} {g : State → Answer} (hu : exec c s = .next (request f g s)) (hg : ∀ s, Handled s (g s)) :
      EventOf GovernorEffect s t := by
    cases Host.Outcome.next.inj (h.symm.trans hu)
    exact request_governor hg
  match c with
  | .powerOn | .meterWriteComplete | .settlingEnd | .lossOfSupply => cases hc
  | .transmitError => exact absurd rfl he
  | .millisecondEnd => exact event_governor h rfl (.of_same rfl rfl)
  | .meterWriteStart | .analogSample _ _ | .holdExpiry _ | .burstTimerExpiry | .burstEvent | .restartProceed =>
    exact event_governor h rfl (.guard (.of_same rfl rfl))
  | .discreteSample ch b => exact event_governor h rfl (.guard (takeDiscrete_governor ch b s))
  | .lineBreak => exact event_governor h rfl (by split <;> exact .of_same rfl rfl)
  | .storeComplete => exact event_governor h rfl (.guard (.of_agree (finishStore_agree s)))
  | .txFrameEnd => exact event_governor h rfl (.of_agree (endFrame_agree s))
  | .pulseInterval _ _ | .agreementExpiry | .ageExpiry _ | .requestRecheck _ | .requestWindowExpiry _ | .shiftTimeout _
  | .settleExpiry _ | .windDownRecheck _ | .windDownNoticeExpiry _ | .releaseTimeout _ | .uncommandedExpiry _
  | .protectionStep | .qualificationExpiry | .resumeTimerExpiry | .gaugeEvent | .fillTimeout | .holdOffExpiry _
  | .characterError _ | .interByteTimeout | .spacingExpiry _ | .statusPeriod | .silenceExpiry | .rundownTimeout =>
    exact workingEvent_governor h rfl (.guard (.of_same rfl rfl))
  | .busJoin | .t0Period | .t1Period | .t2Period =>
    exact workingEvent_governor h rfl (.guard (.of_same rfl (by simp [joinBus])))
  | .recoveryComplete => exact workingEvent_governor h rfl (.guard (.inl (.of_path rfl (by rintro (h | h) <;> cases h))))
  | .receiveError => exact workingEvent_governor h rfl (.guard (.inl (.of_path rfl (withCounts_path _ _ _))))
  | .recessiveRun => exact workingEvent_governor h rfl (recessiveRun_governor s)
  | .rxDataFrame _ _ | .rxRemoteFrame _ => exact workingEvent_governor h rfl (.guard (receiveFrame_governor _ rfl))
  | .transmitOffer => exact workingEvent_governor h rfl (.guard (.of_agree (offerFrame_agree s)))
  | .frameSent =>
    exact workingEvent_governor h rfl (.guard (endAttempt_governor sentWell_governor s))
  | .lostArbitration winner =>
    exact workingEvent_governor h rfl (.guard (endAttempt_governor (loseArbitration_governor winner) s))
  | .governorStep =>
    exact workingEvent_governor h rfl (.guard (.inr ⟨⟨⟨fun _ => rfl, rfl, rfl, rfl, rfl, rfl, rfl⟩, rfl⟩,
      fun _ => governorStep_move s⟩))
  | .governorHoldExpiry =>
    exact workingEvent_governor h rfl (.guard (.inr ⟨⟨⟨fun _ => rfl, rfl, rfl, rfl, rfl, rfl, rfl⟩, rfl⟩,
      fun _ => expireGovernorHold_move s⟩))
  | .stopTimerExpiry =>
    refine workingEvent_governor h rfl ?_
    split
    · next hd =>
      exact .inr ⟨⟨⟨fun _ => rfl, rfl, rfl, rfl, rfl, rfl, rfl⟩, rfl⟩, fun hst => expireStop_move hst hd⟩
    · exact .refl s
  | .overspeedExpiry =>
    exact workingEvent_governor h rfl (.guard (by unfold tripOverspeed; dsimp only; split <;> exact .of_same rfl rfl))
  | .frameReceived f =>
    exact workingEvent_governor h rfl (.guard (by unfold completeFrame; split <;> exact .of_same rfl rfl))
  | .receivedByte b => exact workingEvent_governor h rfl (.of_agree (receiveByte_agree b s))
  | .executionStart => exact workingEvent_governor h rfl (executeAwaiting_governor s)
  | .txFrameStart =>
    refine workingEvent_governor h rfl (.guard ?_)
    split
    · exact .refl s
    · next c _ => cases c <;> exact .of_same rfl rfl
  | .chassisRecover _ => exact row rfl fun _ => .recover
  | .ptoEngage _ d => exact row rfl fun _ => .engage d
  | .ptoDisengage _ d => exact row rfl fun _ => .disengage d
  | .faultClear _ d => exact row rfl fun _ => .faultClear d
  | .govern _ m v => exact row rfl fun _ => .govern m v
  | .pumpIdle _ => exact row rfl fun _ => .pumpIdle
  | .resume _ => exact row rfl fun _ => .resume
  | .fillStart _ v => exact row rfl fun _ => .fillStart v
  | .fillStop _ => exact row rfl fun _ => .fillStop
  | .foam _ sel ratio => exact row rfl fun _ => .foam sel ratio
  | .release _ a => exact row rfl fun _ => .release a
  | .force _ v => exact row rfl fun _ => .force v
  | .identify _ => exact row rfl fun _ => .identify
  | .read _ o i => exact row rfl fun _ => .read o i
  | .snapshot _ => exact row rfl fun _ => .snapshot
  | .store tag => exact row rfl fun _ => .store tag
  | .recall _ => exact row rfl fun _ => .recallStored
  | .monitorAdd _ o i => exact row rfl fun _ => .monitor true o i
  | .monitorRemove _ o i => exact row rfl fun _ => .monitor false o i
  | .reportRate _ v => exact row rfl fun _ => .reportRate v
  | .restart _ => exact row rfl fun _ => .restart
  | .unknownKind tag kind =>
    cases h
    split
    · exact .inl rfl
    · exact request_governor fun _ => .plain _
  | .set tag o i es =>
    cases h
    split
    · refine request_governor fun s => ?_
      split
      · exact .plain _
      · exact .set o i es
    · exact .inl rfl

/-- A transmit error leaves the governor's record, and the port on the bus or without a throttle path (R41, R42). -/
theorem transmitError_governorEffect (h : exec .transmitError s = .next t) :
    EventOf GovernorEffect s t ∨ EventOf PathFell s t := by
  cases Host.Outcome.next.inj h
  by_cases hw : s.working = true
  · rw [workingEvent_settle _ hw]
    split
    · unfold endAttempt
      split
      · exact .inl (.inr ⟨s, .refl s, rfl⟩)
      · next i _ => exact (sendFailed_governor i s).imp (fun h => .inr ⟨_, h, rfl⟩) (fun h => .inr ⟨_, h, rfl⟩)
    · exact .inl (.inr ⟨s, .refl s, rfl⟩)
  · refine .inl (event_eventOf (f := fun s => if s.working then _ else s) ?_)
    rw [if_neg hw]
    exact .refl s

end

end Sys2Proof.Machine
end

section
/-! SUPPORT. What the governor's reaction leaves, by the drives, the vehicle and the throttle path (R79 to R86). -/

namespace Sys2Proof.Machine

/-! ### The reaction after the throttle path -/

/-- What the governor makes of the drives, the vehicle and the stop timer (R79 to R83), the throttle path being taken. -/
def followSources (s : State) (g : Governor) : Governor :=
  watchForStop s (rollWithAux s (leaveWindDown s
    (if governedDrive s.pto = g.governed then g else changeGoverned s (governedDrive s.pto) g)))

/-- The reaction is the throttle path's part and the rest. -/
theorem governorReact_eq (s : State) :
    governorReact s = (followSources s (followPath s s.gov).1, (followPath s s.gov).2) := rfl

/-- Two states that the governor cannot tell apart but for the port. -/
theorem followSources_sees {v t : State} (h : Sees v t) (hp : t.pto = v.pto) (g : Governor) :
    followSources t g = followSources v g := by
  have hst := h.stationary
  simp only [followSources, watchForStop, rollWithAux, leaveWindDown, changeGoverned, hst, hp, h.settings, h.uptime]

section
variable {s : State} {g : Governor}

/-- A throttle path that is not newly lost is taken, and nothing else (R85). -/
theorem followPath_kept (h : pathOf s.chassis.port g.path = .lost → g.path = .lost) :
    followPath s g = ({ g with path := pathOf s.chassis.port g.path }, []) :=
  if_neg fun hc => by rw [h hc.1] at hc; exact absurd hc.2 nofun

/-- The governor whose throttle path is lost (R85). -/
def withoutPath (g : Governor) : Governor :=
  if g.mode ∈ [.off, .idle, .roll] then { g with path := .lost } else { enterIdle g with path := .lost }

/-- The loss of the throttle path, and its ALARM (R85). -/
theorem followPath_lost (hp : pathOf s.chassis.port g.path = .lost) (ha : g.path = .available) :
    followPath s g = (withoutPath g, if g.mode = .off then [] else [noticeThrottlePathLost g.governed g.mode]) := by
  unfold followPath withoutPath
  dsimp only
  rw [if_pos ⟨hp, ha⟩]
  cases hm : g.mode <;> rfl

/-! ### A change of the governed drive -/

/-- After a change of the governed drive nothing further follows (R80, R81). -/
theorem followSources_changed (h : governedDrive s.pto ≠ g.governed) :
    followSources s g = changeGoverned s (governedDrive s.pto) g := by
  have rolled (x : Governor) (hst : s.stationary = false) :
      watchForStop s (rollWithAux s (leaveWindDown s (enterRoll s.settings.gov x))) = enterRoll s.settings.gov x :=
    followers_of_stays (fun d hd => by cases hd) (fun _ _ => .inl rfl)
      fun _ => by rw [hst]; exact ⟨fun hn => absurd rfl hn, nofun⟩
  have idle (x : Governor) (hm : x.mode = .idle)
      (hw : ∀ d, x.windDown = some d → (s.pto.drive d).state = .windingDown ∧ (d = .aux → s.stationary = true))
      (ha : ¬ (x.governed = some .aux ∧ s.stationary = false)) :
      watchForStop s (rollWithAux s (leaveWindDown s x)) = x :=
    followers_of_stays hw (fun h1 h2 => absurd ⟨h1, h2⟩ ha) fun hr => by rw [hm] at hr; cases hr
  unfold followSources
  rw [if_neg h]
  generalize governedDrive s.pto = new at h
  unfold changeGoverned
  split
  · next d _ =>
    dsimp only
    split
    · next hc => exact rolled _ hc.2
    · next hc => exact idle _ rfl (fun _ hd => by cases hd) fun ⟨h1, h2⟩ => hc ⟨Option.some.inj h1, h2⟩
  · next d _ =>
    dsimp only
    split
    · next hc => exact rolled _ hc.2
    · next hc => exact idle _ rfl (fun _ hd => by cases hd) fun ⟨h1, h2⟩ => hc ⟨Option.some.inj h1, h2⟩
  · next d _ =>
    split
    · next hc =>
      refine idle _ rfl (fun d' hd' => ?_) (fun ⟨ha, _⟩ => by cases ha)
      obtain rfl : d = d' := Option.some.inj hd'
      exact ⟨hc.1, fun ha => hc.2.resolve_left (by rw [ha]; exact nofun)⟩
    · exact followers_of_stays (fun d hd => by cases hd) (fun _ _ => .inr rfl) (fun hr => by cases hr)
  · next hn => exact absurd hn.symm h

/-- While the governed drive stays, the wind-down drive, the vehicle and the stop timer follow (R81 to R83). -/
theorem followSources_same (h : governedDrive s.pto = g.governed) :
    followSources s g = watchForStop s (rollWithAux s (leaveWindDown s g)) := by
  unfold followSources
  rw [if_pos h]

/-- The governed drive after the reaction (R79). -/
theorem followSources_governed : (followSources s g).governed = governedDrive s.pto := by
  by_cases h : governedDrive s.pto = g.governed
  · rw [followSources_same h, watchForStop_eq]
    have h4 : (rollWithAux s (leaveWindDown s g)).governed = (leaveWindDown s g).governed := by
      rcases rollWithAux_cases s (leaveWindDown s g) with ⟨e, -⟩ | ⟨-, e⟩
      · rw [e]
      · rw [e]; rfl
    have h3 : (leaveWindDown s g).governed = g.governed := by
      rcases leaveWindDown_cases s g with ⟨e, -⟩ | ⟨-, e⟩
      · rw [e]
      · rw [e]; rfl
    exact (h4.trans h3).trans h.symm
  · rw [followSources_changed h]
    exact changeGoverned_governed _ _ _

/-! ### What the reaction leaves, by the drives and the vehicle -/

theorem not_stationary_iff (s : State) : s.stationary = false ↔ s.vehicle ≠ .stationary := by
  rw [← Bool.not_eq_true, stationary_iff]

/-- A drive other than AUX, or a standing vehicle, brings no ROLL (R80, R82). -/
theorem staysIdle {d : DriveId} (h : d = .main ∨ s.vehicle = .stationary) : ¬ (d = .aux ∧ s.stationary = false) := by
  rw [not_stationary_iff]
  rintro ⟨rfl, hv⟩
  exact h.elim nofun hv

/-- A governed drive appears: IDLE, or ROLL for an AUX in a moving vehicle (R80, R82). -/
theorem followSources_appears {d : DriveId} (hn : g.governed = none) (hm : g.mode = .off ∨ g.mode = .idle)
    (hd : governedDrive s.pto = some d) :
    (d = .main ∨ s.vehicle = .stationary → (followSources s g).mode = .idle ∧ (followSources s g).windDown = none ∧
      (followSources s g).request = (if g.mode = .off then s.settings.gov.idleRpm else g.request) ∧
      (followSources s g).resume = if g.windDown = some d then g.resume else none) ∧
    (d = .aux → s.vehicle ≠ .stationary →
      EnteredRoll s.settings.gov (if g.windDown = some d then g.resume else none) (followSources s g)) := by
  rw [followSources_changed (by rw [hd, hn]; exact nofun), hd]
  simp only [changeGoverned, hn]
  refine ⟨fun hc => ?_, fun ha hv => ?_⟩
  · rw [if_neg (staysIdle hc)]
    exact ⟨rfl, rfl, rfl, rfl⟩
  · rw [if_pos (⟨ha, (not_stationary_iff s).mpr hv⟩ : _ ∧ _)]
    refine ⟨rfl, rfl, rfl, rfl, rfl, rfl, ?_⟩
    rcases hm with hm | hm <;> simp [enterRoll, resumeOnLeaving, hm]

/-- The governed drive changes: IDLE, or ROLL for an AUX in a moving vehicle (R80, R82). -/
theorem followSources_changes {d e : DriveId} (hn : g.governed = some d) (hne : d ≠ e)
    (hd : governedDrive s.pto = some e) :
    (e = .main ∨ s.vehicle = .stationary → (followSources s g).mode = .idle ∧ (followSources s g).windDown = none ∧
      (followSources s g).resume = none ∧ (followSources s g).hold = none ∧ (followSources s g).stop = none ∧
      (followSources s g).request = g.request) ∧
    (e = .aux → s.vehicle ≠ .stationary → EnteredRoll s.settings.gov none (followSources s g)) := by
  rw [followSources_changed (by rw [hd, hn]; exact fun h => hne (Option.some.inj h).symm), hd]
  simp only [changeGoverned, hn]
  refine ⟨fun hc => ?_, fun ha hv => ?_⟩
  · rw [if_neg (staysIdle hc)]
    exact ⟨rfl, rfl, rfl, rfl, rfl, rfl⟩
  · rw [if_pos (⟨ha, (not_stationary_iff s).mpr hv⟩ : _ ∧ _)]
    exact ⟨rfl, rfl, rfl, rfl, rfl, rfl, rfl⟩

/-- The governed drive is lost: wind-down IDLE or OFF (R81). -/
theorem followSources_loses {d : DriveId} (hn : g.governed = some d) (hd : governedDrive s.pto = none) :
    ((s.pto.drive d).state = .windingDown → d = .main ∨ s.vehicle = .stationary →
      (followSources s g).mode = .idle ∧ (followSources s g).windDown = some d ∧
      (followSources s g).resume = resumeOnLeaving g ∧ (followSources s g).hold = none) ∧
    (¬ ((s.pto.drive d).state = .windingDown ∧ (d = .main ∨ s.vehicle = .stationary)) →
      EnteredOff s.settings.gov (followSources s g)) := by
  rw [followSources_changed (by rw [hd, hn]; exact nofun), hd]
  simp only [changeGoverned, hn, stationary_iff]
  refine ⟨fun h1 h2 => ?_, fun hc => ?_⟩
  · rw [if_pos ⟨h1, h2⟩]
    exact ⟨rfl, rfl, rfl, rfl⟩
  · rw [if_neg hc]
    exact ⟨rfl, rfl, rfl, rfl, rfl, rfl, rfl, rfl⟩

/-- The wind-down drive is lost: OFF (R81). -/
theorem followSources_endsWindDown {d : DriveId} (hw : g.windDown = some d) (hn : g.governed = none)
    (hd : governedDrive s.pto = none)
    (hc : (s.pto.drive d).state ≠ .windingDown ∨ (d = .aux ∧ s.vehicle ≠ .stationary)) :
    EnteredOff s.settings.gov (followSources s g) := by
  have hleave : leaveWindDown s g = enterOff s.settings.gov g := by
    rcases leaveWindDown_cases s g with ⟨-, h⟩ | ⟨-, h⟩
    · obtain ⟨hs, ha⟩ := h d hw
      rcases hc with hc | ⟨hd, hv⟩
      · exact absurd hs hc
      · exact absurd ((stationary_iff s).mp (ha hd)) hv
    · exact h
  rw [followSources_same (hd.trans hn.symm), hleave, rollWithAux_of_stays fun _ _ => .inr rfl,
    watchForStop_of_stays fun hr => by cases hr]
  exact ⟨rfl, rfl, rfl, rfl, rfl, rfl, rfl, rfl⟩

/-- AUX stays governed in a vehicle that is no longer stationary: ROLL (R82). -/
theorem followSources_rolls (hn : g.governed = some .aux) (hd : governedDrive s.pto = some .aux) (hw : g.windDown = none)
    (hr : g.mode ≠ .roll) (ho : g.mode ≠ .off) (hv : s.vehicle ≠ .stationary) :
    EnteredRoll s.settings.gov (resumeOnLeaving g) (followSources s g) := by
  have hst := (not_stationary_iff s).mpr hv
  rw [followSources_same (hd.trans hn.symm), leaveWindDown_of_stays (by rw [hw]; exact nofun),
    show rollWithAux s g = enterRoll s.settings.gov g from if_pos ⟨hn, hst, hr, ho⟩,
    watchForStop_of_stays fun _ => by rw [hst]; exact ⟨fun hn => absurd rfl hn, nofun⟩]
  exact ⟨rfl, rfl, rfl, rfl, rfl, rfl, rfl⟩

/-- A governor that stays in ROLL has its stop timer follow the vehicle (R83). -/
theorem followSources_stop (hr : g.mode = .roll) (hn : g.governed = some .aux) (hw : g.windDown = none)
    (h : (followSources s g).mode = .roll) :
    (g.stop = none → s.vehicle = .stationary → (followSources s g).stop = some (s.time.uptime + 2000#32)) ∧
    (g.stop ≠ none → s.vehicle = .stationary → (followSources s g).stop = g.stop) ∧
    (s.vehicle ≠ .stationary → (followSources s g).stop = none) := by
  have hd : governedDrive s.pto = some .aux := by
    by_contra hne
    rw [followSources_changed (by rw [hn]; exact hne)] at h
    rcases hnew : governedDrive s.pto with _ | _ | _
    · rw [hnew] at h
      simp only [changeGoverned, hn] at h
      split at h <;> cases h
    · rw [hnew] at h
      simp only [changeGoverned, hn] at h
      rw [if_neg (fun hc => by cases hc.1)] at h
      cases h
    · exact hne hnew
  have hsame : followSources s g = watchForStop s g := by
    rw [followSources_same (hd.trans hn.symm), leaveWindDown_of_stays (by rw [hw]; exact nofun),
      rollWithAux_of_stays fun _ _ => .inl hr]
  rw [hsame, watchForStop_eq]
  simp only [hr, if_true, stationary_iff]
  refine ⟨fun hn hv => ?_, fun hn hv => ?_, fun hv => if_neg hv⟩
  · rw [if_pos hv, if_pos hn]; rfl
  · rw [if_pos hv, if_neg hn]

end

end Sys2Proof.Machine
end

section
/-! SUPPORT. The governor's turn at any event of a part whose records follow one another (R79 to R86). -/

namespace Sys2Proof.Machine

/-! ### The two ways an event can end -/

/-- An event that leaves the drives and the vehicle, and with them the governed and the wind-down drive. -/
structure KeptTurn (s t : State) : Prop where
  pto : t.pto = s.pto
  vehicle : t.vehicle = s.vehicle
  governed : t.gov.governed = s.gov.governed
  windDown : t.gov.windDown = s.gov.windDown
  stop : s.gov.mode = .roll → t.gov.mode = .roll → t.gov.stop = s.gov.stop

/-- The governor's record as an event's own effect leaves it before the reaction, the throttle path being taken. -/
def beforeSources (g : Governor) (first : Bool) (p : ThrottlePath) : Governor := { g with firstStep := first, path := p }

/-- An event whose own effect leaves the governor, so that its end is what the reaction makes of it. -/
def LeftTurn (s t : State) : Prop := ∃ first p, t.gov = followSources t (beforeSources s.gov first p)

/-- What the loss of the throttle path leaves (R85). -/
structure PathTaken (s t : State) : Prop where
  gov : t.gov = withoutPath s.gov
  alarm : s.gov.mode ≠ .off → RoomLeft s.notices → AlarmWaits .throttlePathLost (driveOrNone s.gov.governed) t.notices

/-- The governor's turn at an event. -/
structure EventTurn (s t : State) : Prop where
  sources : KeptTurn s t ∨ LeftTurn s t
  path : s.gov.path = .available → t.gov.path = .lost → PathTaken s t

/-! ### Records that follow one another leave nothing to do -/

/-- A governor that follows the drives, the vehicle and the port is one that its reaction leaves. -/
theorem GovernorFollows.stays {s : State} (h : GovernorFollows s) (hd : governedDrive s.pto = s.gov.governed) :
    GovernorStays s s.gov where
  path := by
    have hp := h.path
    cases hg : s.gov.path <;> cases hport : s.chassis.port <;> simp_all [pathOf]
  governed := hd
  windDown d hw := by
    obtain ⟨-, hs, ha⟩ := h.windDown d hw
    exact ⟨hs, fun hd => (stationary_iff s).mpr (ha hd)⟩
  roll ha hs := .inl (h.rollsWithAux ha ((not_stationary_iff s).mp hs))
  stop hr := by rw [h.stop, stationary_iff]; exact and_iff_right hr

/-- Records that follow one another, and a power controller at rest, leave the sequencer and the governor nothing to do. -/
theorem RecordsFollow.quiet {s : State} (h : RecordsFollow s) (hw : s.working = true) (hp : powerReact s = s) :
    Quiet s := by
  have hready (d : DriveId) : (s.pto.drive d).ready = (decide ((s.pto.drive d).state = .engaged) && turning (ptoEnv s) d) := by
    rw [Bool.eq_iff_iff, Bool.and_eq_true, decide_eq_true_eq, turning_iff]
    cases d
    · exact h.mainReady
    · exact h.auxReady
  obtain ⟨hmain, haux⟩ := governedDrive_of_ready (t := s) fun d hd => by
    rw [hready, Bool.and_eq_true, decide_eq_true_eq] at hd
    exact hd.1
  have hdrive : governedDrive s.pto = s.gov.governed := by
    rw [← h.governedMain] at hmain
    rw [← h.governedAux] at haux
    rcases hn : governedDrive s.pto with _ | _ | _ <;> rcases hg : s.gov.governed with _ | _ | _ <;> simp_all
  refine ⟨hw, by rw [← hp]; exact powerCalm_powerReact s, ?_, h.governor.stays hdrive⟩
  have hm : s.pto.main.ready = (decide (s.pto.main.state = .engaged) && turning (ptoEnv s) .main) := hready .main
  have ha : s.pto.aux.ready = (decide (s.pto.aux.state = .engaged) && turning (ptoEnv s) .aux) := hready .aux
  unfold refreshReady
  rw [← hm, ← ha]

/-! ### The turn of each effect -/

section
variable {s u t : State}

/-- An event that does nothing. -/
theorem eventTurn_refl (s : State) : EventTurn s s where
  sources := .inl ⟨rfl, rfl, rfl, rfl, fun _ _ => rfl⟩
  path ha hl := absurd (ha.symm.trans hl) nofun

/-- An effect that changes the governor's record alone. -/
theorem GovernorMoved.turn (hq : Quiet s) (h : GovernorMoved s u) : EventTurn s (settle s u) := by
  obtain ⟨v, hv, hpto, -⟩ := hq.governorTurn h.undrawn.toSteadySources
  have hm := h.move hq.governor
  have hgov := hq.settle_gov h.undrawn hm
  refine ⟨.inl ⟨hv.drives.trans hpto, hv.ends.vehicle.trans h.undrawn.vehicle, by rw [hgov]; exact hm.governed,
    by rw [hgov]; exact hm.windDown, fun h1 h2 => ?_⟩, fun ha hl => ?_⟩
  · rw [hgov] at h2 ⊢
    exact hm.mode.elim (fun hs => hs.2 h2) fun hn => absurd h2 hn.1
  · rw [hgov, hm.path, ha] at hl
    cases hl

/-- An effect that leaves the governor's record. -/
theorem GovernorLeft.turn (hf : GovernorFollows s) (hw : u.working = true) (h : GovernorLeft s u) :
    EventTurn s (settle s u) := by
  obtain ⟨v, hv⟩ := settle_governorTurn s hw
  have hlost : pathOf v.chassis.port v.gov.path = .lost → s.gov.path = .lost := by
    rw [hv.port, hv.gov, h.gov]
    intro hl
    by_cases hp : PathLost u.chassis.port
    · exact hf.path.mpr (h.port hp)
    · unfold PathLost at hp
      cases hport : u.chassis.port <;> simp_all [pathOf]
  have hkept : pathOf v.chassis.port v.gov.path = .lost → v.gov.path = .lost := fun hl => by
    rw [hv.gov, h.gov]
    exact hlost hl
  have hsees : Sees v (settle s u) := hv.finds.symm.trans hv.ends
  refine ⟨.inr ⟨u.gov.firstStep, pathOf v.chassis.port v.gov.path, ?_⟩, fun ha hl => ?_⟩
  · rw [hv.result, governorReact_eq, followPath_kept hkept, followSources_sees hsees hv.drives]
    unfold beforeSources
    rw [hv.gov, h.gov]
  · rw [hv.result, governorReact_path] at hl
    rw [hlost hl] at ha
    cases ha

/-- The governor's notice in an event of a working part: what it is posted to, and what follows (R181). -/
theorem settle_governorNotices (b : State) (hw : u.working = true) : ∃ v, ReactedBy 17 u v ∧ v.gov = u.gov ∧
    ReactedBy 4 (settleGovernor v) (settle b u) := by
  let mid := settleReaders b (settleFill b (settleBrake b u))
  have hmid := ((reacted_settleBrake b u).trans (reacted_settleFill b _)).trans (reacted_settleReaders b _)
  have hv := hmid.trans <| (reacted_powerReact mid).trans <| (reacted_settlePto b _).trans (reacted_powerReact _)
  refine ⟨powerReact (settlePto b (powerReact mid)), hv, ?_, ?_⟩
  · simp only [powerReact_gov, settlePto_gov]
    rfl
  · rw [settle_working b hw]
    exact (reacted_settleProtection b _).trans <| (reacted_settleLockout _).trans <| (reacted_settleChassis mid _).trans <|
      (reacted_refreshOutputs _).trans (reacted_settleMonitors mid _)

/-- A port without a throttle path has none, whatever it had. -/
theorem pathOf_lost {p : PortState} (h : PathLost p) (old : ThrottlePath) : pathOf p old = .lost := by
  rcases h with h | h <;> rw [h] <;> rfl

/-- A governor that its reaction leaves, with another port and the path that goes with it. -/
theorem GovernorStays.with_path {v : State} {g : Governor} (h : GovernorStays s g) (hpto : v.pto = s.pto)
    (hst : v.stationary = s.stationary) {p : ThrottlePath} (hp : pathOf v.chassis.port p = p) :
    GovernorStays v { g with path := p } where
  path := hp
  governed := by rw [hpto]; exact h.governed
  windDown := by rw [hpto, hst]; exact h.windDown
  roll := by rw [hst]; exact h.roll
  stop := by rw [hst]; exact h.stop

/-- The governor that has lost its throttle path is one that the rest of its reaction leaves. -/
theorem withoutPath_stays {v : State} (h : GovernorStays s s.gov) (hpto : v.pto = s.pto) (hst : v.stationary = s.stationary)
    (hl : PathLost v.chassis.port) : GovernorStays v (withoutPath s.gov) := by
  unfold withoutPath
  split
  · exact h.with_path hpto hst (pathOf_lost hl _)
  · next hn => exact (h.move (enterIdle_move fun hc => hn (by
      simp only [List.mem_cons, List.not_mem_nil, or_false] at hc ⊢
      tauto))).with_path hpto hst (pathOf_lost hl _)

/-- A transmit error that takes the throttle path away. -/
theorem PathFell.turn (hq : Quiet s) (h : PathFell s u) : EventTurn s (settle s u) := by
  obtain ⟨v, hv, hpto, hst⟩ := hq.governorTurn h.sources
  have hgov : v.gov = s.gov := hv.gov.trans h.gov
  have hport : PathLost v.chassis.port := by rw [hv.port]; exact h.lost
  have hveh : (settle s u).vehicle = s.vehicle := hv.ends.vehicle.trans h.sources.vehicle
  have hdrives : (settle s u).pto = s.pto := hv.drives.trans hpto
  cases hp : s.gov.path with
  | lost =>
    have hstays : GovernorStays v v.gov := by
      rw [hgov]
      exact hq.governor.with_path hpto hst (by rw [hp]; exact pathOf_lost hport _)
    have hend : (settle s u).gov = s.gov := by rw [hv.result, hstays.react, hgov]
    exact ⟨.inl ⟨hdrives, hveh, by rw [hend], by rw [hend], fun _ _ => by rw [hend]⟩, fun ha => by rw [hp] at ha; cases ha⟩
  | available =>
    have hfollow : followPath v v.gov = (withoutPath s.gov, if s.gov.mode = .off then []
        else [noticeThrottlePathLost s.gov.governed s.gov.mode]) := by
      rw [hgov]
      exact followPath_lost (pathOf_lost hport _) hp
    have hend : (settle s u).gov = withoutPath s.gov := by
      rw [hv.result, (withoutPath_stays hq.governor hpto hst hport).react_of_follow hfollow]
    have hsame : (withoutPath s.gov).governed = s.gov.governed ∧ (withoutPath s.gov).windDown = s.gov.windDown ∧
        (s.gov.mode = .roll → (withoutPath s.gov).stop = s.gov.stop) := by
      unfold withoutPath
      split
      · exact ⟨rfl, rfl, fun _ => rfl⟩
      · next hn => exact ⟨rfl, rfl, fun hr => absurd (by rw [hr]; decide) hn⟩
    refine ⟨.inl ⟨hdrives, hveh, by rw [hend]; exact hsame.1, by rw [hend]; exact hsame.2.1,
      fun hr _ => by rw [hend]; exact hsame.2.2 hr⟩, fun _ _ => ⟨hend, fun ho hroom => ?_⟩⟩
    obtain ⟨w, hw, hwgov, hrest⟩ := settle_governorNotices s (h.sources.working.trans hq.working)
    have hposts : (governorReact w).2 = [noticeThrottlePathLost s.gov.governed s.gov.mode] := by
      have hwpath : pathOf w.chassis.port s.gov.path = .lost := by
        rw [hw.portState]
        exact pathOf_lost h.lost _
      rw [governorReact_eq, hwgov, h.gov, followPath_lost hwpath hp, if_neg ho]
    refine hrest.alarmWaits ?_
    rw [settleGovernor_notices, hposts]
    refine postNotice_alarm _ _ _ rfl (show _ < 32 from ?_)
    obtain ⟨ns, hlen, hq', -⟩ := hw.posted
    have hnotices := h.notices
    have hpost := postAll_length u.time.uptime u.notices ns
    unfold RoomLeft at hroom
    rw [hq']
    omega

/-- Every command in a part that goes on working, whose records follow one another and whose power controller has nothing left
to do. -/
theorem Continues.governorTurn {c : Instr} (h : Continues c s t) (hrec : RecordsFollow s) (hp : powerReact s = s) :
    EventTurn s t := by
  have hq := hrec.quiet h.1 hp
  have effect {v : State} (hv : v.working = true) (he : GovernorEffect s v) : EventTurn s (settle s v) :=
    he.elim (fun hl => hl.turn hrec.governor hv) fun hm => hm.turn hq
  have event (he : EventOf GovernorEffect s t) : EventTurn s t := by
    rcases he with rfl | ⟨v, hv, rfl⟩
    · exact eventTurn_refl t
    · exact effect ((reacted_settle s v).working.symm.trans h.2.1) hv
  rcases h.event_or_same with hc | rfl
  · by_cases he : c = .transmitError
    · subst he
      rcases transmitError_governorEffect h.2.2.1 with he | he
      · exact event he
      · rcases he with rfl | ⟨v, hv, rfl⟩
        · exact eventTurn_refl t
        · exact hv.turn hq
    · exact event (exec_governorEffect hc he h.2.2.1)
  · exact eventTurn_refl t

end

end Sys2Proof.Machine
end

section
/-! SUPPORT. The statement's clauses about any event, from the governor's turn, and O35 (R79 to R86, R89). -/

namespace Sys2Proof.Machine

/-- The resume mode on leaving a mode for IDLE or ROLL is R86's. -/
theorem resumeOnLeaving_eq (g : Governor) : resumeOnLeaving g = (if g.mode = .pressure ∨ g.mode = .hold then some .pressure
    else if g.mode = .speed then some .speed else g.resume) := by
  unfold resumeOnLeaving
  cases g.mode <;> rfl

/-- In IDLE at idle_rpm, below every ceiling, the frame asks for idle_rpm (R96). -/
theorem engineRequest_idle {t : State} (hm : t.gov.mode = .idle) (hr : t.gov.request = t.settings.gov.idleRpm)
    (hc : ∀ x ∈ ceilingsInForce t, t.settings.gov.idleRpm ≤ x) : t.engineRequest = some t.settings.gov.idleRpm := by
  have hle := hc _ (ceiling_least t).1
  unfold State.engineRequest
  rw [hm, hr]
  unfold clampInt
  simp [hle]

/-- A governor with a governed drive winds none down (R81). -/
theorem GovernorFollows.noWindDown {s : State} (hf : GovernorFollows s) {d : DriveId} (hn : s.gov.governed = some d) :
    s.gov.windDown = .none := by
  by_contra hw
  obtain ⟨d', hd'⟩ := Option.ne_none_iff_exists'.mp hw
  rw [(hf.windDown d' hd').1] at hn
  cases hn

section
variable {s t : State} (h : KeptTurn s t ∨ LeftTurn s t)
include h

/-- A governed drive appears. -/
theorem turn_appears (hf : GovernorFollows s) {d : DriveId} (hn : s.gov.governed = none) (hd : t.gov.governed = some d) :
    (d = .main ∨ t.vehicle = .stationary → t.gov.mode = .idle ∧ t.gov.windDown = none ∧
      t.gov.request = (if s.gov.mode = .off then t.settings.gov.idleRpm else s.gov.request) ∧
      (s.gov.mode = .off → (∀ x ∈ ceilingsInForce t, t.settings.gov.idleRpm ≤ x) →
        t.engineRequest = some t.settings.gov.idleRpm) ∧
      t.gov.resume = if s.gov.windDown = some d then s.gov.resume else none) ∧
    (d = .aux → t.vehicle ≠ .stationary →
      EnteredRoll t.settings.gov (if s.gov.windDown = some d then s.gov.resume else none) t.gov) := by
  rcases h with hk | ⟨first, p, hx⟩
  · rw [hk.governed, hn] at hd
    cases hd
  · have hdrive : governedDrive t.pto = some d := by rw [← hd, hx, followSources_governed]
    obtain ⟨h1, h2⟩ := followSources_appears (g := beforeSources s.gov first p) hn
      ((hf.none hn).imp_right And.left) hdrive
    rw [← hx] at h1 h2
    refine ⟨fun hc => ?_, h2⟩
    obtain ⟨hm, hw, hr, hres⟩ := h1 hc
    exact ⟨hm, hw, hr, fun ho hall => engineRequest_idle hm (hr.trans (if_pos ho)) hall, hres⟩

/-- The governed drive changes. -/
theorem turn_changes {d e : DriveId} (hn : s.gov.governed = some d) (hd : t.gov.governed = some e) (hne : d ≠ e) :
    (e = .main ∨ t.vehicle = .stationary → t.gov.mode = .idle ∧ t.gov.windDown = none ∧ t.gov.resume = none ∧
      t.gov.hold = none ∧ t.gov.stop = none ∧ t.gov.request = s.gov.request) ∧
    (e = .aux → t.vehicle ≠ .stationary → EnteredRoll t.settings.gov none t.gov) := by
  rcases h with hk | ⟨first, p, hx⟩
  · rw [hk.governed, hn] at hd
    exact absurd (Option.some.inj hd) hne
  · have hdrive : governedDrive t.pto = some e := by rw [← hd, hx, followSources_governed]
    rw [hx]
    exact followSources_changes (g := beforeSources s.gov first p) hn hne hdrive

/-- The governed drive is lost. -/
theorem turn_loses {d : DriveId} (hn : s.gov.governed = some d) (hd : t.gov.governed = none) :
    ((t.pto.drive d).state = .windingDown → d = .main ∨ t.vehicle = .stationary →
      t.gov.mode = .idle ∧ t.gov.windDown = some d ∧ t.gov.resume = resumeOnLeaving s.gov ∧ t.gov.hold = none) ∧
    (¬ ((t.pto.drive d).state = .windingDown ∧ (d = .main ∨ t.vehicle = .stationary)) →
      EnteredOff t.settings.gov t.gov) := by
  rcases h with hk | ⟨first, p, hx⟩
  · rw [hk.governed, hn] at hd
    cases hd
  · have hdrive : governedDrive t.pto = none := by rw [← hd, hx, followSources_governed]
    rw [hx]
    exact followSources_loses (g := beforeSources s.gov first p) hn hdrive

/-- The wind-down drive is lost. -/
theorem turn_endsWindDown (hf : GovernorFollows s) {d : DriveId} (hw : s.gov.windDown = some d)
    (hd : t.gov.governed = none) (hc : (t.pto.drive d).state ≠ .windingDown ∨ (d = .aux ∧ t.vehicle ≠ .stationary)) :
    EnteredOff t.settings.gov t.gov := by
  obtain ⟨hn, hs, ha⟩ := hf.windDown d hw
  rcases h with hk | ⟨first, p, hx⟩
  · rw [hk.pto, hk.vehicle] at hc
    exact hc.elim (fun hc => absurd hs hc) fun ⟨hd, hv⟩ => absurd (ha hd) hv
  · have hdrive : governedDrive t.pto = none := by rw [← hd, hx, followSources_governed]
    rw [hx]
    exact followSources_endsWindDown (g := beforeSources s.gov first p) hw hn hdrive hc

/-- AUX in a vehicle that ceases to be stationary. -/
theorem turn_rolls (hf : GovernorFollows s) (hn : s.gov.governed = some .aux) (hd : t.gov.governed = some .aux)
    (hs : s.vehicle = .stationary) (hv : t.vehicle ≠ .stationary) (hr : s.gov.mode ≠ .roll) :
    EnteredRoll t.settings.gov (resumeOnLeaving s.gov) t.gov := by
  rcases h with hk | ⟨first, p, hx⟩
  · rw [hk.vehicle] at hv
    exact absurd hs hv
  · have hdrive : governedDrive t.pto = some .aux := by rw [← hd, hx, followSources_governed]
    have ho : s.gov.mode ≠ .off := fun ho => by rw [(hf.off ho).1] at hn; cases hn
    rw [hx]
    exact followSources_rolls (g := beforeSources s.gov first p) hn hdrive (hf.noWindDown hn) hr ho hv

/-- The stop timer of a governor that stays in ROLL. -/
theorem turn_stops (hf : GovernorFollows s) (hr : s.gov.mode = .roll) (ht : t.gov.mode = .roll) :
    (s.vehicle ≠ .stationary → t.vehicle = .stationary → t.gov.stop = some (t.time.uptime + 2000#32)) ∧
    (s.vehicle = .stationary → t.vehicle = .stationary → t.gov.stop = s.gov.stop) ∧
    (t.vehicle ≠ .stationary → t.gov.stop = none) := by
  have hstop : s.gov.stop ≠ none ↔ s.vehicle = .stationary := hf.stop.trans (and_iff_right hr)
  rcases h with hk | ⟨first, p, hx⟩
  · rw [hk.vehicle, hk.stop hr ht]
    exact ⟨fun h1 h2 => absurd h2 h1, fun _ _ => rfl, fun hv => not_not.mp fun hn => hv (hstop.mp hn)⟩
  · have hn := hf.rolling hr
    have hmode := ht
    rw [hx] at hmode ⊢
    obtain ⟨h1, h2, h3⟩ := followSources_stop (g := beforeSources s.gov first p) hr hn (hf.noWindDown hn) hmode
    exact ⟨fun hv => h1 (not_not.mp fun hs => hv (hstop.mp hs)), fun hv => h2 (hstop.mpr hv), h3⟩

end

/-- The loss of the throttle path. -/
theorem PathTaken.brings {s t : State} (h : PathTaken s t) :
    (s.gov.mode ∈ [.pressure, .speed, .hold] → t.gov.mode = .idle ∧ t.gov.resume = resumeOnLeaving s.gov ∧
      t.gov.hold = none) ∧
    (s.gov.mode ∈ [.off, .idle, .roll] → t.gov.mode = s.gov.mode) := by
  rw [h.gov]
  unfold withoutPath
  refine ⟨fun hm => ?_, fun hm => ?_⟩
  · rw [if_neg fun hn => by
      simp only [List.mem_cons, List.not_mem_nil, or_false] at hm hn
      rcases hm with hm | hm | hm <;> simp [hm] at hn]
    exact ⟨rfl, rfl, rfl⟩
  · rw [if_pos hm]

/-- Settles O35: the timers and PUMP_IDLE by their own effect, and any other event by the governor's turn, which is its reaction
to what changes or nothing at all. -/
theorem governorReturnsToIdle : Obligations.GovernorReturnsToIdle := by
  unfold Obligations.GovernorReturnsToIdle
  refine ⟨fun s hw steady hm hd => ?_, fun s hw steady hm hd => stopTimerExpiry_next (steady.quiet hw) hm hd,
    fun tag s u hm steady hu => ⟨fun hmode => ?_, fun hmode => ?_, fun hmode => ?_, fun hmode => ?_⟩,
    fun c s t g h resume hcont hrec hp hg hh hres => ?_⟩
  · obtain ⟨t, ht, hr, hgov⟩ := governorHoldExpiry_next (steady.quiet hw) hm hd
    refine ⟨t, ht, hr, hgov.trans ?_⟩
    unfold enterIdle
    rw [resumeOnLeaving_eq, if_pos (.inr hm)]
  · subst hu
    obtain ⟨t, ht, hr, hgov⟩ := pumpIdle_pumping hm (steady.quiet (mayExecute_working hm))
      (by rcases hmode with h | h <;> rw [h] <;> decide)
    refine ⟨t, ht, hr, hgov.trans ?_⟩
    unfold enterIdle
    rw [resumeOnLeaving_eq, if_pos hmode]
  · subst hu
    obtain ⟨t, ht, hr, hgov⟩ := pumpIdle_pumping hm (steady.quiet (mayExecute_working hm)) (by rw [hmode]; decide)
    refine ⟨t, ht, hr, hgov.trans ?_⟩
    unfold enterIdle resumeOnLeaving
    rw [hmode]
  · subst hu
    obtain ⟨t, ht, hr, hgov⟩ := pumpIdle_stays hm (steady.quiet (mayExecute_working hm)) (by rw [hmode]; decide)
    rw [if_pos hmode] at hr
    exact ⟨t, ht, hr, hgov⟩
  · subst hu
    obtain ⟨t, ht, hr, hgov⟩ := pumpIdle_stays hm (steady.quiet (mayExecute_working hm))
      (by rcases hmode with h | h <;> rw [h] <;> decide)
    rw [if_neg (by rcases hmode with h | h <;> rw [h] <;> decide)] at hr
    exact ⟨t, ht, hr, hgov⟩
  · subst hg hh
    rw [← resumeOnLeaving_eq] at hres
    subst hres
    have turn := hcont.governorTurn hrec hp
    have hf := hrec.governor
    exact ⟨fun d => turn_appears turn.sources hf, fun d e => turn_changes turn.sources,
      fun d => turn_loses turn.sources, fun d => turn_endsWindDown turn.sources hf, turn_rolls turn.sources hf,
      turn_stops turn.sources hf, fun ha hl =>
        have taken := turn.path ha hl
        ⟨taken.brings.1, taken.brings.2, taken.alarm⟩⟩

end Sys2Proof.Machine
end
